-- ==== Sys2Proof/Word.lean ====
section
/-! DEFINITION. The words of the request port and of the field line. -/

namespace Sys2Proof

/-- A byte of the request port or of the field line (R193, R116). -/
abbrev Byte := BitVec 8

/-- A two-byte quantity of the request port, high byte first on the port (R193). -/
abbrev Half := BitVec 16

/-- A 40-bit identity of an outlet unit: kind code, serial, check, most significant first (R127). -/
abbrev Identity := BitVec 40

end Sys2Proof
end

