-- ==== Sys2Proof/Config.lean ====
section
/-! DEFINITION. The capacities of the part (R192): the sizes of its collections. Nothing the spec leaves free
is needed here: no command of the BK3420 yields an undefined value. -/

namespace Sys2Proof.Config

/-- Allotment slots (R1, R192). -/
abbrev slots : Nat := 48

/-- Unit-table positions (R135, R192). -/
abbrev units : Nat := 24

/-- Outlet positions of an outlet unit (R122). -/
abbrev outlets : Nat := 4

/-- Places of the found list (R139, R192). -/
abbrev foundPlaces : Nat := 8

/-- Orders of the cut list (R155, R192). -/
abbrev cutOrders : Nat := 16

/-- Local load relays (R20). -/
abbrev relays : Nat := 8

/-- Filtered input channels (Table 3-1). -/
abbrev channels : Nat := 10

/-- Parameters (Table 11-10). -/
abbrev params : Nat := 34

end Sys2Proof.Config
end

