-- ==== Sys2Proof/Syntax.lean ====
section
/-! DEFINITION. The commands of the BK3420: one constructor per row of spec/opcode_table.json.

A request carries its parameter bytes as they cross the port (R193, Table 11-2): a byte that is out of range is the
owning block's to refuse. An event carries what the machine or the line shows the part at that moment. -/

namespace Sys2Proof

/-- The ten filtered input channels, in the order of their numbers (Table 3-1). -/
inductive Channel where
  | tach | gateShut | gateFull | fwdLimit | revLimit | setDone | clutchIn | guard | estop | lowWater
deriving DecidableEq, Repr

/-- The three bytes of a target: type, first index, second index (Table 11-3). -/
structure TargetBytes where
  kind : Byte
  first : Byte
  second : Byte
deriving DecidableEq, Repr

/-- One pair of seek readings at a bit position: the bit read and the complement read, `true` for 1 (Table 7-6). -/
structure Reading where
  bit : Bool
  complement : Bool
deriving DecidableEq, Repr

/-- The commands. -/
inductive Instr where
  -- resets and port frames
  | powerOnReset
  | pinReset
  /-- The bytes of a frame that ends while a request is in execution (R183). -/
  | writeFrameDiscarded (frame : List Byte)
  /-- The bytes of a frame that fails a check of R182. -/
  | requestDecodeFail (frame : List Byte)
  -- requests on allotments
  | post (kind : Byte) (target : TargetBytes) (claim idle : Half) (priority : Byte) (quota tag : Half) (locked : Byte)
  /-- A field whose flag is clear is not sent; it is 0 here (R194). -/
  | amend (slot flags : Byte) (claim idle : Half) (priority : Byte) (quota : Half) (locked : Byte) (tag : Half)
  | retire (slot : Byte)
  | lookup (slot : Byte)
  | find (target : TargetBytes)
  | findTag (tag : Half)
  | walkFrom (slot : Byte)
  | walkNext
  | want (slot : Byte)
  | drop (slot : Byte)
  | hold (slot : Byte)
  | free (slot : Byte)
  | nextChanged
  | dayTurn
  -- requests on the governor
  | start
  | stop
  | clearTrip
  | gateHome
  | govStatus
  -- requests on the inputs
  | inputSetup (channel polarity filter : Byte)
  | inputRead
  | inputClear (channel : Byte)
  -- requests on the outlet units
  | enrol
  | adopt (identity : Identity)
  | dropUnit (index : Byte)
  | unitInfo (index : Byte)
  | takeFound
  -- requests on the saw
  | cutAdd (thickness stroke ceiling : Half)
  | cutClear
  | cutList
  | sawStart
  | sawStop
  | sawAbort
  | sawReset
  | sawStatus
  -- parameters, attention, port
  | setParam (number : Byte) (value : Half)
  | getParam (number : Byte)
  | attnMaskSet (causes : Byte)
  | attnMaskClear (causes : Byte)
  | attnRead
  | attnAck (causes : Byte)
  | restart
  | identify
  -- input events
  /-- The pin of a channel goes high (`true`) or low. -/
  | inputRawChange (channel : Channel) (high : Bool)
  | debounceAccept (channel : Channel)
  | tachLossTimer
  -- governor events
  | holdTimerExpiry
  | gateStepTimer
  | runupTimerExpiry
  | trimTimerExpiry
  -- clutch events
  | clutchEngageTimeout
  | clutchReleaseTimeout
  -- saw events
  | spinupTimerExpiry
  | setworksStep
  | setworksWaitExpiry
  | settleTimerExpiry
  | feedStep
  | returnStep
  /-- The levels of the encoder pins A, B and Z after the change. -/
  | encoderChange (a b z : Bool)
  -- field-line events
  | pollTimerExpiry
  | sweepTimerExpiry
  | noPresence
  | broadcastEnd
  /-- The bytes read in the block's read slots. -/
  | readStatusReply (reply : List Byte)
  | setOutletsReply (reply : List Byte)
  | ackDemandReply (reply : List Byte)
  | readPlateReply (reply : List Byte)
  /-- The pairs of readings of the positions read, position 0 first. -/
  | seekEnd (readings : List Reading)
  -- ends
  | requestActEnd
  /-- The levels of the straps PORT_SEL and ADDR0 when the reset ends. -/
  | resetEnd (portSel addr0 : Bool)
  | ballastPwmPeriod
deriving DecidableEq, Repr

end Sys2Proof
end

