-- ==== Sys2Proof/WellFormed.lean ====
section
/-! DEFINITION. Which commands can arrive as they are written: the shapes the port and the line give their operands. -/

namespace Sys2Proof

/-- A seek's readings: no reading follows a (1,1), and a seek that met none has all 40 positions (R130). -/
def seekShape : Nat → List Reading → Bool
  | 0, rs => rs.isEmpty
  | _ + 1, [] => false
  | n + 1, r :: rs => if r.bit && r.complement then rs.isEmpty else seekShape n rs

/-- A field that is not sent is written 0. -/
def absentIsZero {n : Nat} (sent : Bool) (field : BitVec n) : Bool := sent || field == 0#n

/-- The shape of a command. Every command is executed whatever its shape; a misshapen one cannot be sent. -/
def Instr.wellFormed : Instr → Bool
  | .writeFrameDiscarded frame => !frame.isEmpty
  | .requestDecodeFail frame => !frame.isEmpty
  | .amend _ flags claim idle priority quota locked tag =>
      absentIsZero (flags.getLsbD 0) claim && absentIsZero (flags.getLsbD 1) idle &&
      absentIsZero (flags.getLsbD 2) priority && absentIsZero (flags.getLsbD 3) quota &&
      absentIsZero (flags.getLsbD 4) locked && absentIsZero (flags.getLsbD 5) tag
  | .readStatusReply reply => reply.length == 11
  | .setOutletsReply reply => reply.length == 2
  | .ackDemandReply reply => reply.length == 2
  | .readPlateReply reply => reply.length == 16
  | .seekEnd readings => seekShape 40 readings
  | .powerOnReset | .pinReset | .resetEnd _ _ | .requestActEnd => true
  | .post _ _ _ _ _ _ _ _ | .retire _ | .lookup _ | .find _ | .findTag _ | .walkFrom _ | .walkNext => true
  | .want _ | .drop _ | .hold _ | .free _ | .nextChanged | .dayTurn => true
  | .start | .stop | .clearTrip | .gateHome | .govStatus => true
  | .inputSetup _ _ _ | .inputRead | .inputClear _ => true
  | .enrol | .adopt _ | .dropUnit _ | .unitInfo _ | .takeFound => true
  | .cutAdd _ _ _ | .cutClear | .cutList | .sawStart | .sawStop | .sawAbort | .sawReset | .sawStatus => true
  | .setParam _ _ | .getParam _ | .attnMaskSet _ | .attnMaskClear _ | .attnRead | .attnAck _ => true
  | .restart | .identify => true
  | .inputRawChange _ _ | .debounceAccept _ | .tachLossTimer | .encoderChange _ _ _ => true
  | .holdTimerExpiry | .gateStepTimer | .runupTimerExpiry | .trimTimerExpiry | .ballastPwmPeriod => true
  | .clutchEngageTimeout | .clutchReleaseTimeout => true
  | .spinupTimerExpiry | .setworksStep | .setworksWaitExpiry | .settleTimerExpiry | .feedStep | .returnStep => true
  | .pollTimerExpiry | .sweepTimerExpiry | .noPresence | .broadcastEnd => true

end Sys2Proof
end

