-- ==== Sys2Proof/Decode.lean ====
section
/-! DEFINITION. From bits to commands.

The rows of spec/opcode_table.json give no bits, so no word spells a command. The request port has a decoder of its
own: a write frame's bytes, checked by R182 in its order and read by Table 11-2 and R194. -/

namespace Sys2Proof

/-- The command a word spells by the table's bits: the table gives no row any bits. -/
def decodeTableWord (_nbits _w : Nat) : Option Instr := none

/-- The answers of a frame that fails the decode (R182). -/
inductive DecodeError where
  | badLength
  | unknownRequest
deriving DecidableEq, Repr

/-- The request codes of Table 11-2. -/
def requestCodes : List Byte :=
  [0x10, 0x11, 0x12, 0x13, 0x14, 0x15, 0x16, 0x17, 0x18, 0x19, 0x1A, 0x1B, 0x1C, 0x1D] ++
  [0x20, 0x21, 0x22, 0x23, 0x24, 0x28, 0x29, 0x2A] ++
  [0x30, 0x31, 0x32, 0x33, 0x34] ++
  [0x40, 0x41, 0x42, 0x43, 0x44, 0x45, 0x46, 0x47] ++
  [0x50, 0x51, 0x52, 0x53, 0x54, 0x55, 0x56, 0x57]

/-- A one-byte field that is sent only when its flag is set (R194). -/
def takeByte (sent : Bool) (bytes : List Byte) : Option (Byte × List Byte) :=
  if sent then
    match bytes with
    | b :: rest => some (b, rest)
    | [] => none
  else some (0, bytes)

/-- A two-byte field that is sent only when its flag is set, high byte first (R193, R194). -/
def takeHalf (sent : Bool) (bytes : List Byte) : Option (Half × List Byte) :=
  if sent then
    match bytes with
    | hi :: lo :: rest => some (hi ++ lo, rest)
    | _ => none
  else some (0, bytes)

/-- AMEND's fields, each present when its flag is set, in the order of the flags (R194). -/
def decodeAmend (slot flags : Byte) (fields : List Byte) : Option Instr := do
  let (claim, fields) ← takeHalf (flags.getLsbD 0) fields
  let (idle, fields) ← takeHalf (flags.getLsbD 1) fields
  let (priority, fields) ← takeByte (flags.getLsbD 2) fields
  let (quota, fields) ← takeHalf (flags.getLsbD 3) fields
  let (locked, fields) ← takeByte (flags.getLsbD 4) fields
  let (tag, fields) ← takeHalf (flags.getLsbD 5) fields
  if fields.isEmpty then some (.amend slot flags claim idle priority quota locked tag) else none

/-- The request that a code and its parameter bytes spell, `none` where the length is not the one the request takes
(Table 11-2). -/
def decodeRequest (code : Byte) (params : List Byte) : Option Instr :=
  match code, params with
  | 0x10#8, [kind, t, i, j, c1, c0, d1, d0, priority, q1, q0, g1, g0, locked] =>
      some (.post kind ⟨t, i, j⟩ (c1 ++ c0) (d1 ++ d0) priority (q1 ++ q0) (g1 ++ g0) locked)
  | 0x11#8, slot :: flags :: fields => decodeAmend slot flags fields
  | 0x12#8, [slot] => some (.retire slot)
  | 0x13#8, [slot] => some (.lookup slot)
  | 0x14#8, [t, i, j] => some (.find ⟨t, i, j⟩)
  | 0x15#8, [g1, g0] => some (.findTag (g1 ++ g0))
  | 0x16#8, [slot] => some (.walkFrom slot)
  | 0x17#8, [] => some .walkNext
  | 0x18#8, [slot] => some (.want slot)
  | 0x19#8, [slot] => some (.drop slot)
  | 0x1A#8, [slot] => some (.hold slot)
  | 0x1B#8, [slot] => some (.free slot)
  | 0x1C#8, [] => some .nextChanged
  | 0x1D#8, [] => some .dayTurn
  | 0x20#8, [] => some .start
  | 0x21#8, [] => some .stop
  | 0x22#8, [] => some .clearTrip
  | 0x23#8, [] => some .gateHome
  | 0x24#8, [] => some .govStatus
  | 0x28#8, [channel, polarity, filter] => some (.inputSetup channel polarity filter)
  | 0x29#8, [] => some .inputRead
  | 0x2A#8, [channel] => some (.inputClear channel)
  | 0x30#8, [] => some .enrol
  | 0x31#8, [a, b, c, d, e] => some (.adopt (a ++ b ++ c ++ d ++ e))
  | 0x32#8, [index] => some (.dropUnit index)
  | 0x33#8, [index] => some (.unitInfo index)
  | 0x34#8, [] => some .takeFound
  | 0x40#8, [t1, t0, s1, s0, f1, f0] => some (.cutAdd (t1 ++ t0) (s1 ++ s0) (f1 ++ f0))
  | 0x41#8, [] => some .cutClear
  | 0x42#8, [] => some .cutList
  | 0x43#8, [] => some .sawStart
  | 0x44#8, [] => some .sawStop
  | 0x45#8, [] => some .sawAbort
  | 0x46#8, [] => some .sawReset
  | 0x47#8, [] => some .sawStatus
  | 0x50#8, [number, v1, v0] => some (.setParam number (v1 ++ v0))
  | 0x51#8, [number] => some (.getParam number)
  | 0x52#8, [causes] => some (.attnMaskSet causes)
  | 0x53#8, [causes] => some (.attnMaskClear causes)
  | 0x54#8, [] => some .attnRead
  | 0x55#8, [causes] => some (.attnAck causes)
  | 0x56#8, [] => some .restart
  | 0x57#8, [] => some .identify
  | _, _ => none

/-- A write frame's bytes, checked in the order of R182: fewer than two bytes, an unknown code, a wrong length. -/
def decodeFrame : List Byte → Except DecodeError Instr
  | code :: len :: params =>
    if !requestCodes.contains code then .error .unknownRequest
    else if len.toNat > 32 || len.toNat != params.length then .error .badLength
    else
      match decodeRequest code params with
      | some request => .ok request
      | none => .error .badLength
  | _ => .error .badLength

/-- The bytes of a two-byte quantity, high byte first (R193). -/
def halfBytes (x : Half) : List Byte := [x.extractLsb' 8 8, x.extractLsb' 0 8]

/-- A field is sent only when its flag is set (R194). -/
def sentWhen (flag : Bool) (bytes : List Byte) : List Byte := if flag then bytes else []

/-- The parameter bytes of AMEND (R194). -/
def amendParams (slot flags : Byte) (claim idle : Half) (priority : Byte) (quota : Half) (locked : Byte) (tag : Half) :
    List Byte :=
  [slot, flags] ++ sentWhen (flags.getLsbD 0) (halfBytes claim) ++ sentWhen (flags.getLsbD 1) (halfBytes idle) ++
    sentWhen (flags.getLsbD 2) [priority] ++ sentWhen (flags.getLsbD 3) (halfBytes quota) ++
    sentWhen (flags.getLsbD 4) [locked] ++ sentWhen (flags.getLsbD 5) (halfBytes tag)

/-- The code and parameter bytes of a request (Table 11-2), `none` for a command that is no request. -/
def requestBytes : Instr → Option (Byte × List Byte)
  | .post kind target claim idle priority quota tag locked =>
      some (0x10, [kind, target.kind, target.first, target.second] ++ halfBytes claim ++ halfBytes idle ++ [priority] ++
        halfBytes quota ++ halfBytes tag ++ [locked])
  | .amend slot flags claim idle priority quota locked tag =>
      some (0x11, amendParams slot flags claim idle priority quota locked tag)
  | .retire slot => some (0x12, [slot])
  | .lookup slot => some (0x13, [slot])
  | .find target => some (0x14, [target.kind, target.first, target.second])
  | .findTag tag => some (0x15, halfBytes tag)
  | .walkFrom slot => some (0x16, [slot])
  | .walkNext => some (0x17, [])
  | .want slot => some (0x18, [slot])
  | .drop slot => some (0x19, [slot])
  | .hold slot => some (0x1A, [slot])
  | .free slot => some (0x1B, [slot])
  | .nextChanged => some (0x1C, [])
  | .dayTurn => some (0x1D, [])
  | .start => some (0x20, [])
  | .stop => some (0x21, [])
  | .clearTrip => some (0x22, [])
  | .gateHome => some (0x23, [])
  | .govStatus => some (0x24, [])
  | .inputSetup channel polarity filter => some (0x28, [channel, polarity, filter])
  | .inputRead => some (0x29, [])
  | .inputClear channel => some (0x2A, [channel])
  | .enrol => some (0x30, [])
  | .adopt identity =>
      some (0x31, [identity.extractLsb' 32 8, identity.extractLsb' 24 8, identity.extractLsb' 16 8,
        identity.extractLsb' 8 8, identity.extractLsb' 0 8])
  | .dropUnit index => some (0x32, [index])
  | .unitInfo index => some (0x33, [index])
  | .takeFound => some (0x34, [])
  | .cutAdd thickness stroke ceiling => some (0x40, halfBytes thickness ++ halfBytes stroke ++ halfBytes ceiling)
  | .cutClear => some (0x41, [])
  | .cutList => some (0x42, [])
  | .sawStart => some (0x43, [])
  | .sawStop => some (0x44, [])
  | .sawAbort => some (0x45, [])
  | .sawReset => some (0x46, [])
  | .sawStatus => some (0x47, [])
  | .setParam number value => some (0x50, number :: halfBytes value)
  | .getParam number => some (0x51, [number])
  | .attnMaskSet causes => some (0x52, [causes])
  | .attnMaskClear causes => some (0x53, [causes])
  | .attnRead => some (0x54, [])
  | .attnAck causes => some (0x55, [causes])
  | .restart => some (0x56, [])
  | .identify => some (0x57, [])
  | .powerOnReset | .pinReset | .resetEnd _ _ | .requestActEnd => none
  | .writeFrameDiscarded _ | .requestDecodeFail _ => none
  | .inputRawChange _ _ | .debounceAccept _ | .tachLossTimer | .encoderChange _ _ _ => none
  | .holdTimerExpiry | .gateStepTimer | .runupTimerExpiry | .trimTimerExpiry | .ballastPwmPeriod => none
  | .clutchEngageTimeout | .clutchReleaseTimeout => none
  | .spinupTimerExpiry | .setworksStep | .setworksWaitExpiry | .settleTimerExpiry | .feedStep | .returnStep => none
  | .pollTimerExpiry | .sweepTimerExpiry | .noPresence | .broadcastEnd => none
  | .readStatusReply _ | .setOutletsReply _ | .ackDemandReply _ | .readPlateReply _ | .seekEnd _ => none

/-- The write frame that carries a request: code, length byte, parameters (Table 11-1). -/
def encodeFrame (i : Instr) : Option (List Byte) :=
  (requestBytes i).map fun (code, params) => code :: BitVec.ofNat 8 params.length :: params

end Sys2Proof
end

