-- ==== Sys2Proof/Machine/Params.lean ====
section
/-! DEFINITION. The parameters (R185, Table 11-10): their numbers, ranges and defaults. -/

namespace Sys2Proof.Machine

/-- The named settings, in the order of their numbers (Table 11-10). -/
inductive Param where
  | fSet | fTrip | shedBand | fFloor | kp | ki | bCap | reserve | shedDelay | shedSettle | restoreDelay | starveLimit
  | holdLimit | trimPeriod | trimStep | trimHighPct | trimLowPct
  | gateSpan | gateRate | runupStep | runupInterval | pollPeriod | sweepPeriod | feedBand | feedMin | returnRate
  | stepsPerMm | encPerMm | setStepsPerMm | setTimeoutCode | setSettle | spinupTime | clutchTimeout | stallTol
deriving DecidableEq, Repr

/-- The parameters by number, number 1 first (Table 11-10). -/
def Param.all : List Param :=
  [.fSet, .fTrip, .shedBand, .fFloor, .kp, .ki, .bCap, .reserve, .shedDelay, .shedSettle, .restoreDelay, .starveLimit,
   .holdLimit, .trimPeriod, .trimStep, .trimHighPct, .trimLowPct] ++
  [.gateSpan, .gateRate, .runupStep, .runupInterval, .pollPeriod, .sweepPeriod, .feedBand, .feedMin, .returnRate,
   .stepsPerMm, .encPerMm, .setStepsPerMm, .setTimeoutCode, .setSettle, .spinupTime, .clutchTimeout, .stallTol]

/-- The place of a parameter in the table, from 0. -/
def Param.index : Param → Fin Config.params
  | .fSet => 0 | .fTrip => 1 | .shedBand => 2 | .fFloor => 3 | .kp => 4 | .ki => 5 | .bCap => 6 | .reserve => 7
  | .shedDelay => 8 | .shedSettle => 9 | .restoreDelay => 10 | .starveLimit => 11 | .holdLimit => 12
  | .trimPeriod => 13 | .trimStep => 14 | .trimHighPct => 15 | .trimLowPct => 16 | .gateSpan => 17 | .gateRate => 18
  | .runupStep => 19 | .runupInterval => 20 | .pollPeriod => 21 | .sweepPeriod => 22 | .feedBand => 23
  | .feedMin => 24 | .returnRate => 25 | .stepsPerMm => 26 | .encPerMm => 27 | .setStepsPerMm => 28
  | .setTimeoutCode => 29 | .setSettle => 30 | .spinupTime => 31 | .clutchTimeout => 32 | .stallTol => 33

/-- The parameter's number (Table 11-10). -/
def Param.number (p : Param) : Nat := p.index.val + 1

/-- The parameter of a number; 0 and 35 to 255 name none (Table 11-10). -/
def Param.ofNumber (n : Nat) : Option Param := if n = 0 then none else Param.all[n - 1]?

/-- The least and the greatest value (Table 11-10). -/
def Param.range : Param → Nat × Nat
  | .fSet => (4500, 6000) | .fTrip => (5100, 7000) | .shedBand => (20, 500) | .fFloor => (3500, 5800)
  | .kp => (0, 4095) | .ki => (0, 4095) | .bCap => (0, 30000) | .reserve => (0, 5000) | .shedDelay => (1, 100)
  | .shedSettle => (5, 500) | .restoreDelay => (25, 3000) | .starveLimit => (1, 255) | .holdLimit => (100, 10000)
  | .trimPeriod => (1, 120) | .trimStep => (1, 500) | .trimHighPct => (10, 95) | .trimLowPct => (5, 90)
  | .gateSpan => (100, 20000) | .gateRate => (10, 2000) | .runupStep => (1, 500) | .runupInterval => (1, 30)
  | .pollPeriod => (250, 60000) | .sweepPeriod => (50, 5000) | .feedBand => (20, 500) | .feedMin => (1, 100)
  | .returnRate => (20, 600) | .stepsPerMm => (1, 200) | .encPerMm => (1, 100) | .setStepsPerMm => (1, 400)
  | .setTimeoutCode => (0, 255) | .setSettle => (0, 2000) | .spinupTime => (500, 30000)
  | .clutchTimeout => (100, 5000) | .stallTol => (4, 4000)

/-- The value after power-on or pin reset (Table 11-10, R185). -/
def Param.default : Param → Nat
  | .fSet => 5000 | .fTrip => 5750 | .shedBand => 150 | .fFloor => 4500 | .kp => 160 | .ki => 32 | .bCap => 0
  | .reserve => 200 | .shedDelay => 10 | .shedSettle => 25 | .restoreDelay => 250 | .starveLimit => 250
  | .holdLimit => 2000 | .trimPeriod => 5 | .trimStep => 20 | .trimHighPct => 70 | .trimLowPct => 20
  | .gateSpan => 2000 | .gateRate => 200 | .runupStep => 40 | .runupInterval => 3 | .pollPeriod => 2000
  | .sweepPeriod => 250 | .feedBand => 100 | .feedMin => 10 | .returnRate => 300 | .stepsPerMm => 40
  | .encPerMm => 20 | .setStepsPerMm => 100 | .setTimeoutCode => 62 | .setSettle => 200 | .spinupTime => 4000
  | .clutchTimeout => 1500 | .stallTol => 200

/-- The values held, one per parameter. -/
abbrev Params := Vector Nat Config.params

/-- The value a parameter holds. -/
def Params.get (v : Params) (p : Param) : Nat := Vector.get v p.index

/-- One parameter stored. -/
def Params.put (v : Params) (p : Param) (x : Nat) : Params := Vector.set v p.index x

/-- Every parameter at its default (R185). -/
def Params.defaults : Params :=
  Vector.ofFn fun i => match Param.all[i.val]? with | some p => p.default | none => 0

/-- A value clamped into a parameter's range (R185). -/
def Param.clamp (p : Param) (x : Nat) : Nat := max p.range.1 (min p.range.2 x)

end Sys2Proof.Machine
end

