-- ==== Sys2Proof/Machine/State.lean ====
section
/-! DEFINITION. The state of the BK3420, block by block, and the state after reset.

Times are whole microseconds (log 3): `now` is the moment, a timer is `none` when stopped and otherwise the time it has
left. -/

namespace Sys2Proof.Machine

/-- A slot number of the allotment table (R1). -/
abbrev Slot := Fin Config.slots

/-- A unit index (R135). -/
abbrev UnitIx := Fin Config.units

/-- An outlet position of a unit. -/
abbrev Outlet := Fin Config.outlets

/-- A timer: stopped, or the microseconds it has left. -/
abbrev Timer := Option Nat

/-! ## Input Unit -/

/-- One filtered input channel (R51). -/
structure Chan where
  /-- The level of the pin, high or low (external). -/
  pin : Bool
  /-- Polarity: active low when set (R52). -/
  activeLow : Bool
  /-- Filter code 0 to 3 (Table 3-2). -/
  filter : Nat
  /-- The debounced level, `true` for active. -/
  level : Bool
  /-- The candidate change in flight: the moment of its raw change (R53). -/
  candidate : Option Nat
deriving DecidableEq, Repr

/-- The state of INU (R51, R56, R58 to R62). -/
structure Inu where
  chans : Vector Chan Config.channels
  estopLatch : Bool
  guardLatch : Bool
  lastStamp : Option (BitVec 32)
  lossTimer : Timer
  lastPeriod : BitVec 32
  /-- The levels of the encoder pins (external). -/
  pinA : Bool
  pinB : Bool
  pinZ : Bool
  /-- The quadrature state: the levels of A and B as taken (R62). -/
  quadA : Bool
  quadB : Bool
  count : BitVec 32
  homed : Bool
deriving DecidableEq, Repr

/-! ## Governor -/

/-- The governor states (Table 4-2). -/
inductive GovState where
  | stopped | runUp | regulating | hold | stopping | tripped
deriving DecidableEq, Repr

/-- The trip causes (Table 4-7). -/
inductive TripCause where
  | none | overspeed | tachLost | estop | runupFail | gateFault
deriving DecidableEq, Repr

/-- Why a gate move was begun (Table 5-2). -/
inductive MovePurpose where
  | runUp | trim | shut
deriving DecidableEq, Repr

/-- The direction of a gate move (Table 5-2). -/
inductive GateDir where
  | opening | closing
deriving DecidableEq, Repr

/-- A gate move in flight (Table 5-2). -/
structure Move where
  purpose : MovePurpose
  dir : GateDir
  asked : Nat
  issued : Nat
deriving DecidableEq, Repr

/-- The state of GOV (R68, R92), with its outputs. -/
structure Gov where
  st : GovState
  /-- 0, or the frequency of the latest interval in centihertz. -/
  fMeas : Nat
  fPrev : Option Nat
  /-- The ballast accumulator in sixteenths of a watt. -/
  bAcc : Nat
  duty : Nat
  spare : Nat
  overspeed : Nat
  collapse : Nat
  cause : TripCause
  holdTimer : Timer
  gatePos : Nat
  gateValid : Bool
  move : Option Move
  stepTimer : Timer
  /-- The stepper direction output. -/
  gateDir : GateDir
  runupTimer : Timer
  trimTimer : Timer
  /-- The duty the ballast output applies in the present PWM period (R71). -/
  pwmDuty : Nat
  pwmTimer : Timer
deriving DecidableEq, Repr

/-! ## Allotment Table -/

/-- Why a record is held (Table 1-1). -/
inductive HoldReason where
  | host | quota | refused | fault
deriving DecidableEq, Repr

/-- Where a release leads; toward HELD it carries the hold reason (Table 1-1). -/
inductive Dest where
  | idle | shed | held (h : HoldReason) | vacant
deriving DecidableEq, Repr

/-- The states of a record; a VACANT slot holds no record (Table 1-2). -/
inductive RecState where
  | idle | pending | granted | live | releasing (d : Dest) | shed | held (h : HoldReason)
deriving DecidableEq, Repr

/-- Why the part last moved a record (Table 1-4). -/
inductive Reason where
  | admitted | confirmed | shed | restored | quota | demandOn | demandOff | unitOpened | refused | stopped | tripped
  | retired | trimmed | untrimmed
deriving DecidableEq, Repr

/-- The kinds of an allotment (1.1.4). -/
inductive Kind where
  | ordinary | critical | saw
deriving DecidableEq, Repr

/-- The switch an allotment works through (Table 1-1). -/
inductive Target where
  | field (unit : UnitIx) (outlet : Outlet)
  | relay (n : Fin Config.relays)
  | clutch
deriving DecidableEq, Repr

/-- An allotment record (Table 1-1). `idle` is 0 and `trimmed` false where the kind has no such field; `residue` is 0
where the target has none; `tag` is 0 when absent. -/
structure Allotment where
  state : RecState
  reason : Option Reason
  kind : Kind
  target : Target
  claim : Nat
  idle : Nat
  priority : Nat
  quota : Nat
  used : Nat
  residue : Nat
  tag : Nat
  wanted : Bool
  locked : Bool
  trimmed : Bool
  starve : Nat
deriving DecidableEq, Repr

/-- A clutch wait in flight (R23, R24). -/
inductive ClutchWait where
  | engage (left : Nat)
  | release (left : Nat)
deriving DecidableEq, Repr

/-- The state of ALT (R1, R30), with its outputs. -/
structure Alt where
  slots : Vector (Option Allotment) Config.slots
  /-- The change set, by slot (R28). -/
  changed : Vector Bool Config.slots
  gOut : Nat
  walk : Slot
  lowCount : Nat
  settle : Nat
  holdOff : Nat
  headroom : Nat
  strict : Option Slot
  /-- The relay outputs, `true` for closed (R20). -/
  relays : Vector Bool Config.relays
  /-- The saw clutch output, `true` for engaged (R23). -/
  clutch : Bool
  wait : Option ClutchWait
deriving DecidableEq, Repr

/-! ## Field Line Controller -/

/-- The urgency of a mark (Table 8-2). -/
inductive MarkClass where
  | routine | demand | closing | opening
deriving DecidableEq, Repr

/-- A mark: its class and the moment it was given (Table 8-1). -/
structure Mark where
  cls : MarkClass
  time : Nat
deriving DecidableEq, Repr

/-- Whether a unit answers (Table 8-1). -/
inductive Reach where
  | unseen | present | missing
deriving DecidableEq, Repr

/-- The content of a plate that was read (R125). -/
structure Plate where
  maker : Byte
  /-- The outlet count, 1 to 4. -/
  outlets : Nat
  /-- The ratings in 10 W units, 0 at positions at or above the outlet count. -/
  ratings : Vector Half Config.outlets
deriving DecidableEq, Repr

/-- An entry of the unit table (Table 8-1). -/
structure UnitEntry where
  identity : Identity
  /-- `none` while the plate is UNREAD. -/
  plate : Option Plate
  plateOwed : Bool
  reach : Reach
  failures : Nat
  /-- The last meter counts, `none` when not valid. -/
  meters : Vector (Option Half) Config.outlets
  /-- The reported outlet states, bit n set for outlet n closed; absent until the first report. -/
  reported : Option (BitVec 4)
  unitFault : Bool
  mark : Option Mark
  /-- The owed class; ROUTINE is never owed. -/
  owed : Option MarkClass
deriving DecidableEq, Repr

/-- The function block a visit waits for the end of (R146). -/
inductive Block where
  | readPlate
  | readStatus
  /-- With the desired vector sent. -/
  | setOutlets (desired : BitVec 4)
  | ackDemand
deriving DecidableEq, Repr

/-- The phases of a transaction (Table 7-2). -/
inductive LinePhase where
  | presence | selector | identity | blocks | seek
deriving DecidableEq, Repr

/-- The nominal length of a slot in microseconds (R116). -/
def slotTime : Nat := 500

/-- The slot times of the reset pulse (Table 7-2). -/
def pulseSlots : Nat := 8

/-- The slot times of the presence window, which follows the pulse (Table 7-2). -/
def windowSlots : Nat := 4

/-- The slots of a phase whose length is fixed: the reset pulse and the window, the selector's 8, the identity's 40. The function blocks and the seek last as long as what crosses the line (Table 7-2). -/
def LinePhase.slots : LinePhase → Option Nat
  | .presence => some (pulseSlots + windowSlots)
  | .selector => some 8
  | .identity => some 40
  | .blocks | .seek => none

/-- The phase a transaction has reached, with the microseconds it has left while its length is fixed (R117; log 38). -/
structure PhaseReached where
  phase : LinePhase
  left : Timer
deriving DecidableEq, Repr

/-- A phase begins; its slots take their nominal times (log 38). -/
def PhaseReached.begin (p : LinePhase) : PhaseReached := { phase := p, left := p.slots.map fun n => n * slotTime }

/-- Every transaction begins with the reset pulse (R118). -/
abbrev PhaseReached.first : PhaseReached := PhaseReached.begin .presence

/-- The function blocks (Table 7-2). -/
abbrev PhaseReached.atBlocks : PhaseReached := PhaseReached.begin .blocks

/-- The visit in flight (R117, R146, R147). -/
structure Visit where
  unit : UnitIx
  identity : Identity
  /-- The class the visit was begun at. -/
  cls : MarkClass
  /-- The entry has been dropped while the visit runs (R137). -/
  dropped : Bool
  /-- The unit's outlet count, 0 while its plate is UNREAD. -/
  outlets : Nat
  block : Block
  /-- A block of this visit has ended. -/
  begun : Bool
  /-- The READ_STATUS reply showed asking or rebooted. -/
  asked : Bool
  /-- The cut point has passed (R147). -/
  cut : Bool
  before : Option Mark
  after : Option Mark
  /-- The phase reached (R117). -/
  phase : PhaseReached := PhaseReached.first
deriving DecidableEq, Repr

/-- Whose series a seek belongs to (R140, R144). -/
inductive SeekOwner where
  | enrolment | sweep
deriving DecidableEq, Repr

/-- The transaction in flight, with the phase it has reached (R117). -/
inductive Transaction where
  | broadcast (phase : PhaseReached := PhaseReached.first)
  | visit (v : Visit)
  | seek (owner : SeekOwner) (phase : PhaseReached := PhaseReached.first)
deriving DecidableEq, Repr

/-- A series record (R133). -/
structure Series where
  previous : Option Identity
  lastFork : Option Nat
deriving DecidableEq, Repr

/-- Why the latest enrolment series ended (R140). -/
inductive EnrolEnd where
  | noneYet | complete | none | noPresence | lineError | full | restart
deriving DecidableEq, Repr

/-- The enrolment record with its series (R140). -/
structure Enrolment where
  running : Bool
  ended : EnrolEnd
  more : Bool
  series : Series
deriving DecidableEq, Repr

/-- The sweep record: whether a sweep is due or open (the two are one, log 43), its series, held apart from the enrolment's,
and the seeks of the latest sweep that ended OK (R133, R144). -/
structure Sweep where
  isOpen : Bool
  series : Series
  found : Nat
deriving DecidableEq, Repr

/-- The state of FLC. -/
structure Flc where
  units : Vector (Option UnitEntry) Config.units
  /-- The found list, lowest identity first (R139). -/
  found : List Identity
  enrol : Enrolment
  sweep : Sweep
  pollTimer : Timer
  sweepTimer : Timer
  allOpenOwed : Bool
  tx : Option Transaction
deriving DecidableEq, Repr

/-! ## Saw Sequencer -/

/-- The sequencer states (Table 9-2). -/
inductive SawState where
  | idle | claiming | spinup | setting | feedWait | feeding | returning | halted | releasing | fault
deriving DecidableEq, Repr

/-- The fault causes (Table 9-4). -/
inductive FaultCause where
  | none | stall | fwdLimit | revLimit | noHome | setTimeout | clutchFail | clutchStuck | guard | estop
deriving DecidableEq, Repr

/-- A cut order (R155). -/
structure CutOrder where
  number : Nat
  thickness : Nat
  stroke : Nat
  ceiling : Nat
deriving DecidableEq, Repr

/-- The kinds of a return (R164). -/
inductive ReturnKind where
  | stroke | homing | abort
deriving DecidableEq, Repr

/-- The remembered phase; a return keeps its kind (R168). -/
inductive Phase where
  | setting | feedWait | returning (kind : ReturnKind)
deriving DecidableEq, Repr

/-- The stages of a setting (R159). -/
inductive SetStage where
  | move | wait | settle
deriving DecidableEq, Repr

/-- The setting record (Table 9-1). -/
structure SettingRec where
  remaining : Nat
  stage : SetStage
deriving DecidableEq, Repr

/-- The stroke record (R161). -/
structure StrokeRec where
  steps : Nat
  stepsPerMm : Nat
  countsPerMm : Nat
  reference : BitVec 32
  done : Nat
deriving DecidableEq, Repr

/-- The return record (R164). -/
structure ReturnRec where
  kind : ReturnKind
  stepsPerMm : Nat
  countsPerMm : Nat
  reference : BitVec 32
  issued : Nat
  allowance : Nat
deriving DecidableEq, Repr

/-- A stepper drive: idle, or stepping at a rate with the time left to its next step. -/
inductive Stepper where
  | idle
  | stepping (forward : Bool) (rate left : Nat)
deriving DecidableEq, Repr

/-- The state of SAW (Table 9-1). -/
structure Saw where
  st : SawState
  cause : FaultCause
  cuts : List CutOrder
  nextNumber : Nat
  stopFlag : Bool
  cutWanted : Bool
  remembered : Option Phase
  setting : Option SettingRec
  stroke : Option StrokeRec
  ret : Option ReturnRec
  scale : Nat
  feedRate : Nat
  spinTimer : Timer
  waitTimer : Timer
  settleTimer : Timer
  feed : Stepper
  setworks : Stepper
deriving DecidableEq, Repr

/-! ## Request Port -/

/-- The result codes, in the order of Table 10-2. -/
inductive ResultCode where
  | done | accepted | clamped | busy | unknownRequest | badLength | badField | noSlot | noSuch | inUse | wrongState
  | latched
deriving DecidableEq, Repr

/-- A result: its code and payload (R184). -/
structure Answer where
  code : ResultCode
  payload : List Byte
deriving DecidableEq, Repr

/-- The attention causes (Table 10-3). -/
inductive Cause where
  | changed | found | enrolDone | govState | unitReach | sawState | input
deriving DecidableEq, Repr

/-- A set of causes, in the bits of Table 11-2's cause set. -/
abbrev CauseSet := BitVec 7

/-- The port's form, as sampled from PORT_SEL (R178). -/
inductive PortForm where
  | spi | i2c
deriving DecidableEq, Repr

/-- The state of RQP. -/
structure Rqp where
  form : PortForm
  addrBit : Bool
  /-- The request in execution: the answer its act made, stored when the act ends (R181). -/
  exec : Option Answer
  overrun : Bool
  stored : Answer
  /-- The latched causes of the raw attention set (R187). -/
  latched : CauseSet
  mask : CauseSet
deriving DecidableEq, Repr

/-! ## The machine -/

/-- The state of the BK3420 with the queue of commands that wait for it. -/
structure State where
  /-- The moment, in microseconds; INU's timebase reads it modulo 2^32 (R58). -/
  now : Nat
  /-- A power-on or pin reset lasts (R190). -/
  inReset : Bool
  params : Params
  inu : Inu
  gov : Gov
  alt : Alt
  flc : Flc
  saw : Saw
  rqp : Rqp
  /-- The commands that wait, first in, first out. -/
  pending : List Instr
deriving DecidableEq, Repr

/-- The ways the machine stops. The spec names none: every command has an effect, and a refusal by the part is a
result code. -/
inductive Fault where
deriving DecidableEq, Repr

/-- The ways the model refuses a command. -/
inductive Refusal where
  /-- Raised by an arm of `exec` whose command has no meaning yet; safe. No arm raises it. -/
  | notModelled (mnemonic : String)
deriving DecidableEq, Repr

/-! ## Reset (R190) -/

/-- A channel after power-on or pin reset, at the level its pin has (R51). -/
def Chan.reset (pin : Bool) (filter : Nat) : Chan :=
  { pin, activeLow := false, filter, level := false, candidate := none }

/-- INU after power-on or pin reset, the pins low (R51, R56, R61, R62; log 5). -/
def Inu.reset : Inu :=
  { chans := Vector.ofFn fun i => Chan.reset false (if i.val = 0 then 1 else 2)
    estopLatch := false, guardLatch := false
    lastStamp := none, lossTimer := none, lastPeriod := 0
    pinA := false, pinB := false, pinZ := false
    quadA := false, quadB := false, count := 0, homed := false }

/-- GOV after power-on or pin reset (R68, R92). -/
def Gov.reset : Gov :=
  { st := .stopped, fMeas := 0, fPrev := none, bAcc := 0, duty := 1023, spare := 0, overspeed := 0, collapse := 0
    cause := .none, holdTimer := none, gatePos := 0, gateValid := false, move := none, stepTimer := none
    gateDir := .closing, runupTimer := none, trimTimer := none, pwmDuty := 1023, pwmTimer := some 4000 }

/-- ALT after power-on or pin reset (R1, R30). -/
def Alt.reset : Alt :=
  { slots := Vector.replicate Config.slots none, changed := Vector.replicate Config.slots false, gOut := 0, walk := 0
    lowCount := 0, settle := 0, holdOff := 0, headroom := 0, strict := none
    relays := Vector.replicate Config.relays false, clutch := false, wait := none }

/-- A series that has made no seek (R133). -/
def Series.fresh : Series := { previous := none, lastFork := none }

/-- No sweep has been made, or a soft restart has ended one (R134, R144). -/
def Sweep.closed : Sweep := { isOpen := false, series := Series.fresh, found := 0 }

/-- FLC after power-on or pin reset (R117, R135, R139, R140, R143, R151). -/
def Flc.reset (params : Params) : Flc :=
  { units := Vector.replicate Config.units none, found := []
    enrol := { running := false, ended := .noneYet, more := false, series := Series.fresh }
    sweep := Sweep.closed
    pollTimer := some (params.get .pollPeriod * 1000), sweepTimer := some (params.get .sweepPeriod * 1000)
    allOpenOwed := false, tx := none }

/-- SAW after power-on or pin reset (Table 9-1). -/
def Saw.reset : Saw :=
  { st := .idle, cause := .none, cuts := [], nextNumber := 0, stopFlag := false, cutWanted := false
    remembered := none, setting := none, stroke := none, ret := none, scale := 0, feedRate := 0
    spinTimer := none, waitTimer := none, settleTimer := none, feed := .idle, setworks := .idle }

/-- RQP after power-on or pin reset, the straps low (R184, R188, R190; log 5). -/
def Rqp.reset : Rqp :=
  { form := .spi, addrBit := false, exec := none, overrun := false, stored := { code := .done, payload := [] }
    latched := 0, mask := 0 }

/-- The machine when a power-on reset has ended, its pins and straps low, its queue empty (R190; logs 4, 5). -/
def State.reset : State :=
  { now := 0, inReset := false, params := Params.defaults, inu := Inu.reset, gov := Gov.reset, alt := Alt.reset
    flc := Flc.reset Params.defaults, saw := Saw.reset, rqp := Rqp.reset, pending := [] }

end Sys2Proof.Machine
end

