-- ==== Sys2Proof/Machine/Ops.lean ====
section
/-! DEFINITION. The named operations over the state: the update of one block, the records and the change set of ALT,
the causes raised at RQP, and GOV's ballast. -/

namespace Sys2Proof.Machine

/-! ## One block at a time -/

/-- An update of INU alone. -/
def State.onInu (s : State) (f : Inu → Inu) : State := { s with inu := f s.inu }

/-- An update of GOV alone. -/
def State.onGov (s : State) (f : Gov → Gov) : State := { s with gov := f s.gov }

/-- An update of ALT alone. -/
def State.onAlt (s : State) (f : Alt → Alt) : State := { s with alt := f s.alt }

/-- An update of FLC alone. -/
def State.onFlc (s : State) (f : Flc → Flc) : State := { s with flc := f s.flc }

/-- An update of SAW alone. -/
def State.onSaw (s : State) (f : Saw → Saw) : State := { s with saw := f s.saw }

/-- An update of RQP alone. -/
def State.onRqp (s : State) (f : Rqp → Rqp) : State := { s with rqp := f s.rqp }

/-- An update of the parameters alone. -/
def State.onParams (s : State) (f : Params → Params) : State := { s with params := f s.params }

/-- The value of a parameter. -/
def State.param (s : State) (p : Param) : Nat := s.params.get p

/-- A timer started for a number of milliseconds (log 3). -/
def msTimer (n : Nat) : Timer := some (n * 1000)

/-- A timer started for a number of seconds (log 3). -/
def secTimer (n : Nat) : Timer := some (n * 1000000)

/-! ## Inputs -/

/-- The number of a channel (Table 3-1). -/
def channelNumber : Channel → Fin Config.channels
  | .tach => 0 | .gateShut => 1 | .gateFull => 2 | .fwdLimit => 3 | .revLimit => 4 | .setDone => 5 | .clutchIn => 6
  | .guard => 7 | .estop => 8 | .lowWater => 9

/-- The channels in the order of their numbers (Table 3-1). -/
def allChannels : List Channel :=
  [.tach, .gateShut, .gateFull, .fwdLimit, .revLimit, .setDone, .clutchIn, .guard, .estop, .lowWater]

/-- A channel of INU. -/
def State.chan (s : State) (c : Channel) : Chan := s.inu.chans.get (channelNumber c)

/-- A channel stored. -/
def State.setChan (s : State) (c : Channel) (x : Chan) : State :=
  s.onInu fun u => { u with chans := u.chans.set (channelNumber c) x }

/-- The debounced level of a channel, which consumers read when their rules call for it (R54). -/
def State.active (s : State) (c : Channel) : Bool := (s.chan c).level

/-- The raw state: the pin's level read through the polarity (R52). -/
def Chan.raw (c : Chan) : Bool := c.pin != c.activeLow

/-- The timebase's reading: microseconds, wrapping at 2^32 (R58). -/
def State.timebase (s : State) : BitVec 32 := BitVec.ofNat 32 s.now

/-- The encoder's count as a signed number (R62). -/
def State.count (s : State) : Int := s.inu.count.toInt

/-- The carriage is homed with a count of 0 (R158). -/
def State.atHome (s : State) : Bool := s.inu.homed && s.inu.count == 0

/-! ## Attention causes (R187) -/

/-- The bit of a cause in a cause set (Table 11-2). -/
def Cause.bit : Cause → CauseSet
  | .changed => 0x01 | .found => 0x02 | .enrolDone => 0x04 | .govState => 0x08 | .unitReach => 0x10
  | .sawState => 0x20 | .input => 0x40

/-- A latched cause joins the raw set; one already raised stays raised once (R187). -/
def State.raise (s : State) (c : Cause) : State := s.onRqp fun r => { r with latched := r.latched ||| c.bit }

/-! ## The ballast (R70, R71, R78, R81) -/

/-- The duty computed from the accumulator (R71). -/
def dutyOf (bAcc bCap : Nat) : Nat :=
  if bCap = 0 then 0 else (bAcc * 1023 + 8 * bCap) / (16 * bCap)

/-- The spare in REGULATING: the ballast's watts less the reserve, not below zero (R78). -/
def spareOf (bAcc reserve : Nat) : Nat := bAcc / 16 - reserve

/-- The accumulator takes a value: in REGULATING the duty and the spare follow, in HOLD the duty stays frozen and the
spare 0 (R70, R78). -/
def Gov.setBallast (g : Gov) (params : Params) (bAcc : Nat) : Gov :=
  if g.st = .regulating then
    { g with bAcc, duty := dutyOf bAcc (params.get .bCap), spare := spareOf bAcc (params.get .reserve) }
  else { g with bAcc }

/-- The direction of a ballast step: down when a load comes on, up when one goes off (R81). -/
inductive StepDir where
  | down | up
deriving DecidableEq, Repr

/-- The accumulator after a step of `w` watts, cut short at the limits (R81). -/
def stepped (dir : StepDir) (w bAcc bCap : Nat) : Nat :=
  match dir with
  | .down => bAcc - 16 * w
  | .up => min (16 * bCap) (bAcc + 16 * w)

/-- A ballast step asked by ALT: applied in REGULATING and HOLD, discarded in every other state; a step of 0 W changes
nothing (R81). -/
def Gov.ballastStep (g : Gov) (params : Params) (dir : StepDir) (w : Nat) : Gov :=
  if w = 0 then g
  else if g.st = .regulating ∨ g.st = .hold then g.setBallast params (stepped dir w g.bAcc (params.get .bCap))
  else g

/-- ALT asks GOV for a ballast step (R81). -/
def State.ballastStep (s : State) (dir : StepDir) (w : Nat) : State :=
  s.onGov fun g => g.ballastStep s.params dir w

/-! ## Records (R2, R27, R28) -/

/-- The record in a slot, `none` when VACANT. -/
def State.record (s : State) (i : Slot) : Option Allotment := s.alt.slots.get i

/-- A slot takes a record, or becomes VACANT. -/
def State.setRecord (s : State) (i : Slot) (r : Option Allotment) : State :=
  s.onAlt fun a => { a with slots := a.slots.set i r }

/-- The slots in ascending order. -/
def allSlots : List Slot := List.finRange Config.slots

/-- A slot enters the change set when the part made the change; the host's own changes do not enter (R28). -/
def State.noteChange (s : State) (byPart : Bool) (i : Slot) : State :=
  if byPart then s.onAlt fun a => { a with changed := a.changed.set i true } else s

/-- A slot leaves the change set (R28). -/
def State.forgetChange (s : State) (i : Slot) : State :=
  s.onAlt fun a => { a with changed := a.changed.set i false }

/-- The change set is non-empty: the level cause CHANGED (R29). -/
def State.anyChanged (s : State) : Bool := allSlots.any fun i => s.alt.changed.get i

/-- What a GRANTED record counts for in G_out: the claim, the idle claim for SAW (R27). -/
def Allotment.share (r : Allotment) : Nat := if r.kind = .saw then r.idle else r.claim

/-- The quota is spent (R106). -/
def Allotment.spent (r : Allotment) : Bool := 0 < r.quota && r.quota ≤ r.used

/-- The cut share of the saw allotment (R26). -/
def Allotment.cutShare (r : Allotment) : Nat := r.claim - r.idle

/-- The record is in RELEASING. -/
def Allotment.isReleasing (r : Allotment) : Bool := match r.state with | .releasing _ => true | _ => false

/-- A record becomes PENDING, or HELD for its quota when that is spent (R13). -/
def Allotment.toPending (r : Allotment) : Allotment :=
  if r.spent then { r with state := .held .quota, reason := some .quota } else { r with state := .pending }

/-- G_out raised by an amount (R27). -/
def State.addGranted (s : State) (w : Nat) : State := s.onAlt fun a => { a with gOut := a.gOut + w }

/-- G_out lowered by an amount (R27). -/
def State.subGranted (s : State) (w : Nat) : State := s.onAlt fun a => { a with gOut := a.gOut - w }

/-- The slot of the SAW record, if one exists (R6: at most one). -/
def State.sawSlot (s : State) : Option Slot :=
  allSlots.find? fun i => match s.record i with | some r => r.kind == .saw | none => false

/-- The SAW record, if one exists. -/
def State.sawRecord (s : State) : Option Allotment := s.sawSlot.bind s.record

/-- The slot of the record that names a target (R6: at most one). -/
def State.slotOf (s : State) (t : Target) : Option Slot :=
  allSlots.find? fun i => match s.record i with | some r => r.target == t | none => false

/-- The record is a candidate for admission (R41). -/
def State.isCandidate (s : State) (i : Slot) : Bool :=
  match s.record i with
  | none => false
  | some r =>
    !r.spent &&
    match r.kind with
    | .ordinary => r.state == .pending || r.state == .shed
    | .critical => r.state == .pending
    | .saw => r.state == .pending || r.state == .shed || (r.state == .live && r.trimmed && s.saw.cutWanted)

/-- When the record in the strict slot has stopped being a candidate, the strict slot becomes absent and the record's
starve count 0 (R49). -/
def State.checkStrict (s : State) : State :=
  match s.alt.strict with
  | none => s
  | some i =>
    if s.isCandidate i then s
    else (s.setRecord i ((s.record i).map fun r => { r with starve := 0 })).onAlt fun a => { a with strict := none }

end Sys2Proof.Machine
end

