-- ==== Sys2Proof/Machine/Operands.lean ====
section
/-! DEFINITION. The bytes of the request port and of the field line: quantities, codes, targets, identities, the check
byte, and the layouts of the payloads (Section 11). -/

namespace Sys2Proof.Machine

/-! ## Quantities (R193) -/

/-- A quantity in `k` bytes, high byte first. -/
def beBytes : Nat → Nat → List Byte
  | 0, _ => []
  | k + 1, n => BitVec.ofNat 8 (n / 256 ^ k) :: beBytes k n

/-- A signed quantity in four bytes, two's complement. -/
def signedBytes (n : Int) : List Byte := beBytes 4 (BitVec.ofInt 32 n).toNat

/-- A true/false item. -/
def boolByte (b : Bool) : Byte := if b then 1 else 0

/-- The bits of a run of bytes, each most significant bit first (R116, R179). -/
def bitsOf (bytes : List Byte) : List Bool := bytes.flatMap fun b => (List.range 8).map fun j => b.getLsbD (7 - j)

/-- The byte of eight bits, most significant first. -/
def byteOfBits (bits : List Bool) : Byte := bits.foldl (fun b x => (b <<< 1) ||| boolByte x) 0

/-- The complete bytes of a run of bits, a byte left incomplete discarded (R179). The number bounds the bytes read. -/
def bytesOf : Nat → List Bool → List Byte
  | 0, _ => []
  | n + 1, bits => if bits.length < 8 then [] else byteOfBits (bits.take 8) :: bytesOf n (bits.drop 8)

/-- Flags in the bits of one byte, the first in bit 0. -/
def flagsByte : List Bool → Byte
  | [] => 0
  | b :: bs => (flagsByte bs <<< 1) ||| boolByte b

/-- A true/false byte above 1 fails (R193). -/
def boolOf (b : Byte) : Option Bool := if b = 0 then some false else if b = 1 then some true else none

/-! ## Enumerated codes (Table 11-4) -/

/-- The code of a record state; 0 is VACANT. -/
def RecState.code : RecState → Byte
  | .idle => 1 | .pending => 2 | .granted => 3 | .live => 4 | .releasing _ => 5 | .shed => 6 | .held _ => 7

/-- The code of a destination. -/
def Dest.code : Dest → Byte
  | .idle => 1 | .shed => 2 | .held _ => 3 | .vacant => 4

/-- The code of a hold reason. -/
def HoldReason.code : HoldReason → Byte
  | .host => 1 | .quota => 2 | .refused => 3 | .fault => 4

/-- The destination's code, 0 outside RELEASING (R193). -/
def RecState.destCode : RecState → Byte
  | .releasing d => d.code
  | .idle | .pending | .granted | .live | .shed | .held _ => 0

/-- The hold reason's code, 0 where the field is absent (Table 1-1, R193). -/
def RecState.holdCode : RecState → Byte
  | .held h | .releasing (.held h) => h.code
  | .releasing .idle | .releasing .shed | .releasing .vacant => 0
  | .idle | .pending | .granted | .live | .shed => 0

/-- The code of a reason. -/
def Reason.code : Reason → Byte
  | .admitted => 1 | .confirmed => 2 | .shed => 3 | .restored => 4 | .quota => 5 | .demandOn => 6 | .demandOff => 7
  | .unitOpened => 8 | .refused => 9 | .stopped => 10 | .tripped => 11 | .retired => 12 | .trimmed => 13
  | .untrimmed => 14

/-- The code of a kind. -/
def Kind.code : Kind → Byte
  | .ordinary => 1 | .critical => 2 | .saw => 3

/-- The kind of a code. -/
def kindOf (b : Byte) : Option Kind :=
  if b = 1 then some .ordinary else if b = 2 then some .critical else if b = 3 then some .saw else none

/-- The code of a governor state. -/
def GovState.code : GovState → Byte
  | .stopped => 0 | .runUp => 1 | .regulating => 2 | .hold => 3 | .stopping => 4 | .tripped => 5

/-- The code of a trip cause. -/
def TripCause.code : TripCause → Byte
  | .none => 0 | .overspeed => 1 | .tachLost => 2 | .estop => 3 | .runupFail => 4 | .gateFault => 5

/-- The code of a sequencer state. -/
def SawState.code : SawState → Byte
  | .idle => 0 | .claiming => 1 | .spinup => 2 | .setting => 3 | .feedWait => 4 | .feeding => 5 | .returning => 6
  | .halted => 7 | .releasing => 8 | .fault => 9

/-- The code of a fault cause. -/
def FaultCause.code : FaultCause → Byte
  | .none => 0 | .stall => 1 | .fwdLimit => 2 | .revLimit => 3 | .noHome => 4 | .setTimeout => 5 | .clutchFail => 6
  | .clutchStuck => 7 | .guard => 8 | .estop => 9

/-- The code of a remembered phase, 0 when absent. -/
def phaseCode : Option Phase → Byte
  | none => 0 | some .setting => 1 | some .feedWait => 2 | some (.returning _) => 3

/-- The code of a reach. -/
def Reach.code : Reach → Byte
  | .unseen => 0 | .present => 1 | .missing => 2

/-- The code of a mark class. -/
def MarkClass.code : MarkClass → Byte
  | .routine => 1 | .demand => 2 | .closing => 3 | .opening => 4

/-- The code of a mark or of an owed class, 0 for none. -/
def classCode : Option MarkClass → Byte
  | none => 0
  | some c => c.code

/-- The code of an enrolment end reason. -/
def EnrolEnd.code : EnrolEnd → Byte
  | .noneYet => 0 | .complete => 1 | .none => 2 | .noPresence => 3 | .lineError => 4 | .full => 5 | .restart => 6

/-- The code of a port form. -/
def PortForm.code : PortForm → Byte
  | .spi => 0 | .i2c => 1

/-- The code of a result (Table 11-1). -/
def ResultCode.code : ResultCode → Byte
  | .done => 0 | .accepted => 1 | .clamped => 2 | .busy => 3 | .unknownRequest => 4 | .badLength => 5 | .badField => 6
  | .noSlot => 7 | .noSuch => 8 | .inUse => 9 | .wrongState => 10 | .latched => 11

/-! ## Targets and slots (Table 11-3, R5) -/

/-- The bytes of a target. -/
def Target.bytes : Target → List Byte
  | .field u o => [1, BitVec.ofNat 8 u.val, BitVec.ofNat 8 o.val]
  | .relay n => [2, BitVec.ofNat 8 n.val, 0]
  | .clutch => [3, 0, 0]

/-- A byte as an index below `n`. -/
def indexOf (n : Nat) (b : Byte) : Option (Fin n) := if h : b.toNat < n then some ⟨b.toNat, h⟩ else none

/-- The target of three bytes: a type not listed, an index out of range or an unused index byte that is not 0 gives
none (R193, R11). -/
def targetOf (b : TargetBytes) : Option Target :=
  if b.kind = 1 then
    match indexOf Config.units b.first, indexOf Config.outlets b.second with
    | some u, some o => some (.field u o)
    | _, _ => none
  else if b.kind = 2 then
    if b.second = 0 then (indexOf Config.relays b.first).map .relay else none
  else if b.kind = 3 ∧ b.first = 0 ∧ b.second = 0 then some .clutch
  else none

/-- A slot number, none above 47 (R5). -/
def slotNumber (b : Byte) : Option Slot := indexOf Config.slots b

/-! ## Identities and the check byte (R127, R128) -/

/-- The register of the check after one data bit (R128). -/
def crcBit (reg : Byte) (bit : Bool) : Byte :=
  if reg.msb = bit then reg <<< 1 else (reg <<< 1) ^^^ 7

/-- The register after one byte, most significant bit first. -/
def crcByte (reg b : Byte) : Byte :=
  [7, 6, 5, 4, 3, 2, 1, 0].foldl (fun r i => crcBit r (b.getLsbD i)) reg

/-- The CRC-8 of a run of bytes (R128). -/
def crc8 (bytes : List Byte) : Byte := bytes.foldl crcByte 0

/-- The five bytes of an identity, bit position 0 first (R127). -/
def identityBytes (x : Identity) : List Byte :=
  [x.extractLsb' 32 8, x.extractLsb' 24 8, x.extractLsb' 16 8, x.extractLsb' 8 8, x.extractLsb' 0 8]

/-- The kind code of an identity: its first eight bits (R127). -/
def kindCode (x : Identity) : Byte := x.extractLsb' 32 8

/-- An identity is valid when its check field is the CRC-8 of its first four bytes (R127). -/
def validIdentity (x : Identity) : Bool := crc8 ((identityBytes x).take 4) == x.extractLsb' 0 8

/-- A reply ends with the CRC-8 of its preceding bytes and does not read all ones (R121). -/
def checksGood (reply : List Byte) : Bool :=
  !(reply.all fun b => b == 0xFF) && crc8 reply.dropLast == reply.getLastD 0

/-- The `n` bytes of a reply as read: a read slot in which no unit drives reads 1 (R116; log 16). -/
def asRead (n : Nat) (reply : List Byte) : List Byte := (reply ++ List.replicate n 0xFF).take n

/-- A byte of a reply. -/
def byteAt (reply : List Byte) (i : Nat) : Byte := reply.getD i 0

/-- A two-byte quantity of a reply, high byte first. -/
def halfAt (reply : List Byte) (i : Nat) : Half := byteAt reply i ++ byteAt reply (i + 1)

/-! ## Field-line bytes (Tables 11-8, 11-9) -/

/-- The selectors (Table 7-3). -/
inductive Selector where
  | allUnits | oneUnit | seekAll | seekAsking
deriving DecidableEq, Repr

/-- The code of a selector. -/
def Selector.code : Selector → Byte
  | .allUnits => 0xC3 | .oneUnit => 0x5A | .seekAll => 0xA6 | .seekAsking => 0x69

/-- The selector of a byte, if a unit recognizes it (R119). -/
def Selector.ofByte (b : Byte) : Option Selector :=
  [Selector.allUnits, .oneUnit, .seekAll, .seekAsking].find? fun x => x.code == b

/-- The code of a block's function. -/
def Block.function : Block → Byte
  | .readStatus => 0x11 | .setOutlets _ => 0x22 | .ackDemand => 0x33 | .readPlate => 0x44

/-- A function byte: the continuation flag in bit 7, the function code below it (R120). -/
def functionByte (continuation : Bool) (b : Block) : Byte := if continuation then 0x80 ||| b.function else b.function

/-- The data out of SET_OUTLETS: the desired states and their complement (R123). -/
def outletsOut (desired : BitVec 4) : List Byte := [(0 : BitVec 4) ++ desired, ~~~((0 : BitVec 4) ++ desired)]

/-- The outlets a unit has, as a mask over the four positions. -/
def outletMask (n : Nat) : BitVec 4 := BitVec.ofNat 4 (2 ^ n - 1)

/-! ## Payloads (Tables 11-5 to 11-7) -/

/-- An allotment record as returned; a VACANT slot is its number and zeros (Table 11-5, R29). -/
def recordBytes (i : Slot) : Option Allotment → List Byte
  | none => BitVec.ofNat 8 i.val :: List.replicate 25 0
  | some r =>
    [BitVec.ofNat 8 i.val, r.state.code, r.state.destCode, r.state.holdCode,
      (match r.reason with | some x => x.code | none => 0), r.kind.code] ++ r.target.bytes ++
    beBytes 2 r.claim ++ beBytes 2 r.idle ++ beBytes 1 r.priority ++ beBytes 2 r.quota ++ beBytes 2 r.used ++
    beBytes 4 r.residue ++ beBytes 2 r.tag ++ [flagsByte [r.wanted, r.locked, r.trimmed]] ++ beBytes 1 r.starve

/-- The unit entry returned by UNIT_INFO (Table 11-6). `visiting` says whether a visit to the unit is in flight. -/
def unitBytes (u : UnitIx) (e : UnitEntry) (visiting : Bool) : List Byte :=
  let ratings : List Half := match e.plate with | some p => p.ratings.toList | none => List.replicate 4 0
  [BitVec.ofNat 8 u.val] ++ identityBytes e.identity ++
  (match e.plate with | some p => [1, p.maker, BitVec.ofNat 8 p.outlets] | none => [0, 0, 0]) ++
  ratings.flatMap (fun r => beBytes 2 r.toNat) ++
  [e.reach.code, BitVec.ofNat 8 e.failures] ++
  e.meters.toList.flatMap (fun m => beBytes 2 ((m.getD 0).toNat)) ++
  [flagsByte (e.meters.toList.map Option.isSome)] ++
  [flagsByte ((List.range 4).map (fun n => (e.reported.getD 0).getLsbD n) ++ [e.reported.isSome])] ++
  [flagsByte [e.unitFault, visiting]] ++
  [classCode (e.mark.map Mark.cls), classCode e.owed]

/-- The governor status (R91, Table 11-7). -/
def govStatusBytes (g : Gov) (a : Alt) : List Byte :=
  [g.st.code, g.cause.code] ++ beBytes 2 g.fMeas ++ beBytes 2 (g.bAcc / 16) ++ beBytes 2 g.duty ++ beBytes 2 g.spare ++
  beBytes 4 a.gOut ++ beBytes 2 a.headroom ++ beBytes 2 g.gatePos ++ [boolByte g.gateValid]

/-- One channel of the input status (Table 11-7). -/
def chanByte (c : Chan) : Byte :=
  flagsByte [c.raw, c.level, c.activeLow, decide (c.filter % 2 = 1), decide (c.filter / 2 = 1), c.candidate.isSome]

/-- The input status (R67, Table 11-7). -/
def inputStatusBytes (u : Inu) : List Byte :=
  u.chans.toList.map chanByte ++ [flagsByte [u.estopLatch, u.guardLatch, u.lastStamp.isSome, u.homed]] ++
  beBytes 4 u.lastPeriod.toNat ++ beBytes 4 u.count.toNat

/-- The saw status (R175, Table 11-7). The carriage position is the count divided by enc_per_mm, toward zero. -/
def sawStatusBytes (w : Saw) (u : Inu) (encPerMm : Nat) : List Byte :=
  let rate := match w.st with
    | .feeding | .returning => w.feedRate
    | .idle | .claiming | .spinup | .setting | .feedWait | .halted | .releasing | .fault => 0
  [w.st.code, w.cause.code, (match w.cuts with | o :: _ => BitVec.ofNat 8 o.number | [] => 0),
    BitVec.ofNat 8 w.cuts.length] ++
  signedBytes (u.count.toInt.tdiv encPerMm) ++ beBytes 2 w.scale ++ beBytes 2 rate ++
  [flagsByte [u.homed, w.stopFlag, w.cutWanted, !w.cuts.isEmpty], phaseCode w.remembered] ++
  (match w.stroke with | some k => beBytes 4 k.done ++ beBytes 4 k.steps | none => List.replicate 8 0)

/-- A cut order in a payload: number, thickness, stroke, ceiling (Table 11-2). -/
def orderBytes (o : CutOrder) : List Byte :=
  beBytes 1 o.number ++ beBytes 2 o.thickness ++ beBytes 2 o.stroke ++ beBytes 2 o.ceiling

/-- The payload of CUT_LIST (R156, Table 11-2). -/
def cutListBytes (w : Saw) : List Byte :=
  BitVec.ofNat 8 w.cuts.length :: w.cuts.flatMap orderBytes ++
  (match w.stroke with | some k => beBytes 4 k.done ++ beBytes 4 k.steps | none => List.replicate 8 0)

/-- The enrolment byte of the found-list reply (Table 11-7). -/
def enrolByte (e : Enrolment) : Byte := flagsByte [e.running, e.more] ||| (e.ended.code <<< 4)

/-- The found-list reply, the identity 0 on NO_SUCH (R139, Table 11-7). -/
def foundBytes (identity : Identity) (remaining : Nat) (e : Enrolment) : List Byte :=
  identityBytes identity ++ [BitVec.ofNat 8 remaining, enrolByte e]

/-- The identification (R192, Table 11-7). -/
def identityPayload (r : Rqp) : List Byte :=
  [0x42, 0x4B, 0x34, 0x01, 0x30, 0x18, 0x08, 0x10, r.form.code, boolByte r.addrBit]

end Sys2Proof.Machine
end

