-- ==== Sys2Proof/Machine/Flags.lean ====
section
/-! DEFINITION. The flags the host sees: the raw and the masked attention set, the attention line, the port state
byte. -/

namespace Sys2Proof.Machine

/-- The causes that stay until acknowledged (Table 10-3). -/
def latchedCauses : CauseSet :=
  Cause.enrolDone.bit ||| Cause.govState.bit ||| Cause.unitReach.bit ||| Cause.sawState.bit ||| Cause.input.bit

/-- The level causes raised now: each follows its collection (R187). -/
def State.levelCauses (s : State) : CauseSet :=
  (if s.anyChanged then Cause.changed.bit else 0) ||| (if s.flc.found.isEmpty then 0 else Cause.found.bit)

/-- The raw attention set (R187). -/
def State.rawSet (s : State) : CauseSet := (s.rqp.latched &&& latchedCauses) ||| s.levelCauses

/-- The raw set limited to the mask (R188). -/
def State.maskedSet (s : State) : CauseSet := s.rawSet &&& s.rqp.mask

/-- The attention line is pulled low: the masked set is non-empty, and no reset lasts (R188, R190). -/
def State.attention (s : State) : Bool := !s.inReset && s.maskedSet != 0

/-- READY: no request is in execution (R181). -/
def State.ready (s : State) : Bool := s.rqp.exec.isNone

/-- The port state byte: bit 0 READY, bit 1 OVERRUN, bit 2 ATTN (Table 10-1, Table 11-1). -/
def State.stateByte (s : State) : Byte := flagsByte [s.ready, s.rqp.overrun, s.attention]

/-- A cause set as a byte, bit 7 clear. -/
def causesByte (c : CauseSet) : Byte := c.setWidth 8

/-- The set a cause-set byte names, none with bit 7 set (Table 11-2, R188). -/
def causesOf (b : Byte) : Option CauseSet := if b.getLsbD 7 then none else some (b.setWidth 7)

end Sys2Proof.Machine
end

