-- ==== Sys2Proof/Machine/Marks.lean ====
section
/-! DEFINITION. Marks and the arbitration of the field line (R141, R142, R145, R147). -/

namespace Sys2Proof.Machine

/-- How urgent a class is, the most urgent greatest (Table 8-2). -/
def MarkClass.rank : MarkClass → Nat
  | .routine => 0 | .demand => 1 | .closing => 2 | .opening => 3

/-- The mark after one is given: a new mark, a raised class with the time kept, or no change (R141). -/
def combineMark (held : Option Mark) (given : Mark) : Option Mark :=
  match held with
  | none => some given
  | some m => if m.cls.rank < given.cls.rank then some { m with cls := given.cls } else some m

/-- Two recorded marks taken together in order (R147). -/
def combineMarks (held given : Option Mark) : Option Mark :=
  match given with
  | none => held
  | some m => combineMark held m

/-- The owed class raised by a mark of class OPEN, CLOSE or DEMAND (R142). -/
def raiseOwed (owed : Option MarkClass) (cls : MarkClass) : Option MarkClass :=
  if cls = .routine then owed
  else match owed with
    | none => some cls
    | some c => if c.rank < cls.rank then some cls else some c

/-- A unit-table position stored. -/
def Flc.setUnit (f : Flc) (u : UnitIx) (e : Option UnitEntry) : Flc := { f with units := f.units.set u e }

/-- A mark recorded against a visit, before or after its cut point (R147). -/
def Visit.record (v : Visit) (m : Mark) : Visit :=
  if v.cut then { v with after := combineMark v.after m } else { v with before := combineMark v.before m }

/-- The visit in flight to a unit whose entry has not been dropped. -/
def Flc.visitTo (f : Flc) (u : UnitIx) : Option Visit :=
  match f.tx with
  | some (.visit v) => if v.unit = u ∧ v.dropped = false then some v else none
  | some (.broadcast _) | some (.seek _ _) | none => none

/-- A mark of a class given to a unit: kept nowhere without an entry; recorded against a visit in flight; held at
ROUTINE with the class owed while the unit is MISSING; else the unit's mark (R141, R142, R147). -/
def Flc.giveMark (f : Flc) (now : Nat) (cls : MarkClass) (u : UnitIx) : Flc :=
  match f.units.get u with
  | none => f
  | some e =>
    let e := if e.reach = .missing then { e with owed := raiseOwed e.owed cls } else e
    match f.visitTo u with
    | some v => { f.setUnit u (some e) with tx := some (.visit (v.record ⟨cls, now⟩)) }
    | none =>
      let given := if e.reach = .missing then .routine else cls
      f.setUnit u (some { e with mark := combineMark e.mark ⟨given, now⟩ })

/-- ALT marks a unit for field work (R25). -/
def State.giveMark (s : State) (cls : MarkClass) (u : UnitIx) : State :=
  s.onFlc fun f => f.giveMark s.now cls u

/-- The unit positions in ascending order. -/
def allUnits : List UnitIx := List.finRange Config.units

/-- Of the units with a mark of a class, the one marked earliest, the lower index first among equals (R145). -/
def Flc.firstMarked (f : Flc) (cls : MarkClass) : Option UnitIx :=
  (allUnits.foldl (init := (none : Option (UnitIx × Nat))) fun best u =>
    match (f.units.get u).bind UnitEntry.mark with
    | none => best
    | some m =>
      if m.cls ≠ cls then best
      else match best with
        | none => some (u, m.time)
        | some (_, t) => if m.time < t then some (u, m.time) else best).map Prod.fst

/-- The visit begun for a unit at a class; its mark is taken off (R141, R145, R146). -/
def Flc.beginVisit (f : Flc) (u : UnitIx) (cls : MarkClass) : Flc :=
  match f.units.get u with
  | none => f
  | some e =>
    { f.setUnit u (some { e with mark := none }) with
      tx := some (.visit
        { unit := u, identity := e.identity, cls, dropped := false
          outlets := match e.plate with | some p => p.outlets | none => 0
          block := if e.plateOwed then .readPlate else .readStatus
          begun := false, asked := false, cut := false, before := none, after := none }) }

/-- A visit for a class, if a unit holds such a mark. -/
def Flc.visitOf (f : Flc) (cls : MarkClass) : Option Flc := (f.firstMarked cls).map fun u => f.beginVisit u cls

/-- The transaction of the first class of Table 8-3 that has work (R145, R151). -/
def Flc.nextWork (f : Flc) : Option Flc :=
  if f.allOpenOwed then some { f with tx := some .broadcast, allOpenOwed := false }
  else (f.visitOf .opening).or <| (f.visitOf .closing).or <|
    (if f.sweep.isOpen then some { f with tx := some (.seek .sweep) } else none).or <|
    (f.visitOf .demand).or <|
    (if f.enrol.running then some { f with tx := some (.seek .enrolment) } else none).or <|
    f.visitOf .routine

/-- The line, when free, is handed to the most urgent work that waits (R145). -/
def Flc.arbitrate (f : Flc) : Flc :=
  match f.tx with
  | some _ => f
  | none => f.nextWork.getD f

/-- Arbitration at the end of a command, when all the work it brought has arrived (R145; log 9). -/
def State.arbitrate (s : State) : State := s.onFlc Flc.arbitrate

end Sys2Proof.Machine
end

