-- ==== Sys2Proof/Machine/Release.lean ====
section
/-! DEFINITION. The passages of a record that ALT makes: releases (1.6), demand changes (1.4), the quota hold (6.4), the
trim back (1.8) and the saw fault's side at ALT (R18). They tell SAW nothing: SAW uses them for its own acts, and
Notices.lean adds SAW's reaction where ALT acts of itself. `byPart` says whether the part made the change (R28). -/

namespace Sys2Proof.Machine

/-- Orders the switch of a releasing record open: the relay opens, the clutch output is released and the release wait
begins, the unit is marked OPEN (R18 step 3, R22, R24, R25). -/
def State.orderOpen (s : State) : Target → State
  | .relay n => s.onAlt fun a => { a with relays := a.relays.set n false }
  | .clutch => s.onAlt fun a => { a with clutch := false, wait := some (.release (s.param .clutchTimeout * 1000)) }
  | .field u _ => s.giveMark .opening u

/-- The beginning of a release of a GRANTED or LIVE record, up to the open order (R18). A `none` reason leaves the
reason as it was, as the host's HOLD does (R4). -/
def State.openRelease (s : State) (byPart : Bool) (i : Slot) (dest : Dest) (reason : Option Reason) : State :=
  match s.record i with
  | none => s
  | some r =>
    let s := if r.state = .granted then (s.subGranted r.share).ballastStep .down r.share else s
    let s := s.setRecord i (some { r with state := .releasing dest, reason := reason.or r.reason })
    (s.noteChange byPart i).orderOpen r.target

/-- Where a completed release leads, by its destination and the wanted flag at that moment (R19). -/
def Allotment.released (r : Allotment) : Dest → Option Allotment
  | .idle => if r.wanted then some r.toPending else some { r with state := .idle }
  | .shed => if r.wanted then some { r with state := .shed } else some { r with state := .idle }
  | .held h => some { r with state := .held h }
  | .vacant => none

/-- The upward step of a completed release: the claim, or for the saw what it was granted (R19). -/
def Allotment.releaseStep (r : Allotment) : Nat :=
  if r.kind = .saw then r.idle + (if r.trimmed then 0 else r.cutShare) else r.claim

/-- A clutch wait ends with the release of the saw record (R24). -/
def State.endWait (s : State) : Target → State
  | .clutch => s.onAlt fun a => { a with wait := none }
  | .relay _ | .field _ _ => s

/-- The completion of a release, with its upward step unless the clutch timed out (R19, R24, R26). -/
def State.completeRelease (s : State) (byPart : Bool) (withStep : Bool) (i : Slot) : State :=
  match s.record i with
  | none => s
  | some r =>
    match r.state with
    | .releasing dest =>
      let s := if withStep then s.ballastStep .up r.releaseStep else s
      let r := { r with trimmed := r.trimmed || decide (r.kind = Kind.saw) }
      ((s.setRecord i (r.released dest)).noteChange byPart i).endWait r.target
    | .idle | .pending | .granted | .live | .shed | .held _ => s

/-- A release that is confirmed open as it begins: a LOCAL relay at once (R22), the clutch when CLUTCH_IN already reads
inactive (R24). -/
def State.settleRelease (s : State) (byPart : Bool) (i : Slot) : State :=
  match s.record i with
  | none => s
  | some r =>
    match r.target with
    | .relay _ => s.completeRelease byPart true i
    | .clutch => if s.active .clutchIn then s else s.completeRelease byPart true i
    | .field _ _ => s

/-- A whole release as it begins (R18), telling SAW nothing. -/
def State.beginRelease (s : State) (byPart : Bool) (i : Slot) (dest : Dest) (reason : Option Reason) : State :=
  ((s.openRelease byPart i dest reason).settleRelease byPart i).checkStrict

/-- A demand change of the record in a slot (R13, Table 1-5), telling SAW nothing. -/
def State.setWanted (s : State) (byPart : Bool) (i : Slot) (want : Bool) : State :=
  match s.record i with
  | none => s
  | some r =>
    if r.wanted = want then s
    else
      let r := { r with wanted := want }
      match want, r.state with
      | true, .idle =>
        (s.setRecord i (some { r with reason := some .demandOn }.toPending)).noteChange byPart i
      | false, .pending | false, .shed =>
        ((s.setRecord i (some { r with state := .idle, reason := some .demandOff })).noteChange byPart i).checkStrict
      | false, .granted | false, .live =>
        (s.setRecord i (some r)).beginRelease byPart i .idle (some .demandOff)
      | true, .pending | true, .granted | true, .live | true, .releasing _ | true, .shed | true, .held _
      | false, .idle | false, .releasing _ | false, .held _ => s.setRecord i (some r)

/-- The quota hold of a record whose quota is spent (R111). -/
def State.quotaHold (s : State) (i : Slot) : State :=
  match s.record i with
  | none => s
  | some r =>
    if r.spent then
      match r.state with
      | .pending =>
        ((s.setRecord i (some { r with state := .held .quota, reason := some .quota })).noteChange true i).checkStrict
      | .granted | .live => s.beginRelease true i (.held .quota) (some .quota)
      | .shed => s.checkStrict
      | .idle | .releasing _ | .held _ => s
    else s

/-- The saw's demand, set or dropped by the sequencer (R157, R165, R171, R176): a change made by the part. -/
def State.sawWant (s : State) (want : Bool) : State :=
  match s.sawSlot with
  | none => s
  | some i => s.setWanted true i want

/-- The saw record is in RELEASING. -/
def State.sawReleasing (s : State) : Bool :=
  match s.sawRecord with
  | some r => r.isReleasing
  | none => false

/-- The trim back of a LIVE, untrimmed saw record: the cut share returns with an upward step (R26). -/
def State.trimBack (s : State) : State :=
  match s.sawSlot with
  | none => s
  | some i =>
    match s.record i with
    | some r =>
      if r.state = .live ∧ r.trimmed = false then
        ((s.setRecord i (some { r with trimmed := true, reason := some .trimmed })).noteChange true i).ballastStep
          .up r.cutShare
      else s
    | none => s

/-- A saw fault at ALT: want is dropped, and a GRANTED or LIVE record is released toward HELD for the fault (R18). -/
def State.sawFaultAtAlt (s : State) : State :=
  match s.sawSlot with
  | none => s
  | some i =>
    match s.record i with
    | none => s
    | some r =>
      match r.state with
      | .granted | .live =>
        (s.setRecord i (some { r with wanted := false })).beginRelease true i (.held .fault) (some .demandOff)
      | .pending | .shed => s.setWanted true i false
      | .idle | .releasing _ | .held _ => s.setRecord i (some { r with wanted := false })

/-- SAW sets or clears cut power wanted, which changes the saw record's candidacy (R41, R49, R160). -/
def State.setCutWanted (s : State) (want : Bool) : State :=
  (s.onSaw fun w => { w with cutWanted := want }).checkStrict

end Sys2Proof.Machine
end

