-- ==== Sys2Proof/Machine/SawCore.lean ====
section
/-! DEFINITION. The acts of the Saw Sequencer (Section 9): its states, faults, settings, strokes, returns and home
arrivals, and how it takes each notice, publication and report. -/

namespace Sys2Proof.Machine

/-- A sequencer state entered; a change raises SAW_STATE (R154). -/
def State.enterSaw (s : State) (st : SawState) : State :=
  if s.saw.st = st then s else (s.onSaw fun w => { w with st }).raise .sawState

/-- Steppers and timers stopped (R168, R171, R173, R176); a stopped feed reports the rate 0 (log 18). -/
def Saw.stopMotion (w : Saw) : Saw :=
  { w with feed := .idle, setworks := .idle, feedRate := 0, spinTimer := none, waitTimer := none, settleTimer := none }

/-- The records of the phase in hand and the remembered phase discarded (R171, R173, R176). -/
def Saw.dropPhase (w : Saw) : Saw := { w with setting := none, stroke := none, ret := none, remembered := none }

/-- Cut power wanted set false with its notice to ALT, if it was set (R160, R163, R171, R173). -/
def State.clearCutWanted (s : State) : State := if s.saw.cutWanted then s.setCutWanted false else s

/-- A fault; in FAULT it changes nothing (R172, R173). -/
def State.sawFault (s : State) (cause : FaultCause) : State :=
  if s.saw.st = .fault then s
  else
    let s := ((s.onSaw Saw.stopMotion).clearCutWanted.onSaw Saw.dropPhase).sawFaultAtAlt
    (s.enterSaw .fault).onSaw fun w => { w with cause }

/-- The interval of a stepper at a rate above 0, in whole microseconds (log 17). -/
def stepInterval (rate : Nat) : Nat := 1000000 / rate

/-- The greatest stepping rate of the feed stepper (R162, R164). -/
def maxFeedRate : Nat := 20000

/-- The head order's feed ceiling, 0 without one (log 22). -/
def Saw.headCeiling (w : Saw) : Nat := match w.cuts with | o :: _ => o.ceiling | [] => 0

/-- The head order's stroke, 0 without one (log 22). -/
def Saw.headStroke (w : Saw) : Nat := match w.cuts with | o :: _ => o.stroke | [] => 0

/-- The head order's thickness, 0 without one (log 22). -/
def Saw.headThickness (w : Saw) : Nat := match w.cuts with | o :: _ => o.thickness | [] => 0

/-- The scale of a publication made in REGULATING (R162). -/
def scaleOf (fMeas fSet feedBand : Nat) : Nat :=
  if fSet ≤ fMeas then 256
  else if fMeas ≤ fSet - feedBand then 0
  else 256 * (fMeas - (fSet - feedBand)) / feedBand

/-- The feed rate in mm/s at a scale (R162). -/
def feedMmPerS (ceiling scale feedMin : Nat) : Nat :=
  let rate := ceiling * scale / 256
  if 0 < scale ∧ rate < feedMin then min feedMin ceiling else rate

/-- The feed step rate the held scale commands for the stroke in hand (R162). -/
def State.strokeRate (s : State) : Nat :=
  match s.saw.stroke with
  | none => 0
  | some k => min maxFeedRate (feedMmPerS s.saw.headCeiling s.saw.scale (s.param .feedMin) * k.stepsPerMm)

/-- The feed step rate of FEEDING takes a value: 0 stands the stepper, a standing stepper starts, a stepping one takes
the new rate from its next step (R161, R162). -/
def Saw.setFeedRate (w : Saw) (rate : Nat) : Saw :=
  let feed := match w.feed with
    | .stepping _ _ _ => if rate = 0 then .idle else w.feed
    | .idle => if rate = 0 then .idle else .stepping true rate (stepInterval rate)
  { w with feedRate := rate, feed }

/-- FEEDING entered: cut power is no longer wanted, the stroke record is made unless one is kept, FWD_LIMIT faults
(R160, R161). -/
def State.enterFeeding (s : State) : State :=
  let s := s.clearCutWanted.enterSaw .feeding
  let s := match s.saw.stroke with
    | some _ => s
    | none =>
      let perMm := s.param .stepsPerMm
      s.onSaw fun w =>
        { w with stroke := some { steps := w.headStroke * perMm, stepsPerMm := perMm, countsPerMm := s.param .encPerMm
                                  reference := s.inu.count, done := 0 } }
  if s.active .fwdLimit then s.sawFault .fwdLimit
  else s.onSaw fun w => w.setFeedRate s.strokeRate

/-- The saw record is LIVE with trimmed false (R160, R161). -/
def State.sawCutting (s : State) : Bool :=
  match s.sawRecord with
  | some r => r.state == .live && !r.trimmed
  | none => false

/-- FEED_WAIT entered (R159, R160). -/
def State.enterFeedWait (s : State) : State :=
  let s := (s.enterSaw .feedWait).onSaw fun w => { w with setting := none }
  if s.sawCutting then s.enterFeeding else s.setCutWanted true

/-- The SETTLE stage begun (R159). -/
def State.beginSettle (s : State) : State :=
  let s := s.onSaw fun w => { w with waitTimer := none, setting := w.setting.map fun k => { k with stage := .settle } }
  if s.param .setSettle = 0 then s.enterFeedWait
  else s.onSaw fun w => { w with settleTimer := msTimer (s.param .setSettle) }

/-- The WAIT stage begun; SET_DONE may already read active (R159). -/
def State.beginSetWait (s : State) : State :=
  let s := s.onSaw fun w =>
    { w with setworks := .idle, waitTimer := msTimer ((s.param .setTimeoutCode + 1) * 16)
             setting := w.setting.map fun k => { k with stage := .wait } }
  if s.active .setDone then s.beginSettle else s

/-- The fixed stepping rate of the setworks stepper (R159). -/
def setworksRate : Nat := 2000

/-- The MOVE stage with a number of steps to issue; 0 steps end at once (R159). -/
def State.beginSetMove (s : State) (steps : Nat) : State :=
  let s := s.onSaw fun w => { w with setting := some { remaining := steps, stage := .move } }
  if steps = 0 then s.beginSetWait
  else s.onSaw fun w => { w with setworks := .stepping true setworksRate (stepInterval setworksRate) }

/-- SETTING entered for the head order (R159). -/
def State.enterSetting (s : State) : State :=
  (s.enterSaw .setting).beginSetMove (s.saw.headThickness * s.param .setStepsPerMm / 10)

/-- RELEASING_SAW while the saw record releases, else SAW_IDLE directly (R165, R176). -/
def State.enterReleasing (s : State) : State := s.enterSaw (if s.sawReleasing then .releasing else .idle)

/-- The head order begun: a thickness of 0 goes to FEED_WAIT (R158, R165). -/
def State.beginOrder (s : State) : State := if s.saw.headThickness = 0 then s.enterFeedWait else s.enterSetting

/-- How SAW goes on after a return of a kind (R165, R171). -/
def State.afterReturn (s : State) (kind : ReturnKind) : State :=
  match kind with
  | .abort => s.enterReleasing
  | .stroke | .homing =>
    if s.saw.cuts.isEmpty || s.saw.stopFlag then (s.sawWant false).enterReleasing else s.beginOrder

/-- Arrival home of the return in hand (R165). -/
def State.arriveHome (s : State) (kind : ReturnKind) : State :=
  (s.onSaw fun w =>
    { w with feed := .idle, feedRate := 0, ret := none
             cuts := if kind = .stroke then w.cuts.tail else w.cuts }).afterReturn kind

/-- RETURNING entered with a return of a kind: already home, at REV_LIMIT, or stepping in reverse (R164). -/
def State.enterReturning (s : State) (kind : ReturnKind) : State :=
  let perMm := s.param .stepsPerMm
  let s := (s.enterSaw .returning).onSaw fun w =>
    { w with ret := some { kind, stepsPerMm := perMm, countsPerMm := s.param .encPerMm, reference := s.inu.count
                           issued := 0, allowance := (w.headStroke + 500) * perMm } }
  if s.atHome then s.arriveHome kind
  else if s.active .revLimit then s.sawFault .revLimit
  else
    let rate := min maxFeedRate (s.param .returnRate * perMm)
    s.onSaw fun w => { w with feedRate := rate, feed := .stepping false rate (stepInterval rate) }

/-- The count expected of a phase after a number of steps, forward or in reverse (R166). -/
def expectedCount (forward : Bool) (reference : BitVec 32) (steps countsPerMm stepsPerMm : Nat) : Int :=
  let travel : Int := (steps * countsPerMm / stepsPerMm : Nat)
  if forward then reference.toInt + travel else reference.toInt - travel

/-- A count lies within the stall tolerance of the expected one (R166). -/
def withinStall (count expected : Int) (tol : Nat) : Bool := decide ((count - expected).natAbs ≤ tol)

/-- The stall check of the phase in hand passes; without a phase there is none (R166). -/
def State.stallPasses (s : State) : Bool :=
  match s.saw.st with
  | .feeding =>
    match s.saw.stroke with
    | some k => withinStall s.count (expectedCount true k.reference k.done k.countsPerMm k.stepsPerMm) (s.param .stallTol)
    | none => true
  | .returning =>
    match s.saw.ret with
    | some k => withinStall s.count (expectedCount false k.reference k.issued k.countsPerMm k.stepsPerMm) (s.param .stallTol)
    | none => true
  | .idle | .claiming | .spinup | .setting | .feedWait | .halted | .releasing | .fault => true

/-- The end of a stroke: stopped, checked, trimmed back, returned (R163). -/
def State.strokeEnd (s : State) : State :=
  let s := s.onSaw fun w => { w with feed := .idle, feedRate := 0 }
  if s.stallPasses then
    ((s.trimBack.clearCutWanted).onSaw fun w => { w with stroke := none }).enterReturning .stroke
  else s.sawFault .stall

/-- A publication at SAW: the scale, the feed step rate in FEEDING, then the stall check (R162, R166). -/
def State.sawPublication (s : State) (regulating : Bool) (fMeas : Nat) : State :=
  let scale := if regulating then scaleOf fMeas (s.param .fSet) (s.param .feedBand) else 0
  let s := s.onSaw fun w => { w with scale }
  let s := if s.saw.st = .feeding then s.onSaw fun w => w.setFeedRate s.strokeRate else s
  if s.stallPasses then s else s.sawFault .stall

/-- A governor state report at SAW (R169). -/
def State.sawGovReport (s : State) (regulating : Bool) : State :=
  if regulating then s
  else s.onSaw fun w => let w := { w with scale := 0 }; if w.st = .feeding then w.setFeedRate 0 else w

/-- What is remembered at a halt from a state, and the records that are kept (R168). -/
def Saw.halt (w : Saw) : Saw :=
  match w.st with
  | .setting => { w.stopMotion with remembered := some .setting, stroke := none, ret := none }
  | .feedWait | .feeding => { w.stopMotion with remembered := some .feedWait, setting := none, ret := none }
  | .returning =>
    { w.stopMotion with remembered := w.ret.map fun k => .returning k.kind, setting := none, stroke := none, ret := none }
  | .idle | .claiming | .spinup | .halted | .releasing | .fault =>
    { w.stopMotion with remembered := none, setting := none, stroke := none, ret := none }

/-- HALTED entered (R168); a departure from FEED_WAIT takes back cut power wanted (R160). -/
def State.enterHalted (s : State) : State := ((s.clearCutWanted).onSaw Saw.halt).enterSaw .halted

/-- SPINUP entered (R158, R168). -/
def State.enterSpinup (s : State) : State :=
  (s.enterSaw .spinup).onSaw fun w => { w with spinTimer := msTimer (s.param .spinupTime) }

/-- A remembered setting resumed at the stage held (R168). -/
def State.resumeSetting (s : State) : State :=
  let s := s.enterSaw .setting
  match s.saw.setting with
  | some k =>
    match k.stage with
    | .move => s.beginSetMove k.remaining
    | .wait => s.beginSetWait
    | .settle => s.beginSettle
  | none => s

/-- A remembered phase resumed and made absent (R168). -/
def State.resume (s : State) (phase : Phase) : State :=
  let s := s.onSaw fun w => { w with remembered := none }
  match phase with
  | .setting => s.resumeSetting
  | .feedWait => s.enterFeedWait
  | .returning kind => s.enterReturning kind

/-- How SAW goes on at the end of the spin-up (R158). -/
def State.spunUp (s : State) : State :=
  let s := s.onSaw fun w => { w with spinTimer := none }
  match s.saw.remembered with
  | some phase => s.resume phase
  | none => if s.atHome then s.beginOrder else s.enterReturning .homing

/-- Notice: the allotment became LIVE (R158, R167, R168). -/
def State.noticeLive (s : State) : State :=
  if s.saw.st = .claiming ∨ s.saw.st = .halted then s.enterSpinup else s

/-- Notice: trim (R167). The feed stops in place and the stroke record is kept. -/
def State.noticeTrim (s : State) : State :=
  if s.saw.st = .feeding then (s.onSaw fun w => { w with feed := .idle, feedRate := 0 }).enterFeedWait else s

/-- Notice: untrim; outside FEED_WAIT the cut share is returned at once, and that trim is told too (R160, R167). -/
def State.noticeUntrim (s : State) : State :=
  if s.saw.st = .feedWait then s.enterFeeding else s.trimBack.noticeTrim

/-- The return in hand is an abort return (R167, R171). -/
def Saw.aborting (w : Saw) : Bool := match w.ret with | some k => k.kind == .abort | none => false

/-- Notice: a release begun, which halts SAW when it leads toward SHED or HELD (R167). -/
def State.noticeRelease (s : State) (dest : Dest) : State :=
  match dest with
  | .shed | .held _ =>
    match s.saw.st with
    | .spinup | .setting | .feedWait | .feeding => s.enterHalted
    | .returning => if s.saw.aborting then s else s.enterHalted
    | .idle | .claiming | .halted | .releasing | .fault => s
  | .idle | .vacant => s

/-- Notice: the allotment left RELEASING (R165, R167). -/
def State.noticeLeftReleasing (s : State) : State := if s.saw.st = .releasing then s.enterSaw .idle else s

end Sys2Proof.Machine
end

