-- ==== Sys2Proof/Machine/Notices.lean ====
section
/-! DEFINITION. The acts of ALT that SAW hears of (1.7.2, 1.8): releases and the clutch waits. ALT tells SAW of each
change in the act that makes it. -/

namespace Sys2Proof.Machine

/-- ALT tells SAW when the record in a slot is the saw record (R24). -/
def State.tellSaw (s : State) (i : Slot) (notice : State → State) : State :=
  match s.record i with
  | some r => if r.kind = .saw then notice s else s
  | none => s

/-- A release of a GRANTED or LIVE record as ALT makes it, with SAW's notices (R18, R167). -/
def State.release (s : State) (byPart : Bool) (i : Slot) (dest : Dest) (reason : Option Reason) : State :=
  let s := (s.openRelease byPart i dest reason).tellSaw i fun s => s.noticeRelease dest
  ((s.settleRelease byPart i).tellSaw i fun s =>
    if s.sawReleasing then s else s.noticeLeftReleasing).checkStrict

/-- The saw record becomes LIVE: the engagement is confirmed (R23). -/
def State.confirmClutch (s : State) : State :=
  match s.sawSlot with
  | none => s
  | some i =>
    match s.record i with
    | none => s
    | some r =>
      let s := (s.setRecord i (some { r with state := .live, reason := some .confirmed })).subGranted r.share
      let s := (s.onAlt fun a => { a with wait := none }).noteChange true i
      (s.ballastStep .down r.idle).noticeLive

/-- CLUTCH_IN becomes active: it ends an engagement wait (R23). -/
def State.clutchIn (s : State) : State :=
  match s.alt.wait with
  | some (.engage _) => s.confirmClutch
  | some (.release _) | none => s

/-- The saw's release completes, and SAW hears that its record left RELEASING (R19, R24). -/
def State.completeSawRelease (s : State) (withStep : Bool) : State :=
  match s.sawSlot with
  | none => s
  | some i => (s.completeRelease true withStep i).noticeLeftReleasing

/-- CLUTCH_IN becomes inactive: it ends a release wait (R24). -/
def State.clutchOut (s : State) : State :=
  match s.alt.wait with
  | some (.release _) => s.completeSawRelease true
  | some (.engage _) | none => s

/-- The engagement wait times out: the output is released, the record is HELD as refused, SAW faults (R23). -/
def State.clutchFails (s : State) : State :=
  match s.sawSlot with
  | none => s
  | some i =>
    match s.record i with
    | none => s
    | some r =>
      let s := (s.setRecord i (some { r with state := .held .refused, reason := some .refused })).subGranted r.share
      ((s.onAlt fun a => { a with clutch := false, wait := none }).noteChange true i).sawFault .clutchFail

/-- The release wait times out: the release completes without its step, SAW faults (R24). -/
def State.clutchSticks (s : State) : State := (s.completeSawRelease false).sawFault .clutchStuck

end Sys2Proof.Machine
end

