-- ==== Sys2Proof/Machine/Admission.lean ====
section
/-! DEFINITION. ALT's work on a publication (Section 2, 6.2), and the shed-all (2.3). -/

namespace Sys2Proof.Machine

/-- A publication (Table 4-5). -/
structure Publication where
  state : GovState
  fMeas : Nat
  /-- The clamped period, in microseconds. -/
  period : Nat
  spare : Nat
  low : Bool
deriving DecidableEq, Repr

/-! ## Energy charged (R107, R110, R111) -/

/-- `used` raised, stopping at 65,535 (R107, R108). -/
def Allotment.charge (r : Allotment) (n : Nat) : Allotment := { r with used := min 65535 (r.used + n) }

/-- A change of `used` crosses the quota (R110). -/
def crosses (before after : Allotment) : Bool :=
  decide (0 < after.quota ∧ before.used < after.quota ∧ after.quota ≤ after.used)

/-- A record takes its energy count: a crossing enters the change set, then the quota hold is applied (R110, R111). -/
def State.takeCount (s : State) (i : Slot) (before after : Allotment) : State :=
  ((s.setRecord i (some after)).noteChange (crosses before after) i).quotaHold i

/-- One watt-hour in W·µs (R107). -/
def wattHour : Nat := 3600000000

/-- The record after one period of local accrual (R107). -/
def Allotment.accrue (r : Allotment) (period : Nat) : Allotment :=
  let sum := r.residue + r.claim * period
  if wattHour ≤ sum then { r.charge 1 with residue := sum - wattHour } else { r with residue := sum }

/-- The target is a local relay. -/
def Target.isRelay : Target → Bool
  | .relay _ => true
  | .field _ _ | .clutch => false

/-- The accrual of one record: a LIVE record with a LOCAL target (R107). -/
def State.accrueSlot (period : Nat) (s : State) (i : Slot) : State :=
  match s.record i with
  | none => s
  | some r => if r.state = .live ∧ r.target.isRelay then s.takeCount i r (r.accrue period) else s

/-! ## Sheds (R33 to R39) -/

/-- The record may be chosen by the shed judgement (R35). -/
def Allotment.sheddable (r : Allotment) : Bool := r.state == .live && !(r.kind == .critical)

/-- The record to shed: lowest priority, then highest slot (R35). -/
def State.shedChoice (s : State) : Option Slot :=
  (allSlots.foldl (init := (none : Option (Slot × Nat))) fun best i =>
    match s.record i with
    | none => best
    | some r =>
      if r.sheddable then
        match best with
        | none => some (i, r.priority)
        | some (_, p) => if r.priority ≤ p then some (i, r.priority) else best
      else best).map Prod.fst

/-- The chosen record shed or trimmed (R36). -/
def State.shedOne (s : State) (i : Slot) : State :=
  let s := match s.record i with
    | some r =>
      if r.kind = Kind.saw ∧ r.trimmed = false then s.trimBack.noticeTrim
      else s.release true i .shed (some .shed)
    | none => s
  s.onAlt fun a =>
    { a with settle := s.param .shedSettle, lowCount := 0, holdOff := s.param .restoreDelay }

/-- The shed judgement (R33, R34). -/
def State.shedJudgement (s : State) (p : Publication) : State :=
  if p.state = .regulating then
    let s := s.onAlt fun a => { a with lowCount := if p.low then min 255 (a.lowCount + 1) else 0 }
    if s.param .shedDelay ≤ s.alt.lowCount ∧ s.alt.settle = 0 then
      match s.shedChoice with
      | some i => s.shedOne i
      | none => s
    else s
  else s.onAlt fun a => { a with lowCount := 0 }

/-- One record in a shed-all (R38, R39). -/
def State.shedAllSlot (reason : Reason) (s : State) (i : Slot) : State :=
  match s.record i with
  | none => s
  | some r =>
    if r.kind = Kind.critical then s
    else
      match r.state with
      | .granted | .live => s.release true i .shed (some reason)
      | .pending =>
        let s := (s.setRecord i (some { r with state := .shed, reason := some reason })).noteChange true i
        match r.target with
        | .field u _ => s.giveMark .opening u
        | .relay _ | .clutch => s
      | .idle | .releasing _ | .shed | .held _ => s

/-- A shed-all (R38, R39). -/
def State.shedAll (s : State) (reason : Reason) : State :=
  let s := allSlots.foldl (State.shedAllSlot reason) s
  (s.onAlt fun a => { a with holdOff := s.param .restoreDelay, lowCount := 0 }).onFlc
    fun f => { f with allOpenOwed := true }

/-! ## Admission (R40 to R48) -/

/-- The rank of a record in the order of admission, CRITICAL above every priority (R42). -/
def Allotment.rank (r : Allotment) : Nat := if r.kind = .critical then 16 else r.priority

/-- What a candidate needs of the headroom (Table 2-3). -/
def Allotment.need (r : Allotment) : Nat := if r.state = .live then r.cutShare else r.share

/-- The rank of the record in a slot, 0 when VACANT. -/
def State.rankAt (s : State) (i : Slot) : Nat := match s.record i with | some r => r.rank | none => 0

/-- The candidates in the order of R42: by rank, the highest first, and by slot among equals. -/
def State.candidates (s : State) : List Slot :=
  (allSlots.filter s.isCandidate).insertionSort fun i j => s.rankAt j ≤ s.rankAt i

/-- What an admission or untrim takes: the headroom is lowered, the strict slot given up (R32, R44, R45). -/
def State.spendHeadroom (s : State) (i : Slot) (need : Nat) : State :=
  s.onAlt fun a =>
    { a with headroom := a.headroom - need, strict := if a.strict = some i then none else a.strict }

/-- The switch of an admitted record ordered closed: a relay confirms at once, the clutch engages and waits, a unit is
marked CLOSE (R21, R23, R25). -/
def State.orderClosed (s : State) (i : Slot) (r : Allotment) : State :=
  match r.target with
  | .relay n =>
    let s := s.onAlt fun a => { a with relays := a.relays.set n true }
    ((s.setRecord i (some { r with state := .live, reason := some .confirmed })).subGranted r.share).ballastStep
      .down r.claim
  | .clutch =>
    let s := s.onAlt fun a => { a with clutch := true, wait := some (.engage (s.param .clutchTimeout * 1000)) }
    if s.active .clutchIn then s.clutchIn else s
  | .field u _ => s.giveMark .closing u

/-- A PENDING or SHED record admitted (R44). -/
def State.grant (s : State) (i : Slot) (r : Allotment) : State :=
  let reason := if r.state = .shed then Reason.restored else Reason.admitted
  let r' := { r with state := .granted, reason := some reason, starve := 0 }
  ((((s.setRecord i (some r')).noteChange true i).addGranted r.share).spendHeadroom i r.need).orderClosed i r'

/-- The LIVE, trimmed saw record untrimmed (R45). -/
def State.untrim (s : State) (i : Slot) (r : Allotment) : State :=
  let r' := { r with trimmed := false, reason := some .untrimmed, starve := 0 }
  ((((s.setRecord i (some r')).noteChange true i).ballastStep .down r.cutShare).spendHeadroom i r.need).noticeUntrim

/-- A candidate served: admitted, restored or untrimmed. -/
def State.serve (s : State) (i : Slot) (r : Allotment) : State :=
  if r.state = .live then s.untrim i r else s.grant i r

/-- A candidate passed over: its starve count is raised, stopping at 255 (R43, R48). -/
def State.passOver (s : State) (i : Slot) (r : Allotment) : State :=
  s.setRecord i (some { r with starve := min 255 (r.starve + 1) })

/-- First fit over candidates in order (R43). -/
def State.firstFit (s : State) : List Slot → State
  | [] => s
  | i :: rest =>
    match s.record i with
    | none => s.firstFit rest
    | some r => if r.need ≤ s.alt.headroom then s.serve i r else (s.passOver i r).firstFit rest

/-- A strict pass examines the strict slot alone (R48). -/
def State.strictPass (s : State) (i : Slot) : State :=
  match s.record i with
  | none => s
  | some r => if r.need ≤ s.alt.headroom then s.serve i r else s.passOver i r

/-- The first candidate whose starve count has reached the limit (R47). -/
def State.starved (s : State) : Option Slot :=
  s.candidates.find? fun i => (s.record i).any fun r => s.param .starveLimit ≤ r.starve

/-- An admission pass that runs (R43, R47, R48). -/
def State.admissionPass (s : State) : State :=
  match s.alt.strict with
  | some i => s.strictPass i
  | none =>
    match s.starved with
    | some i => (s.onAlt fun a => { a with strict := some i }).strictPass i
    | none => s.firstFit s.candidates

/-- The admission pass runs on a publication (R40). -/
def State.admissionOpen (s : State) (p : Publication) : Bool :=
  decide (p.state = .regulating ∧ s.alt.holdOff = 0 ∧ p.low = false)

/-! ## The stages (R31) -/

/-- Stage 1: the timers count in REGULATING (R31). -/
def State.countTimers (s : State) (p : Publication) : State :=
  if p.state = .regulating then s.onAlt fun a => { a with settle := a.settle - 1, holdOff := a.holdOff - 1 } else s

/-- ALT's work on a publication, in its five stages (R31, R32). -/
def State.altPublication (s : State) (p : Publication) : State :=
  let s := s.countTimers p
  let s := allSlots.foldl (State.accrueSlot p.period) s
  let s := s.shedJudgement p
  let s := s.onAlt fun a => { a with headroom := p.spare - a.gOut }
  if s.admissionOpen p then s.admissionPass else s

end Sys2Proof.Machine
end

