-- ==== Sys2Proof/Machine/GovernorCore.lean ====
section
/-! DEFINITION. The acts of the Governor (Sections 4 and 5): states and trips, the gate's moves, the control interval,
tach loss. -/

namespace Sys2Proof.Machine

/-! ## States and reports -/

/-- What entry into STOPPED, RUN_UP, STOPPING or TRIPPED does at GOV: full ballast, spare 0, counts 0, timers stopped
(R70, R74, R78, R79, R88, R99, R102, R104). -/
def Gov.enterIdle (g : Gov) (st : GovState) : Gov :=
  { g with st, duty := 1023, spare := 0, fPrev := none, overspeed := 0, collapse := 0
           holdTimer := none, runupTimer := none, trimTimer := none }

/-- The report of a governor state change to ALT and SAW, and GOV_STATE (R32, R69, R169). -/
def State.govReport (s : State) : State :=
  let regulating := decide (s.gov.st = .regulating)
  let s := if regulating then s else s.onAlt fun a => { a with headroom := 0 }
  (s.sawGovReport regulating).raise .govState

/-! ## The gate (5.2) -/

/-- The gate step timer at its start (R93). -/
def stepTime (params : Params) : Timer := some (1000000 / params.get .gateRate)

/-- A move ended: none is in flight and the step timer is stopped (R93, R96). -/
def Gov.endMove (g : Gov) : Gov := { g with move := none, stepTimer := none }

/-- What reaching the limit of a direction makes of the position (R94). -/
def Gov.atLimit (g : Gov) (params : Params) : GateDir → Gov
  | .opening => { g with gatePos := params.get .gateSpan }
  | .closing => { g with gatePos := 0, gateValid := true }

/-- A move begun; with the matching limit active it ends at once (R93, R94). A move that will issue no step is in flight
up to its first step-timer expiry: the model's choice (log 35). -/
def Gov.beginMove (g : Gov) (params : Params) (limit : Bool) (purpose : MovePurpose) (dir : GateDir) (asked : Nat) :
    Gov :=
  let g := { g with gateDir := dir }
  if limit then (g.endMove).atLimit params dir
  else { g with move := some { purpose, dir, asked, issued := 0 }, stepTimer := stepTime params }

/-- The limit input of a direction (R94). -/
def GateDir.limit : GateDir → Channel
  | .opening => .gateFull
  | .closing => .gateShut

/-- GOV begins a move. -/
def State.beginMove (s : State) (purpose : MovePurpose) (dir : GateDir) (asked : Nat) : State :=
  let limit := s.active dir.limit
  s.onGov fun g => g.beginMove s.params limit purpose dir asked

/-- The step count of a close-to-shut move (R95). -/
def Gov.shutCount (g : Gov) (params : Params) : Nat :=
  (if g.gateValid then g.gatePos else params.get .gateSpan) + 100

/-- A close-to-shut move begun (R95); the effect of an end at once is the caller's. -/
def State.beginShut (s : State) : State := s.beginMove .shut .closing (s.gov.shutCount s.params)

/-! ## Trips (4.6) -/

/-- A trip (R88). -/
def State.trip (s : State) (cause : TripCause) : State :=
  let s := s.onGov fun g => { g.enterIdle .tripped with cause }
  let s :=
    if cause = .gateFault then s.onGov fun g => { g.endMove with gateValid := false }
    else (s.onGov Gov.endMove).beginShut
  (s.shedAll .tripped).govReport

/-- A close-to-shut move ended by GATE_SHUT (R95, R105). -/
def State.shutEnded (s : State) : State :=
  match s.gov.st with
  | .stopping => (s.onGov fun g => g.enterIdle .stopped).govReport
  | .stopped => s.raise .govState
  | .tripped | .runUp | .regulating | .hold => s

/-- A close-to-shut move completed without GATE_SHUT (R89, R95, R97, R105). -/
def State.shutFailed (s : State) : State :=
  match s.gov.st with
  | .stopping => s.trip .gateFault
  | .tripped => (s.onGov fun g => { g with cause := .gateFault, gateValid := false }).raise .govState
  | .stopped => (s.onGov fun g => { g with gateValid := false }).raise .govState
  | .runUp | .regulating | .hold => s

/-- The first or next run-up move, with its timer (R100). -/
def State.beginRunup (s : State) : State :=
  (s.onGov fun g => { g with runupTimer := secTimer (s.param .runupInterval) }).beginMove .runUp .opening
    (s.param .runupStep)

/-- The next run-up move falls due (R100, R101). -/
def State.runupDue (s : State) : State :=
  if s.param .gateSpan ≤ s.gov.gatePos then s.trip .runupFail else s.beginRunup

/-- What the end of a move does for its purpose (R93, R94, R95, R100, R103). -/
def State.moveEnded (s : State) (purpose : MovePurpose) (byLimit : Bool) : State :=
  match purpose with
  | .runUp => if s.gov.st = .runUp ∧ s.gov.runupTimer = none then s.runupDue else s
  | .trim => s
  | .shut => if byLimit then s.shutEnded else s.shutFailed

/-- A gate limit becomes active (R94). -/
def State.gateLimit (s : State) (dir : GateDir) : State :=
  match s.gov.move with
  | some m =>
    if m.dir = dir then (s.onGov fun g => (g.endMove).atLimit s.params dir).moveEnded m.purpose true else s
  | none => s

/-- A step is not issued: the gate stands at the end of its span, for a move that does not pass it (R93). It is asked at
a step-timer expiry, also for a CLOSE trim begun at position 0 (log 35). -/
def Gov.stepHeld (g : Gov) (params : Params) (m : Move) : Bool :=
  match m.dir with
  | .opening => decide (params.get .gateSpan ≤ g.gatePos)
  | .closing => decide (m.purpose ≠ .shut ∧ g.gatePos = 0)

/-- One step issued: the position follows, at 0 it stays (R93). -/
def Gov.issueStep (g : Gov) (params : Params) (m : Move) : Gov :=
  { g with
    gatePos := match m.dir with | .opening => g.gatePos + 1 | .closing => g.gatePos - 1
    move := some { m with issued := m.issued + 1 }
    stepTimer := stepTime params }

/-- The expiry of the gate step timer with a move in flight (R93). -/
def State.gateStep (s : State) (m : Move) : State :=
  if s.gov.stepHeld s.params m then (s.onGov Gov.endMove).moveEnded m.purpose false
  else
    let s := s.onGov fun g => g.issueStep s.params m
    if m.issued + 1 < m.asked then s else (s.onGov Gov.endMove).moveEnded m.purpose false

/-- The trim decision (R103). A CLOSE trim decided at position 0 is begun like any other and ends with no step at its
first step-timer expiry: the model's choice (log 35). -/
def State.trimDecision (s : State) : State :=
  let w := s.gov.bAcc / 16
  let cap := s.param .bCap
  if s.gov.move.isSome then s
  else if s.active .lowWater then s.beginMove .trim .closing (s.param .trimStep)
  else if cap * s.param .trimHighPct / 100 < w then s.beginMove .trim .closing (s.param .trimStep)
  else if w < cap * s.param .trimLowPct / 100 ∧ s.gov.gatePos < s.param .gateSpan then
    s.beginMove .trim .opening (s.param .trimStep)
  else s

/-! ## The control interval (4.3) -/

/-- The period clamped into its range (R73). -/
def clampPeriod (p : Nat) : Nat := max 12500 (min 50000 p)

/-- The frequency of a clamped period, in centihertz (R73). -/
def freqOf (period : Nat) : Nat := 100000000 / period

/-- Stage 2: an interval leaves HOLD for REGULATING (R86, R102). -/
def State.holdReturn (s : State) : State :=
  if s.gov.st = .hold then
    (s.onGov fun g =>
      { g with st := .regulating, fPrev := some g.fMeas, collapse := 0, holdTimer := none
               trimTimer := secTimer (s.param .trimPeriod) }).govReport
  else s

/-- Stage 3: the overspeed count (R74). -/
def Gov.countOverspeed (g : Gov) (params : Params) : Gov :=
  if g.st = .runUp ∨ g.st = .regulating then
    { g with overspeed := if params.get .fTrip ≤ g.fMeas then g.overspeed + 1 else 0 }
  else g

/-- A run-up move in flight ends at the entry into REGULATING (R96). -/
def Gov.endRunupMove (g : Gov) : Gov :=
  match g.move with
  | some m => if m.purpose = .runUp then g.endMove else g
  | none => g

/-- Entry into REGULATING from RUN_UP: the ballast full, the trim timer started (R75, R78, R101, R102). -/
def State.enterRegulating (s : State) : State :=
  (s.onGov fun g =>
    ({ g.endRunupMove with
        st := .regulating, fPrev := none, collapse := 0, runupTimer := none
        trimTimer := secTimer (s.param .trimPeriod) }).setBallast s.params (16 * s.param .bCap)).govReport

/-- The increment of a regulating interval, in sixteenths of a watt (R76). -/
def increment (kp ki : Nat) (fMeas fPrev fSet : Int) : Int := kp * (fMeas - fPrev) + ki * (fMeas - fSet)

/-- Stage 5: increment, accumulate, duty and spare (R76, R77, R78). -/
def Gov.regulate (g : Gov) (params : Params) : Gov :=
  let delta := increment (params.get .kp) (params.get .ki) g.fMeas (g.fPrev.getD g.fMeas) (params.get .fSet)
  let bAcc := min (16 * params.get .bCap) (Int.toNat (g.bAcc + delta))
  { g.setBallast params bAcc with fPrev := some g.fMeas }

/-- The collapse count that orders a shed-all (R79). -/
def collapseLimit : Nat := 5

/-- Stage 6: the collapse count after a regulating interval (R79). -/
def Gov.countCollapse (g : Gov) (params : Params) : Gov :=
  { g with collapse := if g.fMeas ≤ params.get .fFloor then g.collapse + 1 else 0 }

/-- The publication GOV makes (R80). -/
def State.publication (s : State) (period : Nat) : Publication :=
  { state := s.gov.st, fMeas := s.gov.fMeas, period, spare := s.gov.spare
    low := decide (s.gov.st = .regulating ∧ s.gov.fMeas ≤ s.param .fSet - s.param .shedBand ∧ s.gov.bAcc = 0) }

/-- A publication handed to ALT and to SAW (R80; log 8). -/
def State.publish (s : State) (p : Publication) : State :=
  (s.altPublication p).sawPublication (decide (p.state = .regulating)) p.fMeas

/-- Stages 5 to 7 of a regulating interval; a collapse order goes out before the publication, whose contents are those
of GOV's own act (R72, R79; log 28). -/
def State.regulatingStages (s : State) (period : Nat) : State :=
  let s := s.onGov fun g => (g.regulate s.params).countCollapse s.params
  let p := s.publication period
  if s.gov.collapse = collapseLimit then
    ((s.onGov fun g => { g with collapse := 0 }).shedAll .shed).publish p
  else s.publish p

/-- Stages 4 to 7, after the overspeed count has not tripped (R72, R75). -/
def State.laterStages (s : State) (period : Nat) : State :=
  match s.gov.st with
  | .runUp =>
    let s := if s.param .fSet - 50 ≤ s.gov.fMeas then s.enterRegulating else s
    s.publish (s.publication period)
  | .regulating => s.regulatingStages period
  | .stopped | .hold | .stopping | .tripped => s.publish (s.publication period)

/-- One control interval on a completed period (R72). -/
def State.interval (s : State) (handed : Nat) : State :=
  let period := clampPeriod handed
  let s := (s.onGov fun g => { g with fMeas := freqOf period }).holdReturn
  let s := s.onGov fun g => g.countOverspeed s.params
  if s.gov.overspeed = 3 ∧ (s.gov.st = .runUp ∨ s.gov.st = .regulating) then
    let s := s.trip .overspeed
    s.publish (s.publication period)
  else s.laterStages period

/-! ## Tach loss and the latch -/

/-- Tach-lost at GOV (R84, R85). -/
def State.govTachLost (s : State) : State :=
  let s := s.onGov fun g => { g with overspeed := 0, collapse := 0 }
  if s.gov.st = .regulating then
    (s.onGov fun g =>
      { g with st := .hold, spare := 0, fPrev := none, trimTimer := none, holdTimer := msTimer (s.param .holdLimit) }).govReport
  else s

/-- The setting of the ESTOP latch at GOV (R56, R87, R89). -/
def State.govEstop (s : State) : State :=
  match s.gov.st with
  | .runUp | .regulating | .hold | .stopping => s.trip .estop
  | .stopped | .tripped => s

end Sys2Proof.Machine
end

