-- ==== Sys2Proof/Machine/InputUnit.lean ====
section
/-! DEFINITION. The acts of the Input Unit (Section 3): debounce, latches, tach period and encoder, and what an accepted
change delivers. -/

namespace Sys2Proof.Machine

/-! ## Deliveries (Table 3-3) -/

/-- FWD_LIMIT becomes active: a fault in FEEDING (R161, R172). -/
def State.fwdLimitActive (s : State) : State := if s.saw.st = .feeding then s.sawFault .fwdLimit else s

/-- REV_LIMIT becomes active: a fault in RETURNING (R164, R172). -/
def State.revLimitActive (s : State) : State := if s.saw.st = .returning then s.sawFault .revLimit else s

/-- The setting in hand waits for its confirmation (R159). -/
def State.inSetWait (s : State) : Bool :=
  s.saw.st == .setting && (match s.saw.setting with | some k => k.stage == .wait | none => false)

/-- SET_DONE becomes active: it ends the WAIT stage (R159). -/
def State.setDoneActive (s : State) : State := if s.inSetWait then s.beginSettle else s

/-- The GUARD latch at SAW (R56, R172). -/
def State.sawGuard (s : State) : State := if s.saw.st = .idle then s else s.sawFault .guard

/-- GUARD becomes active: the latch is set, INPUT raised, SAW told, unless the latch is set already (R56). -/
def State.guardActive (s : State) : State :=
  if s.inu.guardLatch then s
  else ((s.onInu fun u => { u with guardLatch := true }).raise .input).sawGuard

/-- ESTOP becomes active: the latch is set, INPUT raised, GOV and SAW told (R56; log 8). -/
def State.estopActive (s : State) : State :=
  if s.inu.estopLatch then s
  else (((s.onInu fun u => { u with estopLatch := true }).raise .input).govEstop).sawFault .estop

/-- The 60 ms of tach loss (R59). -/
def lossTime : Timer := msTimer 60

/-- A tach edge: the timebase is stamped, a period is handed to GOV when a stamp was present, and the loss timer is
restarted (R58). -/
def State.tachEdge (s : State) : State :=
  let reading := s.timebase
  match s.inu.lastStamp with
  | none => s.onInu fun u => { u with lastStamp := some reading, lossTimer := lossTime }
  | some stamp =>
    let period := reading - stamp
    (s.onInu fun u => { u with lastStamp := some reading, lossTimer := lossTime, lastPeriod := period }).interval
      period.toNat

/-- An accepted change of a channel handed to its consumers (R54, Table 3-1). -/
def State.deliver (s : State) (c : Channel) (active : Bool) : State :=
  match c with
  | .tach => if active then s.tachEdge else s
  | .gateShut => if active then s.gateLimit .closing else s
  | .gateFull => if active then s.gateLimit .opening else s
  | .fwdLimit => if active then s.fwdLimitActive else s
  | .revLimit => if active then s.revLimitActive else s
  | .setDone => if active then s.setDoneActive else s
  | .clutchIn => if active then s.clutchIn else s.clutchOut
  | .guard => if active then s.guardActive else s
  | .estop => if active then s.estopActive else s
  | .lowWater => s

/-! ## Debounce (3.2) -/

/-- The filter time of a code, in microseconds (Table 3-2). -/
def filterTime : Nat → Nat
  | 0 => 100
  | 1 => 1000
  | 2 => 10000
  | _ => 50000

/-- The candidate after the raw state may have changed at a moment: none while it equals the debounced level, one in
flight kept, else a new one (R53). -/
def Chan.recheck (c : Chan) (now : Nat) : Chan :=
  if c.raw = c.level then { c with candidate := none }
  else { c with candidate := some (c.candidate.getD now) }

/-- The change accepted: the debounced level takes the raw state (R53). -/
def Chan.accept (c : Chan) : Chan := { c with level := c.raw, candidate := none }

/-- A candidate in flight accepted, with all its effects (R53, R54). -/
def State.acceptChange (s : State) (c : Channel) : State :=
  match (s.chan c).candidate with
  | none => s
  | some _ => (s.setChan c (s.chan c).accept).deliver c (s.chan c).raw

/-- A candidate has run its filter time (R53). -/
def Chan.ripe (c : Chan) (now : Nat) : Bool :=
  match c.candidate with
  | some began => decide (began + filterTime c.filter ≤ now)
  | none => false

/-! ## Loss and encoder -/

/-- The loss timer runs out (R59). -/
def State.tachLost (s : State) : State :=
  (s.onInu fun u => { u with lastStamp := none, lossTimer := none }).govTachLost

/-- The moves of the quadrature state (R63). -/
inductive QuadMove where
  | stay | forward | reverse | opposite
deriving DecidableEq, Repr

/-- The next state of the forward cycle: A leads B (R63). -/
def quadNext (a b : Bool) : Bool × Bool := (!b, a)

/-- The move from one pair of A and B levels to another (R63). -/
def quadMove (a b a' b' : Bool) : QuadMove :=
  if (a', b') = (a, b) then .stay
  else if (a', b') = quadNext a b then .forward
  else if (a, b) = quadNext a' b' then .reverse
  else .opposite

/-- A home mark at SAW: the arrival of the return in hand (R64, R164). -/
def State.homeMark (s : State) : State :=
  match s.saw.st, s.saw.ret with
  | .returning, some k => s.arriveHome k.kind
  | _, _ => s

/-- The encoder pins take their levels and the move is counted (R63, R64). -/
def State.encoderMove (s : State) (a b z : Bool) : State :=
  let move := quadMove s.inu.quadA s.inu.quadB a b
  let s := s.onInu fun u => { u with pinA := a, pinB := b, pinZ := z, quadA := a, quadB := b }
  match move with
  | .stay => s
  | .forward => s.onInu fun u => { u with count := u.count + 1 }
  | .reverse =>
    if z then (s.onInu fun u => { u with count := 0, homed := true }).homeMark
    else s.onInu fun u => { u with count := u.count - 1 }
  | .opposite => s.onInu fun u => { u with homed := false }

end Sys2Proof.Machine
end

