-- ==== Sys2Proof/Machine/Seek.lean ====
section
/-! DEFINITION. The seek and its series (7.7), and what the enrolment and the sweep make of each seek (8.2, 8.3.1). -/

namespace Sys2Proof.Machine

/-- How a seek ends; an OK seek carries its identity and its latest zero-chosen fork (R131, R132). -/
inductive SeekOutcome where
  | noPresence
  | none
  | lineError
  | ok (identity : Identity) (zeroFork : Option Nat)
deriving DecidableEq, Repr

/-- The bit of an identity at a bit position, position 0 the highest (R127). -/
def identityBit (x : Identity) (pos : Nat) : Bool := x.getLsbD (39 - pos)

/-- The bit chosen at a fork (R131). Without a previous identity the first row's 0 is chosen (log 22). -/
def forkBit (k : Series) (pos : Nat) : Bool :=
  match k.lastFork with
  | none => false
  | some last =>
    if pos < last then
      match k.previous with
      | some x => identityBit x pos
      | none => false
    else decide (pos = last)

/-- The seek from a position on: positions left, the position, the readings, the identity so far and the latest
zero-chosen fork. A position without a reading reads (1,1), as no unit drives (R130, R131, R132; log 16). -/
def seekFrom (k : Series) : Nat → Nat → List Reading → Identity → Option Nat → SeekOutcome
  | 0, _, _, found, fork => if validIdentity found then .ok found fork else .lineError
  | left + 1, pos, readings, found, fork =>
    let r := readings.headD ⟨true, true⟩
    let push (bit : Bool) : Identity := (found <<< 1) ||| (if bit then 1 else 0)
    match r.bit, r.complement with
    | false, true => seekFrom k left (pos + 1) readings.tail (push false) fork
    | true, false => seekFrom k left (pos + 1) readings.tail (push true) fork
    | false, false =>
      let bit := forkBit k pos
      seekFrom k left (pos + 1) readings.tail (push bit) (if bit then fork else some pos)
    | true, true => if pos = 0 then .none else .lineError

/-- A whole seek of a series (R130 to R132). -/
def seek (k : Series) (readings : List Reading) : SeekOutcome := seekFrom k 40 0 readings 0 none

/-- The series record after a seek (R133). What a row of R133's table does not name stays: the last fork at completion,
both items after a seek that is not OK (log 36). -/
def Series.after (k : Series) : SeekOutcome → Series
  | .ok identity zeroFork => { previous := some identity, lastFork := zeroFork.or k.lastFork }
  | .none | .noPresence | .lineError => k

/-- The entry that holds an identity. -/
def Flc.unitOf (f : Flc) (x : Identity) : Option UnitIx :=
  allUnits.find? fun u => match f.units.get u with | some e => e.identity == x | none => false

/-- An identity placed in the found list at its place in ascending order (R139, R140). -/
def placeFound (x : Identity) : List Identity → List Identity
  | [] => [x]
  | y :: ys => if x.toNat < y.toNat then x :: y :: ys else y :: placeFound x ys

/-- The enrolment ends for a reason, raising ENROL_DONE (R140). -/
def State.endEnrolment (s : State) (ended : EnrolEnd) : State :=
  (s.onFlc fun f => { f with enrol := { f.enrol with running := false, ended } }).raise .enrolDone

/-- The enrolment's series goes on while a zero-chosen fork was recorded, or is complete (R133, R140). -/
def State.enrolNext (s : State) (zeroFork : Option Nat) : State :=
  if zeroFork.isSome then s else s.endEnrolment .complete

/-- An identity found by the enrolment (R140). -/
def State.enrolTake (s : State) (identity : Identity) (zeroFork : Option Nat) : State :=
  if (s.flc.unitOf identity).isSome || s.flc.found.contains identity then s.enrolNext zeroFork
  else if Config.foundPlaces ≤ s.flc.found.length then
    (s.onFlc fun f => { f with enrol := { f.enrol with more := true } }).endEnrolment .full
  else (s.onFlc fun f => { f with found := placeFound identity f.found }).enrolNext zeroFork

/-- What the enrolment makes of a seek's outcome (R140). -/
def State.enrolSeek (s : State) : SeekOutcome → State
  | .ok identity zeroFork => s.enrolTake identity zeroFork
  | .none => s.endEnrolment .none
  | .noPresence => s.endEnrolment .noPresence
  | .lineError => s.endEnrolment .lineError

/-- The sweep ends and its timer is started (R144). -/
def State.endSweep (s : State) : State :=
  s.onFlc fun f => { f with sweep := { f.sweep with isOpen := false }, sweepTimer := msTimer (s.param .sweepPeriod) }

/-- The greatest number of OK seeks in a sweep (R144). -/
def sweepSeeks : Nat := 32

/-- What the sweep makes of a seek's outcome (R144). -/
def State.sweepSeek (s : State) (outcome : SeekOutcome) : State :=
  match outcome with
  | .ok identity zeroFork =>
    let s := s.onFlc fun f => { f with sweep := { f.sweep with found := f.sweep.found + 1 } }
    let s := match s.flc.unitOf identity with
      | some u => s.giveMark .demand u
      | none => s
    if zeroFork.isSome && s.flc.sweep.found < sweepSeeks then s else s.endSweep
  | .none | .noPresence | .lineError => s.endSweep

/-- The series of an owner after a seek (R133). -/
def Flc.seriesAfter (f : Flc) (owner : SeekOwner) (outcome : SeekOutcome) : Flc :=
  match owner with
  | .enrolment => { f with enrol := { f.enrol with series := f.enrol.series.after outcome } }
  | .sweep => { f with sweep := { f.sweep with series := f.sweep.series.after outcome } }

/-- A seek transaction ends; its series is updated and its outcome goes to its owner (R132, R133). -/
def State.seekDone (s : State) (owner : SeekOwner) (outcome : SeekOutcome) : State :=
  let s := s.onFlc fun f => { f with tx := none }.seriesAfter owner outcome
  match owner with
  | .enrolment => s.enrolSeek outcome
  | .sweep => s.sweepSeek outcome

/-- The series a seek runs under. -/
def Flc.seriesOf (f : Flc) : SeekOwner → Series
  | .enrolment => f.enrol.series
  | .sweep => f.sweep.series

end Sys2Proof.Machine
end

