-- ==== Sys2Proof/Machine/Line.lean ====
section
/-! DEFINITION. Visits and their outcome (8.5), what ALT makes of each reply (6.3, 8.6), and the soft restart of FLC
(8.8). -/

namespace Sys2Proof.Machine

/-! ## ALT's work on a report (R15, R108, R109, R149, R150) -/

/-- The outlets below an outlet count. -/
def outletsBelow (n : Nat) : List Outlet := (List.finRange Config.outlets).filter fun o => o.val < n

/-- A demand bit applied to an unlocked record of an outlet (R15). -/
def State.takeDemand (s : State) (u : UnitIx) (o : Outlet) (on : Bool) : State :=
  match s.slotOf (.field u o) with
  | none => s
  | some i =>
    match s.record i with
    | some r => if r.locked then s else s.setWanted true i on
    | none => s

/-- A GRANTED field record confirmed closed (Tables 8-4 and 8-5). -/
def State.confirmField (s : State) (i : Slot) (r : Allotment) : State :=
  (((s.setRecord i (some { r with state := .live, reason := some .confirmed })).noteChange true i).subGranted
    r.share).ballastStep .down r.claim

/-- A LIVE field record reported open without an order (Tables 8-4 and 8-5). -/
def State.unitOpened (s : State) (i : Slot) (r : Allotment) : State :=
  let r' := { r with reason := some Reason.unitOpened }
  let r' := if r.wanted then r'.toPending else { r' with state := .idle }
  ((s.setRecord i (some r')).noteChange true i).ballastStep .up r.claim

/-- Reconciliation of one outlet of a READ_STATUS reply (Table 8-4). -/
def State.reconcileStatus (s : State) (u : UnitIx) (o : Outlet) (closed : Bool) : State :=
  match s.slotOf (.field u o) with
  | none => s
  | some i =>
    match s.record i with
    | none => s
    | some r =>
      match r.state, closed with
      | .granted, true => s.confirmField i r
      | .live, false => s.unitOpened i r
      | .releasing _, false => s.completeRelease true true i
      | .granted, false | .live, true | .releasing _, true => s
      | .idle, _ | .pending, _ | .shed, _ | .held _, _ => s

/-- A close that the unit refused (Table 8-5). -/
def State.refuseField (s : State) (i : Slot) (r : Allotment) : State :=
  ((s.setRecord i (some { r with state := .held .refused, reason := some .refused })).noteChange true i).subGranted
    r.share

/-- Reconciliation of one outlet of a SET_OUTLETS reply, with what was sent (Table 8-5). -/
def State.reconcileApplied (s : State) (u : UnitIx) (o : Outlet) (sentClosed closed : Bool) : State :=
  match s.slotOf (.field u o) with
  | none => s
  | some i =>
    match s.record i with
    | none => s
    | some r =>
      match r.state, closed with
      | .granted, true => s.confirmField i r
      | .granted, false => if sentClosed then s.refuseField i r else s
      | .live, false => s.unitOpened i r
      | .releasing _, true => s.giveMark .opening u
      | .releasing _, false => s.completeRelease true true i
      | .live, true => s
      | .idle, _ | .pending, _ | .shed, _ | .held _, _ => s

/-- The watt-hours charged for a new meter count (R108). -/
def meterDelta (last : Option Half) (rebooted : Bool) (count : Half) : Nat :=
  match last with
  | none => count.toNat
  | some c => if rebooted then count.toNat else (count - c).toNat

/-- The last meter count of an outlet. -/
def Flc.meter (f : Flc) (u : UnitIx) (o : Outlet) : Option Half :=
  (f.units.get u).bind fun e => e.meters.get o

/-- The last meter count of an outlet set and marked valid (R108). -/
def Flc.setMeter (f : Flc) (u : UnitIx) (o : Outlet) (count : Half) : Flc :=
  f.setUnit u ((f.units.get u).map fun e => { e with meters := e.meters.set o (some count) })

/-- One meter count taken (R108). -/
def State.takeMeter (s : State) (u : UnitIx) (rebooted : Bool) (o : Outlet) (count : Half) : State :=
  let delta := meterDelta (s.flc.meter u o) rebooted count
  let s := match s.slotOf (.field u o) with
    | none => s
    | some i =>
      match s.record i with
      | some r => s.takeCount i r (r.charge delta)
      | none => s
  s.onFlc fun f => f.setMeter u o count

/-- A READ_STATUS reply, read by Table 11-9. -/
structure StatusReport where
  closed : BitVec 4
  demand : BitVec 4
  asking : Bool
  fault : Bool
  rebooted : Bool
  counts : Vector Half Config.outlets
deriving DecidableEq, Repr

/-- The bytes of a READ_STATUS reply taken by their bits (Table 11-9). -/
def statusReport (reply : List Byte) : StatusReport :=
  { closed := (byteAt reply 0).extractLsb' 0 4, demand := (byteAt reply 0).extractLsb' 4 4
    asking := (byteAt reply 1).getLsbD 0, fault := (byteAt reply 1).getLsbD 1, rebooted := (byteAt reply 1).getLsbD 2
    counts := Vector.ofFn fun o => halfAt reply (2 + 2 * o.val) }

/-- ALT takes a READ_STATUS reply: demand, outlet states, meter counts (R109). -/
def State.altStatus (s : State) (u : UnitIx) (outlets : Nat) (k : StatusReport) : State :=
  let os := outletsBelow outlets
  let s := if k.asking || k.rebooted then
      os.foldl (fun s o => s.takeDemand u o (k.demand.getLsbD o.val)) s
    else s
  let s := os.foldl (fun s o => s.reconcileStatus u o (k.closed.getLsbD o.val)) s
  os.foldl (fun s o => s.takeMeter u k.rebooted o (k.counts.get o)) s

/-- ALT takes the applied states of a SET_OUTLETS reply (R150). -/
def State.altApplied (s : State) (u : UnitIx) (outlets : Nat) (sent applied : BitVec 4) : State :=
  (outletsBelow outlets).foldl
    (fun s o => s.reconcileApplied u o (sent.getLsbD o.val) (applied.getLsbD o.val)) s

/-! ## The desired vector (R146) -/

/-- An outlet is to be closed: its record is GRANTED or LIVE (R146). -/
def State.wantsClosed (s : State) (u : UnitIx) (o : Outlet) : Bool :=
  match (s.slotOf (.field u o)).bind s.record with
  | some r => r.state == .granted || r.state == .live
  | none => false

/-- The desired vector of a unit; positions at or above the outlet count are open (R123, R146). -/
def State.desired (s : State) (u : UnitIx) (outlets : Nat) : BitVec 4 :=
  (outletsBelow outlets).foldl
    (fun v o => if s.wantsClosed u o then v ||| BitVec.twoPow 4 o.val else v) 0

/-! ## The end of a visit (R147, R148) -/

/-- Whether the entry of a visit is still its own. -/
def Visit.entry (v : Visit) (f : Flc) : Option UnitEntry := if v.dropped then none else f.units.get v.unit

/-- A successful visit's entry; the flag says whether the reach changed (R147, R148). -/
def UnitEntry.visitOk (e : UnitEntry) (v : Visit) : UnitEntry × Bool :=
  if e.reach = .present then ({ e with failures := 0, mark := v.after }, false)
  else ({ e with failures := 0, reach := .present, owed := none, mark := v.after }, true)

/-- The owed class with a visit's class, unless ROUTINE (R148). -/
def owedBy (cls : MarkClass) : Option MarkClass := if cls = .routine then none else some cls

/-- The owed class raised by a recorded mark (R148). -/
def raiseByMark (owed : Option MarkClass) : Option Mark → Option MarkClass
  | none => owed
  | some m => raiseOwed owed m.cls

/-- A mark held at ROUTINE (R142). -/
def Mark.asRoutine (m : Mark) : Mark := { m with cls := .routine }

/-- A failed visit's entry; the flag says whether the reach changed (R147, R148; logs 13, 14). -/
def UnitEntry.visitFailed (e : UnitEntry) (v : Visit) (now : Nat) : UnitEntry × Bool :=
  let recorded := combineMarks v.before v.after
  if e.reach = .missing then ({ e with mark := recorded.map Mark.asRoutine }, false)
  else if e.failures < 2 then
    ({ e with failures := e.failures + 1, mark := combineMark recorded ⟨v.cls, now⟩ }, false)
  else
    ({ e with
        failures := 3, reach := .missing
        owed := raiseByMark (raiseByMark (owedBy v.cls) v.before) v.after
        mark := recorded.map Mark.asRoutine }, true)

/-- A visit's transaction ends; a dropped entry's outcome changes nothing (R137, R148). -/
def State.visitEnd (s : State) (v : Visit) (success : Bool) : State :=
  let s := s.onFlc fun f => { f with tx := none }
  match v.entry s.flc with
  | none => s
  | some e =>
    let (e', moved) := if success then e.visitOk v else e.visitFailed v s.now
    let s := s.onFlc fun f => f.setUnit v.unit (some e')
    if moved then s.raise .unitReach else s

/-! ## Blocks (R121 to R125, R146) -/

/-- The visit in flight. -/
def Flc.visit (f : Flc) : Option Visit :=
  match f.tx with
  | some (.visit v) => some v
  | some (.broadcast _) | some (.seek _ _) | none => none

/-- The visit in flight changed. -/
def State.onVisit (s : State) (g : Visit → Visit) : State :=
  s.onFlc fun f => match f.visit with | some v => { f with tx := some (.visit (g v)) } | none => f

/-- A block sent after one that checked good; the transaction is in its function blocks (R117). -/
def State.nextBlock (s : State) (b : Block) : State :=
  s.onVisit fun v => { v with block := b, begun := true, phase := .atBlocks }

/-- The visit ends OK, with the marks recorded so far. -/
def State.visitOk (s : State) : State :=
  match s.flc.visit with
  | some v => s.visitEnd v true
  | none => s

/-- ACK_DEMAND follows when the status showed asking or rebooted; else the visit ends OK (R146). -/
def State.ackOrEnd (s : State) : State :=
  match s.flc.visit with
  | some v => if v.asked then s.nextBlock .ackDemand else s.visitEnd v true
  | none => s

/-- An entry updated, if the visit's entry has not been dropped. -/
def State.onEntry (s : State) (v : Visit) (g : UnitEntry → UnitEntry) : State :=
  match v.entry s.flc with
  | some e => s.onFlc fun f => f.setUnit v.unit (some (g e))
  | none => s

/-- The tests of a plate reply besides its check (R125). -/
def plateGood (identity : Identity) (reply : List Byte) : Bool :=
  byteAt reply 0 == 0x42 && byteAt reply 1 == 0x4B && byteAt reply 2 == 1 && byteAt reply 4 == kindCode identity &&
  decide (1 ≤ (byteAt reply 5).toNat ∧ (byteAt reply 5).toNat ≤ 4) && byteAt reply 14 == 16

/-- The plate of a reply that passed; ratings at or above the outlet count are not kept (R125). -/
def plateOf (reply : List Byte) : Plate :=
  { maker := byteAt reply 3, outlets := (byteAt reply 5).toNat
    ratings := Vector.ofFn fun o => if o.val < (byteAt reply 5).toNat then halfAt reply (6 + 2 * o.val) else 0 }

/-- A READ_PLATE block ends (R121, R125, R146). -/
def State.plateReply (s : State) (v : Visit) (reply : List Byte) : State :=
  let reply := asRead 16 reply
  if checksGood reply && plateGood v.identity reply then
    ((s.onEntry v fun e => { e with plate := some (plateOf reply), plateOwed := false }).onVisit fun v =>
      { v with outlets := (plateOf reply).outlets }).nextBlock .readStatus
  else s.visitEnd v false

/-- After the READ_STATUS block: SET_OUTLETS when the desired vector differs, else the decision against it; either way
the cut point passes (R146, R147). -/
def State.afterStatus (s : State) (v : Visit) (k : StatusReport) : State :=
  let desired := if v.dropped then 0 else s.desired v.unit v.outlets
  let mask := outletMask v.outlets
  let s := s.onVisit fun v => { v with
    asked := k.asking || k.rebooted, cut := true, begun := true, phase := .atBlocks }
  if desired &&& mask = k.closed &&& mask then s.ackOrEnd else s.nextBlock (.setOutlets desired)

/-- A READ_STATUS block ends (R121, R122, R146). -/
def State.statusReply (s : State) (v : Visit) (reply : List Byte) : State :=
  let reply := asRead 11 reply
  if checksGood reply then
    let k := statusReport reply
    let s := s.onEntry v fun e => { e with reported := some k.closed, unitFault := k.fault }
    let s := if v.dropped then s else s.altStatus v.unit v.outlets k
    s.afterStatus v k
  else s.visitEnd v false

/-- A SET_OUTLETS block ends (R121, R123, R150). -/
def State.appliedReply (s : State) (v : Visit) (sent : BitVec 4) (reply : List Byte) : State :=
  let reply := asRead 2 reply
  if checksGood reply then
    let applied := (byteAt reply 0).extractLsb' 0 4
    let s := s.onEntry v fun e => { e with reported := some applied }
    let s := if v.dropped then s else s.altApplied v.unit v.outlets sent applied
    s.ackOrEnd
  else s.visitEnd v false

/-- An ACK_DEMAND block ends (R121, R124). -/
def State.ackReply (s : State) (v : Visit) (reply : List Byte) : State :=
  s.visitEnd v (checksGood (asRead 2 reply))

/-! ## Soft restart (R134, R152) -/

/-- A record on a unit is in a state. -/
def State.anyOn (s : State) (u : UnitIx) (p : Allotment → Bool) : Bool :=
  (List.finRange Config.outlets).any fun o => ((s.slotOf (.field u o)).bind s.record).any p

/-- The class a unit is marked with at a soft restart (R152). -/
def State.restartClass (s : State) (u : UnitIx) : MarkClass :=
  if s.anyOn u Allotment.isReleasing then .opening
  else if s.anyOn u fun r => r.state == .granted then .closing
  else .routine

/-- An entry through a soft restart (R152). -/
def UnitEntry.restarted (e : UnitEntry) (m : Mark) : UnitEntry :=
  { e with reach := .unseen, failures := 0, meters := Vector.replicate Config.outlets none, mark := some m, owed := none }

/-- The soft restart of FLC (R152). A sweep counts as open from the expiry of its timer, so that one which has fallen due and
made no seek is ended too: the model's reading (log 43). -/
def State.flcRestart (s : State) : State :=
  s.onFlc fun f =>
    { f with
      tx := none
      sweep := if f.sweep.isOpen then Sweep.closed else f.sweep
      enrol := if f.enrol.running then { f.enrol with running := false, ended := .restart, series := Series.fresh }
        else f.enrol
      units := Vector.ofFn fun u => (f.units.get u).map fun e => e.restarted ⟨s.restartClass u, s.now⟩
      pollTimer := msTimer (s.param .pollPeriod)
      sweepTimer := msTimer (s.param .sweepPeriod) }

end Sys2Proof.Machine
end

