-- ==== Sys2Proof/Machine/Port.lean ====
section
/-! DEFINITION. The Request Port (Section 10): frames on the wire, the request in execution, the stored result. -/

namespace Sys2Proof.Machine

/-- The outcome of a command. -/
abbrev Out := Host.Outcome State Fault Refusal

/-! ## Frames (R179, R180, Table 11-1) -/

/-- The bytes of an SPI frame, from the bits clocked in (R179). -/
abbrev spiBytes : Nat → List Bool → List Byte := bytesOf

/-- The read code of SPI form (Table 11-1). -/
def readCode : Byte := 0x00

/-- The bytes are a write frame: not empty and, in SPI form, not a read frame (R179, R180). -/
def isWriteFrame (form : PortForm) : List Byte → Bool
  | [] => false
  | b :: _ => match form with | .spi => b != readCode | .i2c => true

/-- The seven-bit I2C slave address (R178, Table 11-1). -/
def slaveAddress (addrBit : Bool) : BitVec 7 := if addrBit then 0x2D else 0x2C

/-- The address byte of an I2C transaction: the address and the read bit (R180). -/
def addressByte (address : BitVec 7) (read : Bool) : Byte := address ++ BitVec.ofBool read

/-- The port listens in a form: the strapped one, and none while a reset lasts (R178, R190). -/
def State.listens (s : State) (form : PortForm) : Bool := !s.inReset && s.rqp.form == form

/-- The part answers an address byte: its own address in I2C form, whatever the port's state, never the general call, and
none while a reset lasts (R180, R190). -/
def State.answers (s : State) (b : Byte) : Bool :=
  s.listens .i2c && b.extractLsb' 1 7 == slaveAddress s.rqp.addrBit

/-- The `n` bytes a read of the result returns: the state byte, the stored result, then zeros; while a reset lasts the port
is ignored and nothing is returned (R179, R180, R190). Both come from one state (log 37). -/
def State.readFrame (s : State) (n : Nat) : List Byte :=
  let answer := s.rqp.stored
  if s.inReset then []
  else (s.stateByte :: answer.code.code :: BitVec.ofNat 8 answer.payload.length :: answer.payload ++
    List.replicate n 0).take n

/-- What the part shifts out in an SPI frame against the host's bytes: in a read frame the result, in a write frame the
state byte and then zeros; nothing where it does not listen (R178, R179, R190). -/
def State.spiOut (s : State) (host : List Byte) : List Byte :=
  if s.listens .spi then
    match host with
    | [] => []
    | b :: rest => if b = readCode then s.readFrame (rest.length + 1) else s.stateByte :: List.replicate rest.length 0
  else []

/-! ## Requests (R181 to R184) -/

/-- The act of a request at the block that owns it: the state after it and its answer. -/
abbrev Act := State → State × Answer

/-- A request answered DONE with a payload. -/
def done (s : State) (payload : List Byte) : State × Answer := (s, ⟨.done, payload⟩)

/-- A request refused: an empty payload (R184). -/
def refuse (s : State) (code : ResultCode) : State × Answer := (s, ⟨code, []⟩)

/-- A request answered ACCEPTED. -/
def accepted (s : State) : State × Answer := (s, ⟨.accepted, []⟩)

/-- A write frame that ends while a request is in execution: discarded whole (R183). -/
def State.overrun (s : State) : State := s.onRqp fun r => { r with overrun := true }

/-- An accepted request in execution with its answer: READY and OVERRUN cleared (R181; log 19). -/
def State.accept (s : State) (act : Act) : State :=
  let (s, answer) := act (s.onRqp fun r => { r with overrun := false })
  s.onRqp fun r => { r with exec := some answer }

/-- A request frame at the port: ignored in reset, discarded while a request is in execution, else accepted
(R181, R183, R190). -/
def State.request (s : State) (act : Act) : Out :=
  .next (if s.inReset then s else if s.rqp.exec.isSome then s.overrun else s.accept act)

/-- An event on the pins, the timers or the line; while a reset lasts it has no effect (R190; log 6). -/
def State.event (s : State) (act : State → State) : Out := .next (if s.inReset then s else act s)

/-- The code says that the request was carried out, at once or as work begun (Table 10-2). -/
def ResultCode.carriedOut : ResultCode → Bool
  | .done | .accepted | .clamped => true
  | .busy | .unknownRequest | .badLength | .badField | .noSlot | .noSuch | .inUse | .wrongState | .latched => false

/-- An act whose end leaves the line to the most urgent work; a refusal changes no state (R145, R182; log 9). -/
def arbitrated (act : Act) : Act := fun s =>
  let (s, answer) := act s
  (if answer.code.carriedOut then s.arbitrate else s, answer)

/-- The answer of a frame that fails the decode (R182). -/
def DecodeError.answer : DecodeError → Answer
  | .badLength => ⟨.badLength, []⟩
  | .unknownRequest => ⟨.unknownRequest, []⟩

/-! ## The commands of the port's own -/

/-- A write frame discarded because a request is in execution (R183). A frame that is no write frame, or that ends
while none is in execution, is not discarded: it changes nothing here (log 20). -/
def execWriteFrameDiscarded (frame : List Byte) (s : State) : Out :=
  s.event fun s => if s.rqp.exec.isSome && isWriteFrame s.rqp.form frame then s.overrun else s

/-- A write frame that fails the decode: an accepted request whose answer is the failed check's (R182). A frame that
decodes well is the request's own row (log 20). -/
def execRequestDecodeFail (frame : List Byte) (s : State) : Out :=
  s.event fun s =>
    if isWriteFrame s.rqp.form frame then
      match decodeFrame frame with
      | .error e => if s.rqp.exec.isSome then s.overrun else s.accept fun s => (s, DecodeError.answer e)
      | .ok _ => s
    else s

/-- The request's act ends: its result replaces the stored one and READY is set (R181, R184). -/
def execRequestActEnd (s : State) : Out :=
  s.event fun s =>
    match s.rqp.exec with
    | some answer => s.onRqp fun r => { r with stored := answer, exec := none }
    | none => s

end Sys2Proof.Machine
end

