-- ==== Sys2Proof/Machine/AllotmentRequests.lean ====
section
/-! DEFINITION. The requests on allotments (Sections 1 and 6): POST to DAY_TURN. -/

namespace Sys2Proof.Machine

/-! ## Shared checks and effects -/

/-- A request on the record in a slot: a number above 47 is BAD_FIELD, a VACANT slot NO_SUCH (R5). -/
def onRecord (slot : Byte) (act : State → Slot → Allotment → State × Answer) : Act := fun s =>
  match slotNumber slot with
  | none => refuse s .badField
  | some i =>
    match s.record i with
    | none => refuse s .noSuch
    | some r => act s i r

/-- The constraints of a FIELD target: an entry with its plate READ, an outlet it has, a claim within the rating (R3). -/
def State.fieldFits (s : State) (u : UnitIx) (o : Outlet) (claim : Nat) : Bool :=
  match (s.flc.units.get u).bind UnitEntry.plate with
  | none => false
  | some p => decide (o.val < p.outlets ∧ claim ≤ 10 * (p.ratings.get o).toNat)

/-- The constraints on a record as it would stand (R3, Table 1-3). -/
def State.constraints (s : State) (r : Allotment) : Bool :=
  match r.kind, r.target with
  | .ordinary, .field u o => s.fieldFits u o r.claim && r.idle == 0
  | .ordinary, .relay _ => r.idle == 0
  | .critical, .relay _ => r.quota == 0 && r.idle == 0
  | .saw, .clutch => r.quota == 0 && decide (r.idle ≤ r.claim)
  | .ordinary, .clutch | .critical, .field _ _ | .critical, .clutch | .saw, .field _ _ | .saw, .relay _ => false

/-- A record's fields lie in their ranges (Table 1-1). -/
def Allotment.inRange (r : Allotment) : Bool := decide (10 ≤ r.claim ∧ r.claim ≤ 20000 ∧ r.priority ≤ 15)

/-- A non-VACANT record other than one slot's carries a tag; a tag of 0 is none. -/
def State.tagTaken (s : State) (tag : Nat) (but : Option Slot) : Bool :=
  decide (tag ≠ 0) && allSlots.any fun i =>
    decide (some i ≠ but) && (s.record i).any fun r => r.tag == tag

/-- The lowest VACANT slot (R6). -/
def State.freeSlot (s : State) : Option Slot := allSlots.find? fun i => (s.record i).isNone

/-- Demand set or cleared by the host; never on the saw record (R14). -/
def hostDemand (slot : Byte) (want : Bool) : Act :=
  onRecord slot fun s i r =>
    if r.kind = .saw then refuse s .wrongState else done (s.setWanted false i want) []

/-! ## POST (R6) -/

/-- The record POST would place, when its bytes are in range (R6 check 1, R193). -/
def postedRecord (kind : Byte) (target : TargetBytes) (claim idle : Half) (priority : Byte) (quota tag : Half)
    (locked : Byte) : Option Allotment :=
  match kindOf kind, targetOf target, boolOf locked with
  | some kind, some target, some locked =>
    some { state := .idle, reason := none, kind, target, claim := claim.toNat, idle := idle.toNat
           priority := priority.toNat, quota := quota.toNat, used := 0, residue := 0, tag := tag.toNat, wanted := false
           locked, trimmed := decide (kind = .saw), starve := 0 }
  | _, _, _ => none

/-- The checks 2 and 3 of POST and its effect (R6). -/
def State.post (s : State) (r : Allotment) : State × Answer :=
  if (s.slotOf r.target).isSome || s.tagTaken r.tag none || (decide (r.kind = .saw) && s.sawSlot.isSome) then
    refuse s .inUse
  else
    match s.freeSlot with
    | none => refuse s .noSlot
    | some i => done ((s.setRecord i (some r)).forgetChange i) [BitVec.ofNat 8 i.val]

/-- POST (R6). -/
def execPost (kind : Byte) (target : TargetBytes) (claim idle : Half) (priority : Byte) (quota tag : Half)
    (locked : Byte) (s : State) : Out :=
  s.request fun s =>
    match postedRecord kind target claim idle priority quota tag locked with
    | none => refuse s .badField
    | some r => if r.inRange && s.constraints r then s.post r else refuse s .badField

/-! ## AMEND (R7, R8, R112, R113, R194) -/

/-- AMEND's bytes pass R193: no unassigned flag, a true/false byte for locked. -/
def amendBytesGood (flags locked : Byte) : Bool :=
  flags.extractLsb' 6 2 == 0 && (!flags.getLsbD 4 || (boolOf locked).isSome)

/-- An idle claim is given for the SAW record alone (R7; log 32). -/
def Allotment.takesFields (r : Allotment) (flags : Byte) : Bool := !flags.getLsbD 1 || r.kind == .saw

/-- The record with the given fields changed (R7, R194). -/
def Allotment.amend (r : Allotment) (flags : Byte) (claim idle : Half) (priority : Byte) (quota : Half) (locked : Byte)
    (tag : Half) : Allotment :=
  { r with
    claim := if flags.getLsbD 0 then claim.toNat else r.claim
    idle := if flags.getLsbD 1 then idle.toNat else r.idle
    priority := if flags.getLsbD 2 then priority.toNat else r.priority
    quota := if flags.getLsbD 3 then quota.toNat else r.quota
    locked := if flags.getLsbD 4 then locked == 1 else r.locked
    tag := if flags.getLsbD 5 then tag.toNat else r.tag }

/-- A ballast step of a difference: downward if the value rises, upward if it falls (R8). -/
def State.stepDifference (s : State) (before after : Nat) : State :=
  if before ≤ after then s.ballastStep .down (after - before) else s.ballastStep .up (before - after)

/-- What an amended claim or idle claim changes at once (R8). Where both of a LIVE untrimmed SAW record are given, the
idle claim's step is taken first: the model's choice (log 34). -/
def State.balanceAmend (s : State) (before after : Allotment) : State :=
  match before.state with
  | .granted => s.onAlt fun a => { a with gOut := a.gOut + after.share - before.share }
  | .live =>
    if before.kind = .saw then
      let s := s.stepDifference before.idle after.idle
      if before.trimmed then s else s.stepDifference before.claim after.claim
    else s.stepDifference before.claim after.claim
  | .idle | .pending | .releasing _ | .shed | .held _ => s

/-- A record HELD for its quota leaves HELD when the quota is no longer spent (R113). -/
def State.quotaRelease (s : State) (i : Slot) : State :=
  match s.record i with
  | none => s
  | some r =>
    if r.state = .held .quota ∧ r.spent = false then
      (s.setRecord i (some { r with state := if r.wanted then .pending else .idle })).noteChange true i
    else s

/-- The amended record stored, balanced, and followed by the quota rules (R7, R8, R112, R113). -/
def State.amended (s : State) (i : Slot) (before after : Allotment) : State :=
  let s := (s.setRecord i (some after)).balanceAmend before after
  if after.quota = before.quota then s else (s.quotaHold i).quotaRelease i

/-- AMEND (R7). -/
def execAmend (slot flags : Byte) (claim idle : Half) (priority : Byte) (quota : Half) (locked : Byte) (tag : Half)
    (s : State) : Out :=
  s.request (arbitrated fun s =>
    if amendBytesGood flags locked then
      onRecord slot (fun s i r =>
        let r' := r.amend flags claim idle priority quota locked tag
        if r.isReleasing then refuse s .wrongState
        else if !(r.takesFields flags && r'.inRange && s.constraints r') then refuse s .badField
        else if flags.getLsbD 5 && s.tagTaken r'.tag (some i) then refuse s .inUse
        else done (s.amended i r r') (recordBytes i (some r'))) s
    else refuse s .badField)

/-! ## RETIRE, HOLD, FREE (R9, R16, R17) -/

/-- RETIRE (R9). -/
def execRetire (slot : Byte) (s : State) : Out :=
  s.request (arbitrated (onRecord slot fun s i r =>
    if r.kind = .saw ∧ s.saw.st ≠ .idle ∧ s.saw.st ≠ .fault then refuse s .wrongState
    else
      match r.state with
      | .idle | .pending | .shed | .held _ => done ((s.setRecord i none).forgetChange i).checkStrict []
      | .granted | .live => done (s.release false i .vacant (some .retired)) []
      | .releasing _ =>
        done (s.setRecord i (some { r with state := .releasing .vacant, reason := some .retired })) []))

/-- HOLD (R16). -/
def execHold (slot : Byte) (s : State) : Out :=
  s.request (arbitrated (onRecord slot fun s i r =>
    match r.state with
    | .pending | .shed => done (s.setRecord i (some { r with state := .held .host })).checkStrict []
    | .granted | .live => done (s.release false i (.held .host) none) []
    | .releasing .idle | .releasing .shed =>
      done (s.setRecord i (some { r with state := .releasing (.held .host) })) []
    | .releasing (.held .host) | .held .host => done s []
    | .idle | .releasing .vacant | .releasing (.held .quota) | .releasing (.held .refused)
    | .releasing (.held .fault) | .held .quota | .held .refused | .held .fault => refuse s .wrongState))

/-- A record leaves HELD by FREE, for PENDING if wanted (R17, R13). -/
def Allotment.freed (r : Allotment) : Allotment := if r.wanted then r.toPending else { r with state := .idle }

/-- FREE (R17). -/
def execFree (slot : Byte) (s : State) : Out :=
  s.request (onRecord slot fun s i r =>
    match r.state with
    | .held .host | .held .refused => done (s.setRecord i (some r.freed)) []
    | .held .fault => if s.saw.st = .fault then refuse s .wrongState else done (s.setRecord i (some r.freed)) []
    | .held .quota | .idle | .pending | .granted | .live | .releasing _ | .shed => refuse s .wrongState)

/-- WANT (R14). -/
def execWant (slot : Byte) (s : State) : Out := s.request (hostDemand slot true)

/-- DROP (R14). -/
def execDrop (slot : Byte) (s : State) : Out := s.request (arbitrated (hostDemand slot false))

/-! ## Finding records (R10 to R12, R29) -/

/-- LOOKUP (R10). -/
def execLookup (slot : Byte) (s : State) : Out :=
  s.request (onRecord slot fun s i r => done s (recordBytes i (some r)))

/-- A record found by a key, or NO_SUCH (R11). -/
def State.answerFound (s : State) : Option Slot → State × Answer
  | some i => done s (recordBytes i (s.record i))
  | none => refuse s .noSuch

/-- FIND (R11). -/
def execFind (target : TargetBytes) (s : State) : Out :=
  s.request fun s =>
    match targetOf target with
    | some t => s.answerFound (s.slotOf t)
    | none => refuse s .badField

/-- FIND_TAG (R11). -/
def execFindTag (tag : Half) (s : State) : Out :=
  s.request fun s =>
    if tag = 0 then refuse s .badField
    else s.answerFound (allSlots.find? fun i => (s.record i).any fun r => r.tag == tag.toNat)

/-- WALK_FROM names a position, VACANT or not (R5, R12). -/
def execWalkFrom (slot : Byte) (s : State) : Out :=
  s.request fun s =>
    match slotNumber slot with
    | some i => done (s.onAlt fun a => { a with walk := i }) []
    | none => refuse s .badField

/-- The slots in the order of a walk from a position, slot 47 followed by slot 0 (R12). -/
def walkOrder (start : Slot) : List Slot := allSlots.map fun k => start + k

/-- WALK_NEXT (R12). -/
def execWalkNext (s : State) : Out :=
  s.request fun s =>
    match (walkOrder s.alt.walk).find? fun i => (s.record i).isSome with
    | some i => done (s.onAlt fun a => { a with walk := i + 1 }) (recordBytes i (s.record i))
    | none => refuse s .noSuch

/-- The lowest slot of the change set (R28, R29). -/
def State.firstChanged (s : State) : Option Slot := allSlots.find? fun i => s.alt.changed.get i

/-- NEXT_CHANGED (R29). -/
def execNextChanged (s : State) : Out :=
  s.request fun s =>
    match s.firstChanged with
    | some i => done (s.forgetChange i) (recordBytes i (s.record i))
    | none => refuse s .noSuch

/-! ## DAY_TURN (R114) -/

/-- A record through the day turn (R114). -/
def Allotment.dayTurn (r : Allotment) : Allotment :=
  match r.state with
  | .held .quota => { r with used := 0, state := if r.wanted then .pending else .idle }
  | .releasing (.held .quota) => { r with used := 0, state := .releasing (if r.wanted then .shed else .idle) }
  | .idle | .pending | .granted | .live | .shed | .held .host | .held .refused | .held .fault
  | .releasing .idle | .releasing .shed | .releasing .vacant
  | .releasing (.held .host) | .releasing (.held .refused) | .releasing (.held .fault) => { r with used := 0 }

/-- The day turn changes the state or the destination of a record (R114). -/
def Allotment.turned (r : Allotment) : Bool := r.dayTurn.state != r.state

/-- The slots whose records the day turn moves (R114). -/
def State.turnedSlots (s : State) : List Slot := allSlots.filter fun i => (s.record i).any Allotment.turned

/-- The day turn of every record, the moved ones entering the change set (R28, R114). -/
def Alt.dayTurn (a : Alt) : Alt :=
  { a with
    slots := a.slots.map fun r => r.map Allotment.dayTurn
    changed := Vector.ofFn fun i => a.changed.get i || (a.slots.get i).any Allotment.turned }

/-- DAY_TURN (R114). -/
def execDayTurn (s : State) : Out :=
  s.request fun s => done (s.onAlt Alt.dayTurn) [BitVec.ofNat 8 s.turnedSlots.length]

end Sys2Proof.Machine
end

