-- ==== Sys2Proof/Machine/GovernorRequests.lean ====
section
/-! DEFINITION. The requests on the governor and its events (Sections 4 and 5). -/

namespace Sys2Proof.Machine

/-- The gate begins to open toward speed (R99). -/
def State.startRunup (s : State) : State := ((s.onGov fun g => g.enterIdle .runUp).beginRunup).govReport

/-- START (R99). -/
def execStart (s : State) : Out :=
  s.request fun s =>
    if s.gov.st ≠ .stopped ∨ s.param .bCap = 0 ∨ s.gov.gateValid = false then refuse s .wrongState
    else if s.inu.estopLatch then refuse s .latched
    else if s.active .lowWater then refuse s .wrongState
    else accepted s.startRunup

/-- STOP taken: the shed-all, the closing gate, the report; a gate already shut ends in STOPPED (R104, R105). -/
def State.stopSet (s : State) : State :=
  let s := (s.onGov fun g => (g.endMove).enterIdle .stopping).shedAll .stopped
  let s := s.beginShut.govReport
  if s.gov.move.isNone then s.shutEnded else s

/-- STOP (R104). -/
def execStop (s : State) : Out :=
  s.request (arbitrated fun s =>
    match s.gov.st with
    | .runUp | .regulating | .hold => accepted s.stopSet
    | .stopped | .stopping | .tripped => refuse s .wrongState)

/-- The conditions of CLEAR_TRIP (R90). -/
def State.tripClears (s : State) : Bool :=
  s.gov.st == .tripped && !s.inu.estopLatch && (s.gov.cause == .gateFault || s.active .gateShut)

/-- CLEAR_TRIP (R90). -/
def execClearTrip (s : State) : Out :=
  s.request fun s =>
    if s.tripClears then done (s.onGov fun g => g.enterIdle .stopped).govReport [] else refuse s .wrongState

/-- The homing move begun; a gate already shut is homed at once (R94, R97). -/
def State.homeGate (s : State) : State :=
  let s := (s.onGov fun g => { g with gateValid := false, gatePos := 0 }).beginShut
  if s.gov.move.isNone then s.shutEnded else s

/-- GATE_HOME (R97). -/
def execGateHome (s : State) : Out :=
  s.request fun s =>
    if s.gov.st ≠ .stopped then refuse s .wrongState
    else if s.gov.move.isSome then refuse s .busy
    else accepted s.homeGate

/-- GOV_STATUS (R91). -/
def execGovStatus (s : State) : Out := s.request fun s => done s (govStatusBytes s.gov s.alt)

/-- The hold timer runs out: a trip, when GOV is in HOLD (R86). -/
def execHoldTimerExpiry (s : State) : Out :=
  s.event fun s =>
    if s.gov.holdTimer.isSome ∧ s.gov.st = .hold then (s.trip .tachLost).arbitrate else s

/-- The gate step timer expires (R93). -/
def execGateStepTimer (s : State) : Out :=
  s.event fun s =>
    match s.gov.stepTimer, s.gov.move with
    | some _, some m => (s.gateStep m).arbitrate
    | _, _ => s

/-- The run-up timer runs out: the next move falls due when none is in flight (R100). -/
def State.runupExpiry (s : State) : State :=
  let s := s.onGov fun g => { g with runupTimer := none }
  if s.gov.move.isNone then s.runupDue else s

/-- The run-up timer runs out (R100, R101). -/
def execRunupTimerExpiry (s : State) : Out :=
  s.event fun s => if s.gov.runupTimer.isSome ∧ s.gov.st = .runUp then s.runupExpiry.arbitrate else s

/-- The trim timer expires: it is restarted, and the trim is decided (R102, R103). -/
def execTrimTimerExpiry (s : State) : Out :=
  s.event fun s =>
    if s.gov.trimTimer.isSome ∧ s.gov.st = .regulating then
      (s.onGov fun g => { g with trimTimer := secTimer (s.param .trimPeriod) }).trimDecision
    else s

/-- The length of a PWM period, in microseconds (R195). -/
def pwmPeriod : Nat := 4000

/-- A PWM period begins: the output takes the duty held (R71, R195). -/
def execBallastPwmPeriod (s : State) : Out :=
  s.event fun s => s.onGov fun g => { g with pwmDuty := g.duty, pwmTimer := some pwmPeriod }

end Sys2Proof.Machine
end

