-- ==== Sys2Proof/Machine/InputCommands.lean ====
section
/-! DEFINITION. The requests on the inputs and the input events (Section 3). -/

namespace Sys2Proof.Machine

/-- The channel of a number (Table 3-1). -/
def channelOf (b : Byte) : Option Channel := allChannels[b.toNat]?

/-- TACH takes the filter codes 0 and 1: 2 and 3 are stored as 1 (R55). -/
def storedFilter (c : Channel) (filter : Nat) : Nat := if c = .tach ∧ 2 ≤ filter then 1 else filter

/-- A new setup applied: the polarity at once, a candidate old enough for the new filter time accepted (R55, R60). -/
def State.setup (s : State) (c : Channel) (activeLow : Bool) (filter : Nat) : State :=
  let old := s.chan c
  if old.activeLow = activeLow ∧ old.filter = filter then s
  else
    let s := s.setChan c (({ old with activeLow, filter }).recheck s.now)
    let s := if c = .tach then s.onInu fun u => { u with lastStamp := none } else s
    if (s.chan c).ripe s.now then s.acceptChange c else s

/-- INPUT_SETUP (R55). -/
def execInputSetup (channel polarity filter : Byte) (s : State) : Out :=
  s.request (arbitrated fun s =>
    match channelOf channel, boolOf polarity with
    | some c, some activeLow =>
      if filter.toNat ≤ 3 then
        let stored := storedFilter c filter.toNat
        (s.setup c activeLow stored,
          ⟨if stored = filter.toNat then .done else .clamped, [channel, polarity, BitVec.ofNat 8 stored]⟩)
      else refuse s .badField
    | _, _ => refuse s .badField)

/-- INPUT_READ (R67). -/
def execInputRead (s : State) : Out := s.request fun s => done s (inputStatusBytes s.inu)

/-- A latch cleared unless its input's debounced level is active (R57). -/
def State.clearLatch (s : State) (c : Channel) (clear : Inu → Inu) : State × Answer :=
  if s.active c then refuse s .latched else done (s.onInu clear) []

/-- INPUT_CLEAR names GUARD or ESTOP (R57). -/
def execInputClear (channel : Byte) (s : State) : Out :=
  s.request fun s =>
    if channel = 7 then s.clearLatch .guard fun u => { u with guardLatch := false }
    else if channel = 8 then s.clearLatch .estop fun u => { u with estopLatch := false }
    else refuse s .badField

/-- The pin of a channel takes a level; the raw state follows, and with it the candidate (R52, R53). In reset the pin
alone moves (log 6). -/
def execInputRawChange (channel : Channel) (high : Bool) (s : State) : Out :=
  let c := { s.chan channel with pin := high }
  .next (s.setChan channel (if s.inReset then c else c.recheck s.now))

/-- The filter time of a candidate in flight runs out (R53, R54). -/
def execDebounceAccept (channel : Channel) (s : State) : Out :=
  s.event fun s => (s.acceptChange channel).arbitrate

/-- The loss timer runs out (R59). -/
def execTachLossTimer (s : State) : Out :=
  s.event fun s => if s.inu.lossTimer.isSome then s.tachLost else s

/-- The encoder pins change (R63, R64). In reset the pins alone move (log 6). -/
def execEncoderChange (a b z : Bool) (s : State) : Out :=
  .next (if s.inReset then s.onInu fun u => { u with pinA := a, pinB := b, pinZ := z } else s.encoderMove a b z)

end Sys2Proof.Machine
end

