-- ==== Sys2Proof/Machine/LineCommands.lean ====
section
/-! DEFINITION. The requests on the outlet units and the field-line events (Sections 7 and 8). -/

namespace Sys2Proof.Machine

/-! ## Requests -/

/-- ENROL (R140). -/
def execEnrol (s : State) : Out :=
  s.request (arbitrated fun s =>
    if s.flc.enrol.running then refuse s .busy
    else
      accepted (s.onFlc fun f =>
        { f with found := [], enrol := { f.enrol with running := true, more := false, series := Series.fresh } }))

/-- The entry of a newly adopted unit (Table 8-1). -/
def newEntry (identity : Identity) (now : Nat) : UnitEntry :=
  { identity, plate := none, plateOwed := true, reach := .unseen, failures := 0
    meters := Vector.replicate Config.outlets none, reported := none, unitFault := false
    mark := some ⟨.routine, now⟩, owed := none }

/-- The lowest empty position of the unit table (R136). -/
def Flc.freeUnit (f : Flc) : Option UnitIx := allUnits.find? fun u => (f.units.get u).isNone

/-- ADOPT (R136). -/
def execAdopt (identity : Identity) (s : State) : Out :=
  s.request (arbitrated fun s =>
    if !validIdentity identity then refuse s .badField
    else if (s.flc.unitOf identity).isSome then refuse s .inUse
    else
      match s.flc.freeUnit with
      | none => refuse s .noSlot
      | some u =>
        done (s.onFlc fun f =>
          { f.setUnit u (some (newEntry identity s.now)) with found := f.found.filter fun x => x != identity })
          [BitVec.ofNat 8 u.val])

/-- A request on an entry of the unit table: an index above 23 is BAD_FIELD, an empty position NO_SUCH (R137, R138). -/
def onUnit (index : Byte) (act : State → UnitIx → UnitEntry → State × Answer) : Act := fun s =>
  match indexOf Config.units index with
  | none => refuse s .badField
  | some u =>
    match s.flc.units.get u with
    | none => refuse s .noSuch
    | some e => act s u e

/-- A non-VACANT record names the unit as its FIELD target (R137). -/
def State.unitNamed (s : State) (u : UnitIx) : Bool := s.anyOn u fun _ => true

/-- The entry removed; a visit to it runs on as a dropped one (R137). -/
def Flc.dropUnit (f : Flc) (u : UnitIx) : Flc :=
  { f.setUnit u none with
    tx := match f.visitTo u with
      | some v => some (.visit { v with dropped := true })
      | none => f.tx }

/-- DROP_UNIT (R137). -/
def execDropUnit (index : Byte) (s : State) : Out :=
  s.request (onUnit index fun s u _ =>
    if s.unitNamed u then refuse s .inUse else done (s.onFlc fun f => f.dropUnit u) [])

/-- UNIT_INFO (R138). -/
def execUnitInfo (index : Byte) (s : State) : Out :=
  s.request (onUnit index fun s u e => done s (unitBytes u e (s.flc.visitTo u).isSome))

/-- TAKE_FOUND (R139). -/
def execTakeFound (s : State) : Out :=
  s.request fun s =>
    match s.flc.found with
    | [] => (s, ⟨.noSuch, foundBytes 0 0 s.flc.enrol⟩)
    | x :: rest => done (s.onFlc fun f => { f with found := rest }) (foundBytes x rest.length s.flc.enrol)

/-! ## Timers (R143) -/

/-- A ROUTINE mark for every unit that has none; a unit under visit takes it as a visit's mark (R143, R147). -/
def State.pollUnit (s : State) (u : UnitIx) : State :=
  match s.flc.units.get u with
  | some e => if e.mark.isNone then s.giveMark .routine u else s
  | none => s

/-- The poll timer expires (R143). -/
def execPollTimerExpiry (s : State) : Out :=
  s.event fun s =>
    if s.flc.pollTimer.isSome then
      (allUnits.foldl State.pollUnit
        (s.onFlc fun f => { f with pollTimer := msTimer (s.param .pollPeriod) })).arbitrate
    else s

/-- The sweep timer expires: the sweep falls due, and counts as open from here on (R143, R144; log 43). -/
def execSweepTimerExpiry (s : State) : Out :=
  s.event fun s =>
    if s.flc.sweepTimer.isSome then
      (s.onFlc fun f => { f with sweepTimer := none, sweep := { isOpen := true, series := Series.fresh, found := 0 } }).arbitrate
    else s

/-! ## Ends on the line -/

/-- No presence was shown: the transaction ends, before any block of a visit (R118, R126, R132, R148; log 7). How FLC reads that
from the line is `presenceOf`, in Machine/OutletUnit.lean. -/
def State.noPresence (s : State) : State :=
  match s.flc.tx with
  | some (.broadcast _) => s.onFlc fun f => { f with tx := none }
  | some (.visit v) => if v.begun then s else s.visitEnd v false
  | some (.seek owner _) => s.seekDone owner .noPresence
  | none => s

/-- NO_PRESENCE (R118). -/
def execNoPresence (s : State) : Out := s.event fun s => s.noPresence.arbitrate

/-- The broadcast ends OK and changes no entry (R126, R151). -/
def execBroadcastEnd (s : State) : Out :=
  s.event fun s =>
    match s.flc.tx with
    | some (.broadcast _) => (s.onFlc fun f => { f with tx := none }).arbitrate
    | some (.visit _) | some (.seek _ _) | none => s

/-- A READ_STATUS block ends with the bytes read (R122). -/
def execReadStatusReply (reply : List Byte) (s : State) : Out :=
  s.event fun s =>
    match s.flc.visit with
    | some v =>
      match v.block with
      | .readStatus => (s.statusReply v reply).arbitrate
      | .readPlate | .setOutlets _ | .ackDemand => s
    | none => s

/-- A SET_OUTLETS block ends with the bytes read (R123). -/
def execSetOutletsReply (reply : List Byte) (s : State) : Out :=
  s.event fun s =>
    match s.flc.visit with
    | some v =>
      match v.block with
      | .setOutlets sent => (s.appliedReply v sent reply).arbitrate
      | .readPlate | .readStatus | .ackDemand => s
    | none => s

/-- An ACK_DEMAND block ends with the bytes read (R124). -/
def execAckDemandReply (reply : List Byte) (s : State) : Out :=
  s.event fun s =>
    match s.flc.visit with
    | some v =>
      match v.block with
      | .ackDemand => (s.ackReply v reply).arbitrate
      | .readPlate | .readStatus | .setOutlets _ => s
    | none => s

/-- A READ_PLATE block ends with the bytes read (R125). -/
def execReadPlateReply (reply : List Byte) (s : State) : Out :=
  s.event fun s =>
    match s.flc.visit with
    | some v =>
      match v.block with
      | .readPlate => (s.plateReply v reply).arbitrate
      | .readStatus | .setOutlets _ | .ackDemand => s
    | none => s

/-- A seek ends with its readings (R130 to R133). -/
def execSeekEnd (readings : List Reading) (s : State) : Out :=
  s.event fun s =>
    match s.flc.tx with
    | some (.seek owner _) => (s.seekDone owner (seek (s.flc.seriesOf owner) readings)).arbitrate
    | some (.broadcast _) | some (.visit _) | none => s

end Sys2Proof.Machine
end

