-- ==== Sys2Proof/Machine/PortCommands.lean ====
section
/-! DEFINITION. Parameters, attention, identification and the resets (Section 10). -/

namespace Sys2Proof.Machine

/-! ## Parameters (R185, R186) -/

/-- The value stored for a parameter: clamped into its range, then kept by the cross-limits (R185, R186). -/
def storedValue (v : Params) (p : Param) (x : Nat) : Nat :=
  let x := p.clamp x
  match p with
  | .fTrip => max x (v.get .fSet + 100)
  | .fFloor => min x (v.get .fSet - v.get .shedBand)
  | .trimLowPct => min x (v.get .trimHighPct - 5)
  | .fSet | .shedBand | .kp | .ki | .bCap | .reserve | .shedDelay | .shedSettle | .restoreDelay | .starveLimit
  | .holdLimit | .trimPeriod | .trimStep | .trimHighPct | .gateSpan | .gateRate | .runupStep | .runupInterval
  | .pollPeriod | .sweepPeriod | .feedBand | .feedMin | .returnRate | .stepsPerMm | .encPerMm | .setStepsPerMm
  | .setTimeoutCode | .setSettle | .spinupTime | .clutchTimeout | .stallTol => x

/-- The value a cross-limit asks of a parameter, given the others (R186). -/
def limited (v : Params) (p : Param) : Nat := storedValue v p (v.get p)

/-- The parameters a parameter may move, in the order of R186's table. -/
def Param.movable : Param → List Param
  | .fSet => [.fTrip, .fFloor]
  | .shedBand => [.fFloor]
  | .trimHighPct => [.trimLowPct]
  | .fTrip | .fFloor | .kp | .ki | .bCap | .reserve | .shedDelay | .shedSettle | .restoreDelay | .starveLimit
  | .holdLimit | .trimPeriod | .trimStep | .trimLowPct | .gateSpan | .gateRate | .runupStep | .runupInterval
  | .pollPeriod | .sweepPeriod | .feedBand | .feedMin | .returnRate | .stepsPerMm | .encPerMm | .setStepsPerMm
  | .setTimeoutCode | .setSettle | .spinupTime | .clutchTimeout | .stallTol => []

/-- The moves of the cross-limits applied in order (R186). -/
def applyLimits (v : Params) (ps : List Param) : Params := ps.foldl (fun v p => v.put p (limited v p)) v

/-- The parameters after SET_PARAM (R185, R186). -/
def setParams (v : Params) (p : Param) (x : Nat) : Params := applyLimits (v.put p (storedValue v p x)) p.movable

/-- The first parameter that a cross-limit moved (R185, R186). -/
def movedParam (before after : Params) (p : Param) : Option Param :=
  p.movable.find? fun q => before.get q != after.get q

/-- A parameter in a payload: its number and value (Table 11-2). -/
def paramBytes (v : Params) (p : Param) : List Byte := beBytes 1 p.number ++ beBytes 2 (v.get p)

/-- A changed B_cap acts at once (R82). -/
def State.capChanged (s : State) : State :=
  s.onGov fun g => g.setBallast s.params (min g.bAcc (16 * s.param .bCap))

/-- A changed gate_span acts at once (R98). -/
def State.spanChanged (s : State) : State :=
  if s.param .gateSpan < s.gov.gatePos then s.onGov fun g => { g with gatePos := s.param .gateSpan, gateValid := false }
  else s

/-- SET_PARAM's effect on the blocks in its own act (R82, R98, R185). -/
def State.paramSet (s : State) (p : Param) (x : Nat) : State :=
  let old := s.param p
  let s := s.onParams fun v => setParams v p x
  if s.param p = old then s
  else if p = .bCap then s.capChanged
  else if p = .gateSpan then s.spanChanged
  else s

/-- SET_PARAM (R185). -/
def execSetParam (number : Byte) (value : Half) (s : State) : Out :=
  s.request fun s =>
    match Param.ofNumber number.toNat with
    | none => refuse s .badField
    | some p =>
      let s' := s.paramSet p value.toNat
      match movedParam s.params s'.params p with
      | some q => (s', ⟨.clamped, paramBytes s'.params p ++ paramBytes s'.params q⟩)
      | none =>
        (s', ⟨if s'.param p = value.toNat then .done else .clamped, paramBytes s'.params p⟩)

/-- GET_PARAM (R185). -/
def execGetParam (number : Byte) (s : State) : Out :=
  s.request fun s =>
    match Param.ofNumber number.toNat with
    | none => refuse s .badField
    | some p => done s (paramBytes s.params p)

/-! ## Attention (R188, R189) -/

/-- A request that names a set of causes; bit 7 names none of them (R188, R189). -/
def onCauses (causes : Byte) (act : State → CauseSet → State × Answer) : Act := fun s =>
  match causesOf causes with
  | none => refuse s .badField
  | some c => act s c

/-- The mask changed and returned as stored (R188). -/
def State.setMask (s : State) (mask : CauseSet) : State × Answer :=
  done (s.onRqp fun r => { r with mask }) [causesByte mask]

/-- ATTN_MASK_SET (R188). -/
def execAttnMaskSet (causes : Byte) (s : State) : Out :=
  s.request (onCauses causes fun s c => s.setMask (s.rqp.mask ||| c))

/-- ATTN_MASK_CLEAR (R188). -/
def execAttnMaskClear (causes : Byte) (s : State) : Out :=
  s.request (onCauses causes fun s c => s.setMask (s.rqp.mask &&& ~~~c))

/-- ATTN_READ (R188). -/
def execAttnRead (s : State) : Out :=
  s.request fun s => done s [causesByte s.rawSet, causesByte s.rqp.mask, causesByte s.maskedSet]

/-- Latched causes removed from the raw set (R189). -/
def State.ack (s : State) (c : CauseSet) : State := s.onRqp fun r => { r with latched := r.latched &&& ~~~c }

/-- ATTN_ACK (R189). -/
def execAttnAck (causes : Byte) (s : State) : Out :=
  s.request (onCauses causes fun s c => done (s.ack c) [causesByte (s.ack c).rawSet])

/-- IDENTIFY (R192). -/
def execIdentify (s : State) : Out := s.request fun s => done s (identityPayload s.rqp)

/-! ## The soft restart (R191) -/

/-- INU's part: the encoder alone, its quadrature state taken from the pins (R62, R65). -/
def Inu.restarted (u : Inu) : Inu := { u with count := 0, homed := false, quadA := u.pinA, quadB := u.pinB }

/-- SAW's part, which raises no SAW_STATE (R176). -/
def State.sawRestart (s : State) : State :=
  let s := ((s.onSaw Saw.stopMotion).clearCutWanted).onSaw fun w =>
    { w.dropPhase with stopFlag := false, cuts := [], nextNumber := 0 }
  let s := s.sawWant false
  s.onSaw fun w => { w with st := if s.sawReleasing then .releasing else .idle }

/-- The soft restart in every block it reaches (R191). -/
def State.softRestart (s : State) : State :=
  ((s.onInu Inu.restarted).flcRestart.sawRestart).onRqp fun r => { r with latched := 0 }

/-- RESTART (R191). -/
def execRestart (s : State) : Out := s.request (arbitrated fun s => done s.softRestart [])

/-! ## Power-on and pin reset (R190) -/

/-- INU at its power-on values, its pins as they are (R51, R56, R61, R62). -/
def Inu.hardReset (u : Inu) : Inu :=
  { Inu.reset with
    chans := Vector.ofFn fun i => Chan.reset (u.chans.get i).pin (if i.val = 0 then 1 else 2)
    pinA := u.pinA, pinB := u.pinB, pinZ := u.pinZ, quadA := u.pinA, quadB := u.pinB }

/-- Every block at its power-on values while the reset lasts; what was sampled from the straps stands until the reset
ends, and what waits in the queue still waits (R178, R190; logs 4, 6). -/
def State.hardReset (s : State) : State :=
  { State.reset with
    now := s.now, inReset := true, inu := s.inu.hardReset
    rqp := { Rqp.reset with form := s.rqp.form, addrBit := s.rqp.addrBit }, pending := s.pending }

/-- Supply is applied (R190). -/
def execPowerOnReset (s : State) : Out := .next s.hardReset

/-- The RESET pin is asserted (R190). -/
def execPinReset (s : State) : Out := .next s.hardReset

/-- INU when a reset ends: the quadrature state is the pins', a channel whose pin presents its active state begins a
candidate (R51, R53, R65). -/
def Inu.resetEnds (u : Inu) (now : Nat) : Inu :=
  { u with chans := u.chans.map fun c => c.recheck now, quadA := u.pinA, quadB := u.pinB }

/-- The reset ends: the straps are sampled and the part runs (R178, R190). -/
def State.resetEnds (s : State) (portSel addr0 : Bool) : State :=
  let s := s.onInu fun u => u.resetEnds s.now
  let s := s.onRqp fun r => { r with form := if portSel then .i2c else .spi, addrBit := addr0 }
  { s with inReset := false }

/-- The reset ends (R190); without one lasting nothing changes (log 7). -/
def execResetEnd (portSel addr0 : Bool) (s : State) : Out :=
  .next (if s.inReset then s.resetEnds portSel addr0 else s)

end Sys2Proof.Machine
end

