-- ==== Sys2Proof/Machine/SawCommands.lean ====
section
/-! DEFINITION. The requests on the saw, the saw's events and the clutch's timeouts (Section 9, 1.7.2). -/

namespace Sys2Proof.Machine

/-! ## The cut list (R155, R156) -/

/-- The feed ceiling clamped into its range (R155). -/
def clampCeiling (x : Nat) : Nat := max 10 (min 400 x)

/-- CUT_ADD (R155). -/
def execCutAdd (thickness stroke ceiling : Half) (s : State) : Out :=
  s.request fun s =>
    if 3000 < thickness.toNat ∨ stroke.toNat < 200 ∨ 8000 < stroke.toNat then refuse s .badField
    else if Config.cutOrders ≤ s.saw.cuts.length then refuse s .noSlot
    else
      let o : CutOrder :=
        { number := s.saw.nextNumber, thickness := thickness.toNat, stroke := stroke.toNat
          ceiling := clampCeiling ceiling.toNat }
      (s.onSaw fun w => { w with cuts := w.cuts ++ [o], nextNumber := (w.nextNumber + 1) % 256 },
        ⟨if o.ceiling = ceiling.toNat then .done else .clamped,
          orderBytes o ++ [BitVec.ofNat 8 (s.saw.cuts.length + 1)]⟩)

/-- CUT_CLEAR (R156). -/
def execCutClear (s : State) : Out :=
  s.request fun s =>
    if s.saw.st = .idle ∨ s.saw.st = .fault then done (s.onSaw fun w => { w with cuts := [] }) []
    else refuse s .wrongState

/-- CUT_LIST (R156). -/
def execCutList (s : State) : Out := s.request fun s => done s (cutListBytes s.saw)

/-! ## Starting, stopping, aborting, resetting (R157, R170, R171, R174) -/

/-- The GUARD or the ESTOP latch is set (R157, R174). -/
def State.sawLatched (s : State) : Bool := s.inu.guardLatch || s.inu.estopLatch

/-- SAW_START (R157). -/
def execSawStart (s : State) : Out :=
  s.request fun s =>
    if s.sawSlot.isNone then refuse s .noSuch
    else if s.saw.cuts.isEmpty ∨ s.saw.st ≠ .idle then refuse s .wrongState
    else if s.sawLatched then refuse s .latched
    else accepted (((s.onSaw fun w => { w with stopFlag := false }).enterSaw .claiming).sawWant true)

/-- SAW_STOP (R170). -/
def execSawStop (s : State) : Out :=
  s.request fun s =>
    if s.saw.st = .idle ∨ s.saw.st = .fault then refuse s .wrongState
    else done (s.onSaw fun w => { w with stopFlag := true }) []

/-- The first four steps of an abort (R171). -/
def State.abortWork (s : State) : State :=
  (((s.onSaw Saw.stopMotion).clearCutWanted).onSaw Saw.dropPhase).sawWant false

/-- An abort taken; the answer says whether a return follows (R171; log 26). -/
def State.abortSaw (s : State) : State × Answer :=
  let s := s.abortWork
  if s.atHome then done (s.afterReturn .abort) [] else accepted (s.enterReturning .abort)

/-- SAW_ABORT (R171). -/
def execSawAbort (s : State) : Out :=
  s.request fun s =>
    match s.saw.st with
    | .idle | .fault => refuse s .wrongState
    | .releasing => done s []
    | .returning => if s.saw.aborting then done s [] else s.abortSaw
    | .claiming | .spinup | .setting | .feedWait | .feeding | .halted => s.abortSaw

/-- The saw record is GRANTED, LIVE or RELEASING (R174). -/
def State.sawSwitched (s : State) : Bool :=
  match s.sawRecord with
  | some r => r.state == .granted || r.state == .live || r.isReleasing
  | none => false

/-- SAW_RESET (R174). -/
def execSawReset (s : State) : Out :=
  s.request fun s =>
    if s.saw.st ≠ .fault then refuse s .wrongState
    else if s.sawLatched then refuse s .latched
    else if s.sawSwitched then refuse s .wrongState
    else done ((s.enterSaw .idle).onSaw fun w => { w with stopFlag := false }) []

/-- SAW_STATUS (R175). -/
def execSawStatus (s : State) : Out :=
  s.request fun s => done s (sawStatusBytes s.saw s.inu (s.param .encPerMm))

/-! ## Timers and steps -/

/-- The spin-up timer runs out (R158). -/
def execSpinupTimerExpiry (s : State) : Out :=
  s.event fun s => if s.saw.spinTimer.isSome ∧ s.saw.st = .spinup then s.spunUp else s

/-- A setworks step issued; the last one ends the MOVE stage (R159). -/
def State.setworksStep (s : State) (k : SettingRec) : State :=
  let s := s.onSaw fun w => { w with setting := some { k with remaining := k.remaining - 1 } }
  if k.remaining ≤ 1 then s.beginSetWait
  else s.onSaw fun w => { w with setworks := .stepping true setworksRate (stepInterval setworksRate) }

/-- A setworks step (R159). -/
def execSetworksStep (s : State) : Out :=
  s.event fun s =>
    match s.saw.setworks, s.saw.setting with
    | .stepping _ _ _, some k => if s.saw.st = .setting ∧ k.stage = .move then s.setworksStep k else s
    | _, _ => s

/-- The setworks wait timer runs out (R159). -/
def execSetworksWaitExpiry (s : State) : Out :=
  s.event fun s => if s.saw.waitTimer.isSome ∧ s.inSetWait then s.sawFault .setTimeout else s

/-- The settle timer runs out (R159). -/
def execSettleTimerExpiry (s : State) : Out :=
  s.event fun s =>
    if s.saw.settleTimer.isSome ∧ s.saw.st = .setting then
      (s.onSaw fun w => { w with settleTimer := none }).enterFeedWait
    else s

/-- A forward feed step issued: steps done raised, a new rate taken, the stroke ended at its count (R161, R163). -/
def State.feedStep (s : State) (k : StrokeRec) : State :=
  let s := s.onSaw fun w =>
    { w with stroke := some { k with done := k.done + 1 }, feed := .stepping true w.feedRate (stepInterval w.feedRate) }
  if k.steps ≤ k.done + 1 then s.strokeEnd else s

/-- A forward feed step: only in FEEDING with the saw record LIVE and untrimmed (R161). -/
def execFeedStep (s : State) : Out :=
  s.event fun s =>
    match s.saw.feed, s.saw.stroke with
    | .stepping _ _ _, some k => if s.saw.st = .feeding ∧ s.sawCutting then s.feedStep k else s
    | _, _ => s

/-- A reverse feed step issued: steps issued raised, a fault at the allowance (R164). -/
def State.returnStep (s : State) (k : ReturnRec) : State :=
  let s := s.onSaw fun w =>
    { w with ret := some { k with issued := k.issued + 1 }
             feed := .stepping false w.feedRate (stepInterval w.feedRate) }
  if k.allowance ≤ k.issued + 1 then s.sawFault .noHome else s

/-- A reverse feed step (R164). -/
def execReturnStep (s : State) : Out :=
  s.event fun s =>
    match s.saw.feed, s.saw.ret with
    | .stepping _ _ _, some k => if s.saw.st = .returning then s.returnStep k else s
    | _, _ => s

/-! ## The clutch waits (R23, R24) -/

/-- The engagement wait times out (R23, R172). -/
def execClutchEngageTimeout (s : State) : Out :=
  s.event fun s =>
    match s.alt.wait with
    | some (.engage _) => s.clutchFails
    | some (.release _) | none => s

/-- The release wait times out (R24, R172). -/
def execClutchReleaseTimeout (s : State) : Out :=
  s.event fun s =>
    match s.alt.wait with
    | some (.release _) => s.clutchSticks
    | some (.engage _) | none => s

end Sys2Proof.Machine
end

