-- ==== Sys2Proof/Machine/Dispatch.lean ====
section
/-! DEFINITION. The effect of each command on everything but the queue: one arm per row of the table. -/

namespace Sys2Proof.Machine

/-- The command's effect. -/
def exec (i : Instr) (s : State) : Host.Outcome State Fault Refusal :=
  match i with
  | .powerOnReset => Sys2Proof.Machine.execPowerOnReset s
  | .pinReset => Sys2Proof.Machine.execPinReset s
  | .writeFrameDiscarded frame => Sys2Proof.Machine.execWriteFrameDiscarded frame s
  | .requestDecodeFail frame => Sys2Proof.Machine.execRequestDecodeFail frame s
  | .post kind target claim idle priority quota tag locked => Sys2Proof.Machine.execPost kind target claim idle priority quota tag locked s
  | .amend slot flags claim idle priority quota locked tag => Sys2Proof.Machine.execAmend slot flags claim idle priority quota locked tag s
  | .retire slot => Sys2Proof.Machine.execRetire slot s
  | .lookup slot => Sys2Proof.Machine.execLookup slot s
  | .find target => Sys2Proof.Machine.execFind target s
  | .findTag tag => Sys2Proof.Machine.execFindTag tag s
  | .walkFrom slot => Sys2Proof.Machine.execWalkFrom slot s
  | .walkNext => Sys2Proof.Machine.execWalkNext s
  | .want slot => Sys2Proof.Machine.execWant slot s
  | .drop slot => Sys2Proof.Machine.execDrop slot s
  | .hold slot => Sys2Proof.Machine.execHold slot s
  | .free slot => Sys2Proof.Machine.execFree slot s
  | .nextChanged => Sys2Proof.Machine.execNextChanged s
  | .dayTurn => Sys2Proof.Machine.execDayTurn s
  | .start => Sys2Proof.Machine.execStart s
  | .stop => Sys2Proof.Machine.execStop s
  | .clearTrip => Sys2Proof.Machine.execClearTrip s
  | .gateHome => Sys2Proof.Machine.execGateHome s
  | .govStatus => Sys2Proof.Machine.execGovStatus s
  | .inputSetup channel polarity filter => Sys2Proof.Machine.execInputSetup channel polarity filter s
  | .inputRead => Sys2Proof.Machine.execInputRead s
  | .inputClear channel => Sys2Proof.Machine.execInputClear channel s
  | .enrol => Sys2Proof.Machine.execEnrol s
  | .adopt identity => Sys2Proof.Machine.execAdopt identity s
  | .dropUnit index => Sys2Proof.Machine.execDropUnit index s
  | .unitInfo index => Sys2Proof.Machine.execUnitInfo index s
  | .takeFound => Sys2Proof.Machine.execTakeFound s
  | .cutAdd thickness stroke ceiling => Sys2Proof.Machine.execCutAdd thickness stroke ceiling s
  | .cutClear => Sys2Proof.Machine.execCutClear s
  | .cutList => Sys2Proof.Machine.execCutList s
  | .sawStart => Sys2Proof.Machine.execSawStart s
  | .sawStop => Sys2Proof.Machine.execSawStop s
  | .sawAbort => Sys2Proof.Machine.execSawAbort s
  | .sawReset => Sys2Proof.Machine.execSawReset s
  | .sawStatus => Sys2Proof.Machine.execSawStatus s
  | .setParam number value => Sys2Proof.Machine.execSetParam number value s
  | .getParam number => Sys2Proof.Machine.execGetParam number s
  | .attnMaskSet causes => Sys2Proof.Machine.execAttnMaskSet causes s
  | .attnMaskClear causes => Sys2Proof.Machine.execAttnMaskClear causes s
  | .attnRead => Sys2Proof.Machine.execAttnRead s
  | .attnAck causes => Sys2Proof.Machine.execAttnAck causes s
  | .restart => Sys2Proof.Machine.execRestart s
  | .identify => Sys2Proof.Machine.execIdentify s
  | .inputRawChange channel high => Sys2Proof.Machine.execInputRawChange channel high s
  | .debounceAccept channel => Sys2Proof.Machine.execDebounceAccept channel s
  | .tachLossTimer => Sys2Proof.Machine.execTachLossTimer s
  | .holdTimerExpiry => Sys2Proof.Machine.execHoldTimerExpiry s
  | .gateStepTimer => Sys2Proof.Machine.execGateStepTimer s
  | .runupTimerExpiry => Sys2Proof.Machine.execRunupTimerExpiry s
  | .trimTimerExpiry => Sys2Proof.Machine.execTrimTimerExpiry s
  | .clutchEngageTimeout => Sys2Proof.Machine.execClutchEngageTimeout s
  | .clutchReleaseTimeout => Sys2Proof.Machine.execClutchReleaseTimeout s
  | .spinupTimerExpiry => Sys2Proof.Machine.execSpinupTimerExpiry s
  | .setworksStep => Sys2Proof.Machine.execSetworksStep s
  | .setworksWaitExpiry => Sys2Proof.Machine.execSetworksWaitExpiry s
  | .settleTimerExpiry => Sys2Proof.Machine.execSettleTimerExpiry s
  | .feedStep => Sys2Proof.Machine.execFeedStep s
  | .returnStep => Sys2Proof.Machine.execReturnStep s
  | .encoderChange a b z => Sys2Proof.Machine.execEncoderChange a b z s
  | .pollTimerExpiry => Sys2Proof.Machine.execPollTimerExpiry s
  | .sweepTimerExpiry => Sys2Proof.Machine.execSweepTimerExpiry s
  | .noPresence => Sys2Proof.Machine.execNoPresence s
  | .broadcastEnd => Sys2Proof.Machine.execBroadcastEnd s
  | .readStatusReply reply => Sys2Proof.Machine.execReadStatusReply reply s
  | .setOutletsReply reply => Sys2Proof.Machine.execSetOutletsReply reply s
  | .ackDemandReply reply => Sys2Proof.Machine.execAckDemandReply reply s
  | .readPlateReply reply => Sys2Proof.Machine.execReadPlateReply reply s
  | .seekEnd readings => Sys2Proof.Machine.execSeekEnd readings s
  | .requestActEnd => Sys2Proof.Machine.execRequestActEnd s
  | .resetEnd portSel addr0 => Sys2Proof.Machine.execResetEnd portSel addr0 s
  | .ballastPwmPeriod => Sys2Proof.Machine.execBallastPwmPeriod s

end Sys2Proof.Machine
end

