-- ==== Sys2Proof/Machine/Tick.lean ====
section
/-! DEFINITION. What the part does by itself when no command waits: the first event that its clocks make due, or one
microsecond of time (logs 1, 2). -/

namespace Sys2Proof.Machine

/-- A running timer has run out. -/
def ranOut (t : Timer) : Bool := t == some 0

/-- A command that is due under a condition. -/
def dueWhen (due : Bool) (c : Instr) : List Instr := if due then [c] else []

/-- A stepper's next step is due. -/
def Stepper.due : Stepper → Bool
  | .idle => false
  | .stepping _ _ left => left == 0

/-- The clutch timeout that is due (R23, R24). -/
def clutchDue : Option ClutchWait → List Instr
  | some (.engage left) => dueWhen (left == 0) .clutchEngageTimeout
  | some (.release left) => dueWhen (left == 0) .clutchReleaseTimeout
  | none => []

/-- The feed step that is due: forward in FEEDING, in reverse else (R161, R164). -/
def feedDue : Stepper → List Instr
  | .stepping true _ left => dueWhen (left == 0) .feedStep
  | .stepping false _ left => dueWhen (left == 0) .returnStep
  | .idle => []

/-- The events that the clocks have made due, in the order they are taken (log 2). -/
def State.dueList (s : State) : List Instr :=
  dueWhen s.rqp.exec.isSome .requestActEnd ++
  ((allChannels.filter fun c => (s.chan c).ripe s.now).map .debounceAccept) ++
  dueWhen (ranOut s.inu.lossTimer) .tachLossTimer ++ dueWhen (ranOut s.gov.holdTimer) .holdTimerExpiry ++
  dueWhen (ranOut s.gov.stepTimer) .gateStepTimer ++ dueWhen (ranOut s.gov.runupTimer) .runupTimerExpiry ++
  dueWhen (ranOut s.gov.trimTimer) .trimTimerExpiry ++ clutchDue s.alt.wait ++
  dueWhen (ranOut s.saw.spinTimer) .spinupTimerExpiry ++ dueWhen s.saw.setworks.due .setworksStep ++
  dueWhen (ranOut s.saw.waitTimer) .setworksWaitExpiry ++ dueWhen (ranOut s.saw.settleTimer) .settleTimerExpiry ++
  feedDue s.saw.feed ++ dueWhen (ranOut s.flc.pollTimer) .pollTimerExpiry ++
  dueWhen (ranOut s.flc.sweepTimer) .sweepTimerExpiry ++ dueWhen (ranOut s.gov.pwmTimer) .ballastPwmPeriod

/-- The first event that is due; while a reset lasts no clock runs but the timebase (R190; log 6). -/
def State.due (s : State) : Option Instr := if s.inReset then none else s.dueList.head?

/-- One microsecond less on a timer. -/
def countDown (t : Timer) : Timer := t.map fun n => n - 1

/-- One microsecond less on a stepper's next step. -/
def Stepper.countDown : Stepper → Stepper
  | .idle => .idle
  | .stepping forward rate left => .stepping forward rate (left - 1)

/-- One microsecond less on a clutch wait. -/
def ClutchWait.countDown : ClutchWait → ClutchWait
  | .engage left => .engage (left - 1)
  | .release left => .release (left - 1)

/-- INU one microsecond on. -/
def Inu.countDown (u : Inu) : Inu := { u with lossTimer := Machine.countDown u.lossTimer }

/-- GOV one microsecond on. -/
def Gov.countDown (g : Gov) : Gov :=
  { g with
    holdTimer := Machine.countDown g.holdTimer, stepTimer := Machine.countDown g.stepTimer
    runupTimer := Machine.countDown g.runupTimer, trimTimer := Machine.countDown g.trimTimer
    pwmTimer := Machine.countDown g.pwmTimer }

/-- ALT one microsecond on. -/
def Alt.countDown (a : Alt) : Alt := { a with wait := a.wait.map ClutchWait.countDown }

/-- The phases of a transaction in their order (Table 7-2). -/
def Transaction.phases : Transaction → List LinePhase
  | .broadcast _ => [.presence, .selector, .blocks]
  | .visit _ => [.presence, .selector, .identity, .blocks]
  | .seek _ _ => [.presence, .selector, .seek]

/-- The phase that follows one in an order, the last one itself (R117). -/
def phaseAfter : List LinePhase → LinePhase → LinePhase
  | p :: q :: rest, x => if x = p then q else phaseAfter (q :: rest) x
  | _, x => x

/-- A phase one microsecond on: the next one begins when its time has passed (R117; log 38). -/
def PhaseReached.countDown (order : List LinePhase) (p : PhaseReached) : PhaseReached :=
  match p.left with
  | none => p
  | some n => if n ≤ 1 then .begin (phaseAfter order p.phase) else { p with left := some (n - 1) }

/-- A transaction one microsecond on. -/
def Transaction.countDown (x : Transaction) : Transaction :=
  match x with
  | .broadcast p => .broadcast (p.countDown x.phases)
  | .visit v => .visit { v with phase := v.phase.countDown x.phases }
  | .seek owner p => .seek owner (p.countDown x.phases)

/-- FLC one microsecond on. -/
def Flc.countDown (f : Flc) : Flc :=
  { f with
    pollTimer := Machine.countDown f.pollTimer, sweepTimer := Machine.countDown f.sweepTimer
    tx := f.tx.map Transaction.countDown }

/-- SAW one microsecond on. -/
def Saw.countDown (w : Saw) : Saw :=
  { w with
    spinTimer := Machine.countDown w.spinTimer, waitTimer := Machine.countDown w.waitTimer
    settleTimer := Machine.countDown w.settleTimer, feed := w.feed.countDown, setworks := w.setworks.countDown }

/-- One microsecond passes; in reset the timebase alone moves. -/
def State.tick (s : State) : State :=
  if s.inReset then { s with now := s.now + 1 }
  else
    { s with
      now := s.now + 1, inu := s.inu.countDown, gov := s.gov.countDown, alt := s.alt.countDown
      flc := s.flc.countDown, saw := s.saw.countDown }

/-- What the part does when no command waits (log 2). -/
def State.idleStep (s : State) : Host.Outcome State Fault Refusal :=
  match s.due with
  | some c => exec c s
  | none => .next s.tick

end Sys2Proof.Machine
end

