-- ==== Sys2Proof/Machine/OutletUnit.lean ====
section
/-! DEFINITION. The field line's wire side: the slots FLC begins and the bytes in them (R116, R117, R119, R120, R123, R126),
the reset pulse and what FLC makes of the line after it (R118), and the outlet unit it expects at the other end (R129). The table's rows begin above the wire, with what a block's read
slots gave: no command reads this file's definitions (spec/00_scope.md; log 23). -/

namespace Sys2Proof.Machine

/-! ## Slots (R116, Table 7-1) -/

/-- The kinds of a slot. -/
inductive LineSlot where
  | write1 | write0 | read
deriving DecidableEq, Repr

/-- How long FLC pulls the line low at the slot's beginning, nominally, in microseconds. -/
def LineSlot.pull : LineSlot → Nat
  | .write1 | .read => 50
  | .write0 => 400

/-- When the value of a slot is taken, nominally, in microseconds from its beginning. -/
def sampleTime : Nat := 150

/-- The line at the sample point: high unless FLC still pulls or a unit holds it low by sending 0. -/
def LineSlot.high (slot : LineSlot) (sent : List Bool) : Bool := slot.pull < sampleTime && sent.all id

/-- The value every unit listening takes from a write slot. -/
def LineSlot.taken (slot : LineSlot) : Bool := slot.high []

/-- What the value of a read slot is: any unit sending 0 makes it 0, and with none driving it reads 1. -/
def readSlot (sent : List Bool) : Bool := LineSlot.read.high sent

/-- The write slot of a bit. -/
def writeSlot (bit : Bool) : LineSlot := if bit then .write1 else .write0

/-- The write slots of a run of bytes, each most significant bit first. -/
def writeSlots (bytes : List Byte) : List LineSlot := (bitsOf bytes).map writeSlot

/-- The bytes a unit takes from write slots. -/
def takenBytes (slots : List LineSlot) : List Byte := bytesOf slots.length (slots.map LineSlot.taken)

/-- The bytes FLC reads in the read slots of `n` bytes, with what each unit sends; a unit that has no bit left to send
leaves the line released. -/
def readBytes (n : Nat) (sent : List (List Byte)) : List Byte :=
  bytesOf n ((List.range (8 * n)).map fun j => readSlot (sent.map fun bytes => (bitsOf bytes).getD j true))

/-! ## What FLC sends -/

/-- The bytes that open a transaction, after the reset pulse (R117, R119). -/
def openingBytes : Transaction → List Byte
  | .broadcast _ => [Selector.allUnits.code]
  | .visit v => Selector.oneUnit.code :: identityBytes v.identity
  | .seek .enrolment _ => [Selector.seekAll.code]
  | .seek .sweep _ => [Selector.seekAsking.code]

/-- The slots of the selector and identity phases (Table 7-2). -/
def openingSlots (x : Transaction) : List LineSlot := writeSlots (openingBytes x)

/-- The continuation flag of a visit's block (R146). -/
def Visit.continues (v : Visit) : Bool :=
  match v.block with
  | .readPlate | .readStatus => true
  | .setOutlets _ => v.asked
  | .ackDemand => false

/-- The bytes of a visit's block in progress: its function byte and its data out (R120, R123, R146). -/
def Visit.blockBytes (v : Visit) : List Byte :=
  functionByte v.continues v.block ::
    match v.block with
    | .setOutlets desired => outletsOut desired
    | .readPlate | .readStatus | .ackDemand => []

/-- The bytes of a block's reply (Table 11-9). -/
def Block.replyBytes : Block → Nat
  | .readPlate => 16
  | .readStatus => 11
  | .setOutlets _ | .ackDemand => 2

/-- The slots of a visit's block: the function byte, the data out, and the reply read (R120, Table 7-2). -/
def Visit.blockSlots (v : Visit) : List LineSlot :=
  writeSlots v.blockBytes ++ List.replicate (8 * v.block.replyBytes) .read

/-- The one block of the broadcast: SET_OUTLETS with every outlet open, the flag clear (R126). -/
def broadcastBytes : List Byte := functionByte false (.setOutlets 0) :: outletsOut 0

/-- The slots of the broadcast's block, none of them a read slot (R126). -/
def broadcastSlots : List LineSlot := writeSlots broadcastBytes

/-! ## Reset and presence (R118) -/

/-- FLC holds the line low: the reset pulse, the first part of the phase; through the window the line is released. -/
def PhaseReached.pulls (p : PhaseReached) : Bool :=
  p.phase == .presence && p.left.any fun n => windowSlots * slotTime < n

/-- What the line shows FLC from the release of the reset pulse on. -/
inductive Presence where
  /-- Not high within one slot time of the release: held low from outside. -/
  | heldLow
  /-- Back high, and low again at a sample in the window. -/
  | shown
  /-- Back high, and high through the window. -/
  | absent
deriving DecidableEq, Repr

/-- What FLC makes of the line from the release of the reset pulse, of which the level is given at `n` moments in each slot
time. The low of the pulse itself, before the line's first return to high, shows no presence (log 45). -/
def presenceOf (n : Nat) (levels : List Bool) : Presence :=
  if (levels.take n).any id then
    if ((levels.take (windowSlots * n)).dropWhile (! ·)).all id then .absent else .shown
  else .heldLow

/-- The slots that follow: the selector phase's and the identity's where presence is shown, else no further slot. -/
def Transaction.slotsAfterReset (x : Transaction) : Presence → List LineSlot
  | .shown => openingSlots x
  | .heldLow | .absent => []

/-- The table's row that a reset without presence brings: the transaction ends NO_PRESENCE. -/
def Presence.command : Presence → Option Instr
  | .shown => none
  | .heldLow | .absent => some .noPresence

/-- A stretch in which one party holds the line low, in moments from the release of the reset pulse. -/
structure Hold where
  first : Nat
  length : Nat
deriving DecidableEq, Repr

/-- The stretch holds the line at a moment. -/
def Hold.low (h : Hold) (moment : Nat) : Bool := h.first ≤ moment && moment < h.first + h.length

/-- A unit's answer lies within the window, after the line's return to high (R118). -/
def Hold.inWindow (n : Nat) (h : Hold) : Bool := 0 < h.first && 0 < h.length && h.first + h.length ≤ windowSlots * n

/-- The line through the window, at `n` moments in each slot time: high where no party holds it (R116). -/
def levelsAfterRelease (n : Nat) (holds : List Hold) : List Bool :=
  (List.range (windowSlots * n)).map fun moment => holds.all fun h => !h.low moment

/-! ## The outlet unit (R129) -/

/-- The line state of a unit (R129). -/
inductive LineState where
  | waiting
  /-- Selected, by ALL_UNITS or by ONE_UNIT with its identity; under ALL_UNITS a unit sends no reply (R126). -/
  | selected (broadcast : Bool)
  | inSeek | out
deriving DecidableEq, Repr

/-- An outlet unit. -/
structure OutletUnit where
  identity : Identity
  maker : Byte
  /-- One to four outlets. -/
  count : Nat
  ratings : Vector Half Config.outlets
  line : LineState
  /-- Bit n set for outlet n closed. -/
  closed : BitVec 4
  demand : BitVec 4
  asking : Bool
  rebooted : Bool
  fault : Bool
  meters : Vector Half Config.outlets
  /-- The outlets that the unit's protection allows to close. -/
  allowed : BitVec 4
  /-- The asking and rebooted flags as the latest READ_STATUS reply of this selection gave them (R124). -/
  shown : Option (Bool × Bool)
  /-- A demand switch has been operated since that reply was sent (R124). -/
  again : Bool
deriving DecidableEq, Repr

/-- The unit powers up: outlets open, rebooted set, asking clear, counts 0, out of the line's talk. That its demand bits
and its unit fault flag are as they were is the model's choice (log 41). -/
def OutletUnit.powerUp (k : OutletUnit) : OutletUnit :=
  { k with
    line := .out, closed := 0, asking := false, rebooted := true, meters := Vector.replicate Config.outlets 0
    shown := none, again := false }

/-- The unit sees a reset pulse (R118). -/
def OutletUnit.resetPulse (k : OutletUnit) : OutletUnit := { k with line := .waiting, shown := none, again := false }

/-- A unit that waits for a selector answers the reset pulse by holding the line low, in the stretch given: the spec does
not say when within the window (R118; log 45). -/
def OutletUnit.presence (k : OutletUnit) (stretch : Hold) : Option Hold :=
  if k.line = .waiting then some stretch else none

/-- The reset pulse and the presence window over the units on the line, each with the stretch of its answer, and whatever
else holds the line: the units after the pulse, and what FLC makes of the line (R118). -/
def resetAndPresence (n : Nat) (units : List (OutletUnit × Hold)) (others : List Hold) : List OutletUnit × Presence :=
  let after := units.map fun (k, h) => (k.resetPulse, h)
  (after.map Prod.fst, presenceOf n (levelsAfterRelease n (after.filterMap (fun (k, h) => k.presence h) ++ others)))

/-- The unit takes a selector byte, with the identity that follows ONE_UNIT; a byte it does not recognize leaves it out
(R119). -/
def OutletUnit.select (k : OutletUnit) (selector : Byte) (address : Identity) : OutletUnit :=
  if k.line = .waiting then
    match Selector.ofByte selector with
    | some .allUnits => { k with line := .selected true }
    | some .oneUnit => { k with line := if address = k.identity then .selected false else .out }
    | some .seekAll => { k with line := .inSeek }
    | some .seekAsking => { k with line := if k.asking then .inSeek else .out }
    | none => { k with line := .out }
  else k

/-- The consumer operates a demand switch. -/
def OutletUnit.operate (k : OutletUnit) (o : Outlet) (on : Bool) : OutletUnit :=
  { k with
    asking := true, again := true
    demand := if on then k.demand ||| BitVec.twoPow 4 o.val else k.demand &&& ~~~(BitVec.twoPow 4 o.val) }

/-- The unit's own protection opens an outlet. -/
def OutletUnit.trip (k : OutletUnit) (o : Outlet) : OutletUnit :=
  { k with closed := k.closed &&& ~~~(BitVec.twoPow 4 o.val) }

/-- One watt-hour passes through an outlet. -/
def OutletUnit.meterPulse (k : OutletUnit) (o : Outlet) : OutletUnit :=
  { k with meters := k.meters.set o (k.meters.get o + 1) }

/-- A reply with its check byte (R121). -/
def withCheck (bytes : List Byte) : List Byte := bytes ++ [crc8 bytes]

/-- The READ_STATUS reply (R122, Table 11-9). Bits 3 to 7 of byte 1, which the table does not assign, are sent as 0: the
model's choice (log 42). -/
def OutletUnit.statusReply (k : OutletUnit) : List Byte :=
  withCheck ((k.demand ++ k.closed) :: flagsByte [k.asking, k.fault, k.rebooted] ::
    k.meters.toList.flatMap fun c => beBytes 2 c.toNat)

/-- The READ_PLATE reply (R125, Table 11-9). -/
def OutletUnit.plateReply (k : OutletUnit) : List Byte :=
  withCheck ([0x42, 0x4B, 1, k.maker, kindCode k.identity, BitVec.ofNat 8 k.count] ++
    (k.ratings.toList.flatMap fun r => beBytes 2 r.toNat) ++ [16])

/-- The outlets set by SET_OUTLETS data; a wrong complement is ignored (R123). -/
def OutletUnit.setOutlets (k : OutletUnit) (first second : Byte) : OutletUnit :=
  if second = ~~~first then
    { k with closed := first.extractLsb' 0 4 &&& outletMask k.count &&& (k.closed ||| k.allowed) }
  else k

/-- The unit clears the flags its latest READ_STATUS reply of this selection showed set, or without one all that stand
set; asking stays when a switch has been operated since that reply (R124). The bits of the reply that Table 11-9 does not
assign (1 and 3 to 7) are sent as 0: the model's choice (log 42). -/
def OutletUnit.ackDemand (k : OutletUnit) : OutletUnit × List Byte :=
  let (asking, rebooted) := k.shown.getD (k.asking, k.rebooted)
  let since := k.shown.isSome && k.again
  ({ k with asking := k.asking && (!asking || since), rebooted := k.rebooted && !rebooted },
    withCheck [flagsByte [asking, false, rebooted]])

/-- What a selected unit makes of a function code and the data out as received, with its reply; `none` for a code it does
not recognize (R120, R122 to R125). Bits 4 to 7 of the SET_OUTLETS reply, which Table 11-9 does not assign, are sent as 0:
the model's choice (log 42). -/
def OutletUnit.perform (k : OutletUnit) (code : Byte) (data : List Byte) : Option (OutletUnit × List Byte) :=
  if code = Block.readStatus.function then
    some ({ k with shown := some (k.asking, k.rebooted), again := false }, k.statusReply)
  else if code = (Block.setOutlets 0).function then
    let k := k.setOutlets (byteAt data 0) (byteAt data 1)
    some (k, withCheck [(0 : BitVec 4) ++ k.closed])
  else if code = Block.ackDemand.function then some k.ackDemand
  else if code = Block.readPlate.function then some (k, k.plateReply)
  else none

/-- A block at a unit, from the bytes received: its function byte and its data out. Without the continuation flag, or
after a code it does not recognize, the unit is out; one selected by ALL_UNITS sends no reply, one that is not selected is
silent (R120, R126, R129). -/
def OutletUnit.block (k : OutletUnit) (bytes : List Byte) : OutletUnit × List Byte :=
  match k.line with
  | .selected broadcast =>
    let function := byteAt bytes 0
    match k.perform (function &&& 0x7F) (bytes.drop 1) with
    | some (k, reply) =>
      ({ k with line := if function.getLsbD 7 then .selected broadcast else .out }, if broadcast then [] else reply)
    | none => ({ k with line := .out }, [])
  | .waiting | .inSeek | .out => (k, [])

/-- A unit in seek drops out where its bit differs from the bit sent, and is out at the end of the last position (R129,
R130). -/
def OutletUnit.seekBit (k : OutletUnit) (pos : Nat) (bit : Bool) : OutletUnit :=
  if k.line = .inSeek ∧ (identityBit k.identity pos ≠ bit ∨ pos = 39) then { k with line := .out } else k

/-! ## A seek over identities (R130) -/

/-- The pair of readings that the identities still in the seek give at a position (R116, R130). -/
def readingOf (present : List Identity) (pos : Nat) : Reading :=
  ⟨readSlot (present.map fun x => identityBit x pos), readSlot (present.map fun x => !identityBit x pos)⟩

/-- The bit FLC sends for a pair of readings (Table 7-6). -/
def sentBit (k : Series) (pos : Nat) (r : Reading) : Bool :=
  if r.bit = false ∧ r.complement = false then forkBit k pos else r.bit

/-- The slots of a bit position: two reads and, unless no unit is in the seek, the write of the bit chosen (R130). -/
def positionSlots (k : Series) (pos : Nat) (r : Reading) : List LineSlot :=
  if r.bit && r.complement then [.read, .read] else [.read, .read, writeSlot (sentBit k pos r)]

/-- The readings of a seek over a set of identities, from a position on (R130). -/
def lineReadings (k : Series) : Nat → Nat → List Identity → List Reading
  | 0, _, _ => []
  | left + 1, pos, present =>
    let r := readingOf present pos
    if r.bit && r.complement then [r]
    else
      let bit := sentBit k pos r
      r :: lineReadings k left (pos + 1) (present.filter fun x => identityBit x pos == bit)

/-- A seek of a series over the identities taking part (R130 to R132). -/
def seekOver (k : Series) (present : List Identity) : SeekOutcome := seek k (lineReadings k 40 0 present)

/-- The identities a series finds in at most `n` seeks over the same identities (R133). -/
def seriesOver (present : List Identity) : Nat → Series → List Identity
  | 0, _ => []
  | n + 1, k =>
    match seekOver k present with
    | .ok x (some fork) => x :: seriesOver present n (k.after (.ok x (some fork)))
    | .ok x none => [x]
    | .noPresence | .none | .lineError => []

end Sys2Proof.Machine
end

