-- ==== Sys2Proof/Safety.lean ====
section
/-! DEFINITION. What the rules say always holds: the standing properties that claims about the machine use. -/

namespace Sys2Proof.Machine

/-! ## The port (R181, R184) -/

/-- The part runs and no request is in execution: the next request is accepted (R181). -/
abbrev State.Ready (s : State) : Prop := s.inReset = false ∧ s.rqp.exec = none

/-- The state with a request's answer in execution, READY and OVERRUN clear (R181). -/
def State.answered (s : State) (code : ResultCode) (payload : List Byte) : State :=
  { s with rqp := { s.rqp with overrun := false, exec := some ⟨code, payload⟩ } }

/-- The command is a request of the host. -/
def isRequest (c : Instr) : Bool := (requestBytes c).isSome

/-! ## Parameters (R185, R186) -/

/-- Every parameter lies within its range (R185). -/
def Params.inRange (v : Params) : Prop := ∀ p : Param, p.range.1 ≤ v.get p ∧ v.get p ≤ p.range.2

/-- The three cross-limits (R186). -/
def Params.crossLimits (v : Params) : Prop :=
  v.get .fSet + 100 ≤ v.get .fTrip ∧ v.get .fFloor + v.get .shedBand ≤ v.get .fSet ∧
  v.get .trimLowPct + 5 ≤ v.get .trimHighPct

/-- The parameters stand as R185 and R186 keep them. -/
def State.ParamsOk (s : State) : Prop := s.params.inRange ∧ s.params.crossLimits

/-! ## Governor (R70, R78, R92) -/

/-- The governor is in a state whose ballast duty is not forced to 1023 (R70). -/
def Gov.inControl (g : Gov) : Prop := g.st = .regulating ∨ g.st = .hold

/-- The accumulator lies within the bank, the ballast is full outside REGULATING and HOLD (R70). -/
def State.BallastOk (s : State) : Prop :=
  s.gov.bAcc ≤ 16 * s.param .bCap ∧ (¬ s.gov.inControl → s.gov.duty = 1023)

/-- No spare is offered outside REGULATING (R78). -/
def State.SpareOk (s : State) : Prop := s.gov.st ≠ .regulating → s.gov.spare = 0

/-- The gate position lies between 0 and gate_span (R92). -/
def State.GateOk (s : State) : Prop := s.gov.gatePos ≤ s.param .gateSpan

/-! ## Allotments (R3, R6, R38) -/

/-- A CRITICAL record has no quota and is never SHED or on its way to SHED (R3, R38). -/
def Allotment.critSafe (r : Allotment) : Prop :=
  r.kind = .critical →
    r.quota = 0 ∧ r.state ≠ .shed ∧ r.state ≠ .releasing .shed ∧
    r.state ≠ .held .quota ∧ r.state ≠ .releasing (.held .quota)

/-- No CRITICAL record is shed (R38). -/
def State.CriticalOk (s : State) : Prop := ∀ i r, s.record i = some r → r.critSafe

/-- No two records name the same target (R6). -/
def State.TargetsOk (s : State) : Prop :=
  ∀ i j r r', s.record i = some r → s.record j = some r' → r.target = r'.target → i = j

/-- The kind SAW goes with the clutch (1.1.4, R6). -/
def State.KindsOk (s : State) : Prop := ∀ i r, s.record i = some r → (r.kind = .saw ↔ r.target = .clutch)

/-- The strict slot, while present, holds a candidate (R47, R49). -/
def State.StrictOk (s : State) : Prop := ∀ i, s.alt.strict = some i → s.isCandidate i = true

/-- G_out is the sum of the shares of the GRANTED records (R27). -/
def State.GrantedOk (s : State) : Prop :=
  s.alt.gOut = ((List.finRange Config.slots).map fun i =>
    match s.record i with
    | some r => if r.state = .granted then r.share else 0
    | none => 0).sum

/-- No record with a spent quota rests PENDING, GRANTED or LIVE (R106, R111). -/
def State.SpentOk (s : State) : Prop :=
  ∀ i r, s.record i = some r → 0 < r.quota → r.quota ≤ r.used →
    r.state ≠ .pending ∧ r.state ≠ .granted ∧ r.state ≠ .live

/-! ## Switches and the feed (R20 to R24, R161) -/

/-- A relay output is closed exactly while a GRANTED or LIVE record names it (R20). -/
def State.RelaysOk (s : State) : Prop :=
  ∀ n, s.alt.relays.get n = true ↔ ∃ i r, s.record i = some r ∧ r.target = .relay n ∧ (r.state = .granted ∨ r.state = .live)

/-- The clutch output is engaged exactly while the saw record is GRANTED or LIVE; an engagement wait goes with GRANTED,
a release wait with RELEASING (R23, R24). -/
def State.ClutchOk (s : State) : Prop :=
  (s.alt.clutch = true ↔ ∃ i r, s.record i = some r ∧ r.target = .clutch ∧ (r.state = .granted ∨ r.state = .live)) ∧
  (∀ left, s.alt.wait = some (.engage left) →
    ∃ i r, s.record i = some r ∧ r.target = .clutch ∧ r.state = .granted) ∧
  (∀ left, s.alt.wait = some (.release left) →
    ∃ i r d, s.record i = some r ∧ r.target = .clutch ∧ r.state = .releasing d)

/-- The feed steps forward only in FEEDING, and the sequencer is in FEEDING only with the saw record LIVE and untrimmed
(R161). -/
def State.FeedOk (s : State) : Prop :=
  (∀ rate left, s.saw.feed = .stepping true rate left → s.saw.st = .feeding) ∧
  (s.saw.st = .feeding → ∃ i r, s.record i = some r ∧ r.kind = .saw ∧ r.state = .live ∧ r.trimmed = false)

/-- Every switch and the feed as their records say, over records that R6 allows. -/
def State.SwitchesOk (s : State) : Prop := s.TargetsOk ∧ s.KindsOk ∧ s.RelaysOk ∧ s.ClutchOk ∧ s.FeedOk

/-! ## Units and lists (R135, R139, R155) -/

/-- No two entries hold the same identity (R135). -/
def Flc.UnitsDistinct (f : Flc) : Prop :=
  ∀ u v e e', f.units.get u = some e → f.units.get v = some e' → e.identity = e'.identity → u = v

/-- The found list: at most 8 identities, ascending, none of them in the unit table (R139). -/
def Flc.FoundOk (f : Flc) : Prop :=
  f.found.length ≤ Config.foundPlaces ∧ f.found.Pairwise (fun x y => x.toNat < y.toNat) ∧
  ∀ u e, f.units.get u = some e → e.identity ∉ f.found

/-- The unit table and the found list as R135 and R139 keep them. -/
def State.IdentitiesOk (s : State) : Prop := s.flc.UnitsDistinct ∧ s.flc.FoundOk

/-- The cut list holds at most 16 orders (R155). -/
def State.CutsOk (s : State) : Prop := s.saw.cuts.length ≤ Config.cutOrders

end Sys2Proof.Machine
end

