-- ==== Sys2Proof/Certificates/Slice0/Obligations.lean ====
section
/-! DEFINITION. The statements for the provers. -/

open Sys2Proof Sys2Proof.Machine

/-! ## The queue and the port -/

/-- A command at the front of the queue is executed with the rest of the queue (the row's cut). -/
def Obligations.StepRunsTheFrontCommand : Prop :=
  ∀ (c : Instr) (rest : List Instr) (s : State), s.pending = c :: rest → step s = exec c { s with pending := rest }

/-- The model's choice (logs 1, 2): on an empty queue the first due event is executed, else one microsecond passes. A
command is due while its timer has run out, a candidate once the filter time of its channel's code has run (R53, Table 3-2),
the end of a request's act at once (log 19); the order among due commands is the model's (log 2). A microsecond counts down
every running timer, stepper and clutch wait, and the phase of a transaction at nominal slot times (R117, Table 7-2; log 38);
while a reset lasts it moves the moment alone (R190; log 6). -/
def Obligations.EmptyQueueRunsTheClocks : Prop :=
  (∀ s : State, s.pending = [] →
    (∀ c, s.due = some c → step s = exec c s) ∧ (s.due = none → step s = .next s.tick)) ∧
  (∀ s : State, s.inReset = true → s.due = none ∧ s.tick = { s with now := s.now + 1 }) ∧
  (∀ s : State, s.inReset = false →
    s.due = s.dueList.head? ∧
    s.dueList.Sublist ([.requestActEnd] ++
      [Channel.tach, .gateShut, .gateFull, .fwdLimit, .revLimit, .setDone, .clutchIn, .guard, .estop, .lowWater].map
        Instr.debounceAccept ++
      [.tachLossTimer, .holdTimerExpiry, .gateStepTimer, .runupTimerExpiry, .trimTimerExpiry, .clutchEngageTimeout,
        .clutchReleaseTimeout, .spinupTimerExpiry, .setworksStep, .setworksWaitExpiry, .settleTimerExpiry, .feedStep,
        .returnStep, .pollTimerExpiry, .sweepTimerExpiry, .ballastPwmPeriod]) ∧
    (.requestActEnd ∈ s.dueList ↔ s.rqp.exec ≠ none) ∧
    (∀ c, .debounceAccept c ∈ s.dueList ↔ ∃ began, (s.chan c).candidate = some began ∧
      began + (if (s.chan c).filter = 0 then 100 else if (s.chan c).filter = 1 then 1000
        else if (s.chan c).filter = 2 then 10000 else 50000) ≤ s.now) ∧
    (.tachLossTimer ∈ s.dueList ↔ s.inu.lossTimer = some 0) ∧ (.holdTimerExpiry ∈ s.dueList ↔ s.gov.holdTimer = some 0) ∧
    (.gateStepTimer ∈ s.dueList ↔ s.gov.stepTimer = some 0) ∧
    (.runupTimerExpiry ∈ s.dueList ↔ s.gov.runupTimer = some 0) ∧
    (.trimTimerExpiry ∈ s.dueList ↔ s.gov.trimTimer = some 0) ∧
    (.clutchEngageTimeout ∈ s.dueList ↔ s.alt.wait = some (.engage 0)) ∧
    (.clutchReleaseTimeout ∈ s.dueList ↔ s.alt.wait = some (.release 0)) ∧
    (.spinupTimerExpiry ∈ s.dueList ↔ s.saw.spinTimer = some 0) ∧
    (.setworksStep ∈ s.dueList ↔ ∃ fwd rate, s.saw.setworks = .stepping fwd rate 0) ∧
    (.setworksWaitExpiry ∈ s.dueList ↔ s.saw.waitTimer = some 0) ∧
    (.settleTimerExpiry ∈ s.dueList ↔ s.saw.settleTimer = some 0) ∧
    (.feedStep ∈ s.dueList ↔ ∃ rate, s.saw.feed = .stepping true rate 0) ∧
    (.returnStep ∈ s.dueList ↔ ∃ rate, s.saw.feed = .stepping false rate 0) ∧
    (.pollTimerExpiry ∈ s.dueList ↔ s.flc.pollTimer = some 0) ∧
    (.sweepTimerExpiry ∈ s.dueList ↔ s.flc.sweepTimer = some 0) ∧
    (.ballastPwmPeriod ∈ s.dueList ↔ s.gov.pwmTimer = some 0)) ∧
  (∀ (s t : State) (less : Timer → Timer) (step' : Stepper → Stepper), s.inReset = false → t = s.tick →
    (∀ n, less (some n) = some (n - 1)) → less none = none →
    (∀ fwd rate left, step' (.stepping fwd rate left) = .stepping fwd rate (left - 1)) → step' .idle = .idle →
    t = { s with
      now := s.now + 1
      inu := { s.inu with lossTimer := less s.inu.lossTimer }
      gov := { s.gov with
        holdTimer := less s.gov.holdTimer, stepTimer := less s.gov.stepTimer, runupTimer := less s.gov.runupTimer
        trimTimer := less s.gov.trimTimer, pwmTimer := less s.gov.pwmTimer }
      alt := { s.alt with wait := match s.alt.wait with
        | some (.engage left) => some (.engage (left - 1))
        | some (.release left) => some (.release (left - 1))
        | none => none }
      flc := { s.flc with
        pollTimer := less s.flc.pollTimer, sweepTimer := less s.flc.sweepTimer, tx := t.flc.tx }
      saw := { s.saw with
        spinTimer := less s.saw.spinTimer, waitTimer := less s.saw.waitTimer, settleTimer := less s.saw.settleTimer
        feed := step' s.saw.feed, setworks := step' s.saw.setworks } } ∧
    (s.flc.tx = none → t.flc.tx = none) ∧
    (∀ p, s.flc.tx = some (.broadcast p) → t.flc.tx = some (.broadcast (p.countDown [.presence, .selector, .blocks]))) ∧
    (∀ v, s.flc.tx = some (.visit v) → t.flc.tx = some (.visit { v with
      phase := v.phase.countDown [.presence, .selector, .identity, .blocks] })) ∧
    (∀ owner p, s.flc.tx = some (.seek owner p) →
      t.flc.tx = some (.seek owner (p.countDown [.presence, .selector, .seek])))) ∧
  (∀ (p : PhaseReached) (order : List LinePhase),
    (p.left = none → p.countDown order = p) ∧
    (∀ n, p.left = some (n + 2) → p.countDown order = { p with left := some (n + 1) }) ∧
    (∀ rest, p = ⟨.presence, some 1⟩ → p.countDown (.presence :: .selector :: rest) = ⟨.selector, some 4000⟩) ∧
    (p = ⟨.selector, some 1⟩ →
      p.countDown [.presence, .selector, .identity, .blocks] = ⟨.identity, some 20000⟩ ∧
      p.countDown [.presence, .selector, .blocks] = ⟨.blocks, none⟩ ∧
      p.countDown [.presence, .selector, .seek] = ⟨.seek, none⟩) ∧
    (p = ⟨.identity, some 1⟩ → p.countDown [.presence, .selector, .identity, .blocks] = ⟨.blocks, none⟩))

/-- R181, R183, R184: a request accepted clears READY and OVERRUN and leaves the stored result, the act's end stores its
answer and sets READY; a write frame that ends meanwhile is discarded and sets OVERRUN. -/
def Obligations.PortHoldsOneRequest : Prop :=
  (∀ (c : Instr) (s : State), s.Ready → isRequest c = true →
     ∃ t a, exec c s = .next t ∧ t.rqp.exec = some a ∧ t.rqp.overrun = false ∧ t.rqp.stored = s.rqp.stored ∧
       t.ready = false) ∧
  (∀ (s : State) (a : Answer), s.inReset = false → s.rqp.exec = some a →
     exec .requestActEnd s = .next { s with rqp := { s.rqp with stored := a, exec := none } }) ∧
  (∀ s : State, s.inReset = false → s.rqp.exec ≠ none →
     (∀ c, isRequest c = true → exec c s = .next { s with rqp := { s.rqp with overrun := true } }) ∧
     (∀ frame, isWriteFrame s.rqp.form frame = true →
       exec (.writeFrameDiscarded frame) s = .next { s with rqp := { s.rqp with overrun := true } }))

/-- R182: a frame that fails a decode check is an accepted request with that check's answer. -/
def Obligations.RefusedFramesAnswerByTheFirstCheck : Prop :=
  ∀ (s : State) (frame : List Byte), s.Ready → isWriteFrame s.rqp.form frame = true →
    (frame.length < 2 → exec (.requestDecodeFail frame) s = .next (s.answered .badLength [])) ∧
    (∀ code len params, frame = code :: len :: params → code ∉ requestCodes →
      exec (.requestDecodeFail frame) s = .next (s.answered .unknownRequest [])) ∧
    (∀ code len params, frame = code :: len :: params → code ∈ requestCodes →
      (32 < len.toNat ∨ len.toNat ≠ params.length ∨ decodeRequest code params = none) →
      exec (.requestDecodeFail frame) s = .next (s.answered .badLength []))

/-- R182: a refusal by the request's own rule changes no state besides the port's; only TAKE_FOUND's refusal carries a
payload (R139). -/
def Obligations.RefusalsChangeNothing : Prop :=
  ∀ (c : Instr) (s t : State) (a : Answer), s.Ready → isRequest c = true → exec c s = .next t →
    t.rqp.exec = some a → a.code.carriedOut = false →
    t = s.answered a.code a.payload ∧ (a.payload = [] ∨ c = .takeFound)

/-- Table 11-2, R194: the frame of every well-formed request decodes to that request, and a frame decodes to no request but
the well-formed one whose frame it is. -/
def Obligations.FramesAndRequestsCorrespond : Prop :=
  (∀ (i : Instr) (bytes : List Byte), i.wellFormed = true → encodeFrame i = some bytes → decodeFrame bytes = .ok i) ∧
  (∀ (bytes : List Byte) (i : Instr), decodeFrame bytes = .ok i → encodeFrame i = some bytes ∧ i.wellFormed = true)

/-! ## Resets -/

/-- R190 with R1, R30, R51, R56, R61, R62, R68, R92, R135, R139, R153: a power-on reset and a pin reset put every block at
its power-on values; R178, R190: while the reset lasts the part ignores the port, and when it ends the straps are sampled
and a channel whose pin reads active begins a candidate (R51). The moment that runs on through it is log 4's, the
gate direction output within Gov.reset log 5's, the phase of the PWM period within it log 30's. R140, R143: no series, NONE_YET
and the poll and sweep timers at their defaults. -/
def Obligations.HardResetRestoresEveryBlock : Prop :=
  (∀ s : State, exec .pinReset s = exec .powerOnReset s ∧ ∃ t, exec .powerOnReset s = .next t ∧
     t.inReset = true ∧ t.pending = s.pending ∧ t.params = Params.defaults ∧
     (∀ i, t.record i = none ∧ t.alt.changed.get i = false) ∧
     t.alt.gOut = 0 ∧ t.alt.walk = 0 ∧ (∀ n, t.alt.relays.get n = false) ∧ t.alt.clutch = false ∧ t.alt.wait = none ∧
     t.alt.lowCount = 0 ∧ t.alt.settle = 0 ∧ t.alt.holdOff = 0 ∧ t.alt.headroom = 0 ∧ t.alt.strict = none ∧
     (∀ c, (t.chan c).activeLow = false ∧ (t.chan c).level = false ∧ (t.chan c).candidate = none ∧
       (t.chan c).filter = (if c = .tach then 1 else 2)) ∧
     t.inu.estopLatch = false ∧ t.inu.guardLatch = false ∧ t.inu.lastStamp = none ∧ t.inu.lossTimer = none ∧
     t.inu.lastPeriod = 0 ∧ t.inu.count = 0 ∧ t.inu.homed = false ∧
     t.gov = Gov.reset ∧ t.gov.st = .stopped ∧ t.gov.duty = 1023 ∧ t.gov.gateValid = false ∧
     (∀ u, t.flc.units.get u = none) ∧ t.flc.found = [] ∧ t.flc.enrol.running = false ∧ t.flc.allOpenOwed = false ∧
     t.flc.sweep = { isOpen := false, series := ⟨none, none⟩, found := 0 } ∧ t.flc.pollTimer = some 2000000 ∧ t.flc.sweepTimer = some 250000 ∧
     t.flc.enrol = { running := false, ended := .noneYet, more := false, series := ⟨none, none⟩ } ∧
     t.flc.tx = none ∧ t.saw = Saw.reset ∧ t.saw.st = .idle ∧ t.saw.cuts = [] ∧
     t.rqp.exec = none ∧ t.rqp.overrun = false ∧ t.rqp.stored = ⟨.done, []⟩ ∧ t.rqp.latched = 0 ∧ t.rqp.mask = 0 ∧
     t.attention = false) ∧
  (∀ (c : Instr) (s : State), s.inReset = true → isRequest c = true → exec c s = .next s) ∧
  (∀ s : State, s.inReset = true →
     (∀ n, s.readFrame n = []) ∧ (∀ host, s.spiOut host = []) ∧ ∀ b, s.answers b = false) ∧
  (∀ (s : State) (portSel addr0 : Bool), s.inReset = true → ∃ t, exec (.resetEnd portSel addr0) s = .next t ∧
     t.inReset = false ∧ t.rqp.form = (if portSel then .i2c else .spi) ∧ t.rqp.addrBit = addr0 ∧
     t.rqp.exec = s.rqp.exec ∧ t.rqp.stored = s.rqp.stored ∧
     (∀ c, (s.chan c).level = false → (s.chan c).candidate = none →
       (t.chan c).candidate = if (s.chan c).raw then some s.now else none) ∧
     (t.inu.quadA = s.inu.pinA ∧ t.inu.quadB = s.inu.pinB) ∧
     t.gov = s.gov ∧ t.alt = s.alt ∧ t.flc = s.flc ∧ t.saw = s.saw ∧ t.params = s.params)

/-- R191: the soft restart, block by block. GOV takes no act of its own, so without a GRANTED or LIVE saw record it is
as it was. R1, R30, R49: ALT keeps every record but the saw's, the walk pointer, its timers and counts, relays, the clutch
wait and the strict slot; R176: the saw record's want is dropped, SAW enters RELEASING_SAW while it releases, s is kept. R152:
the series end (RESTART, without ENROL_DONE), every entry takes a new mark by its records, the poll and sweep timers start
afresh, the ALL_OPEN flag stands; then the free line is handed to the most urgent work (log 9). That a sweep which has
fallen due and made no seek is ended as an open one is log 43's reading. -/
def Obligations.SoftRestartKeepsAndClears : Prop :=
  ∀ s : State, s.Ready → ∃ t, exec .restart s = .next t ∧
    t.rqp.exec = some ⟨.done, []⟩ ∧ t.rqp.latched = 0 ∧ t.rqp.mask = s.rqp.mask ∧ t.params = s.params ∧
    t.inu.count = 0 ∧ t.inu.homed = false ∧ t.inu.chans = s.inu.chans ∧ t.inu.estopLatch = s.inu.estopLatch ∧
    t.inu.guardLatch = s.inu.guardLatch ∧ t.inu.lastStamp = s.inu.lastStamp ∧
    t.saw.cuts = [] ∧ t.saw.nextNumber = 0 ∧ t.saw.stopFlag = false ∧ t.saw.cutWanted = false ∧
    t.saw.setting = none ∧ t.saw.stroke = none ∧ t.saw.ret = none ∧ t.saw.remembered = none ∧
    t.saw.feed = .idle ∧ t.saw.setworks = .idle ∧ (t.saw.st = .idle ∨ t.saw.st = .releasing) ∧
    t.saw.cause = s.saw.cause ∧
    t.flc.found = s.flc.found ∧ t.flc.sweep.isOpen = false ∧ t.flc.enrol.running = false ∧
    (∀ u e, s.flc.units.get u = some e → ∃ e', t.flc.units.get u = some e' ∧ e'.identity = e.identity ∧
      e'.plate = e.plate ∧ e'.reported = e.reported ∧ e'.reach = .unseen ∧ e'.failures = 0 ∧ e'.owed = none ∧
      ∀ o, e'.meters.get o = none) ∧
    (s.sawSwitched = false → t.gov = s.gov) ∧
    t.saw.scale = s.saw.scale ∧ t.rqp.overrun = false ∧ t.rqp.form = s.rqp.form ∧ t.rqp.addrBit = s.rqp.addrBit ∧
    t.alt.walk = s.alt.walk ∧ t.alt.lowCount = s.alt.lowCount ∧ t.alt.settle = s.alt.settle ∧
    t.alt.holdOff = s.alt.holdOff ∧ t.alt.headroom = s.alt.headroom ∧
    (s.sawSwitched = false → t.alt.gOut = s.alt.gOut ∧ t.alt.clutch = s.alt.clutch ∧ t.alt.wait = s.alt.wait) ∧
    (∀ i, (∀ r, s.record i = some r → r.kind ≠ .saw) → t.alt.changed.get i = s.alt.changed.get i ∧
      ((s.alt.strict = some i → s.isCandidate i = true) → t.record i = s.record i ∧
        (s.alt.strict = some i → t.alt.strict = some i))) ∧
    (s.alt.strict = none → t.alt.strict = none) ∧
    (∀ i r, s.sawSlot = some i → s.record i = some r → r.target = .clutch → t.alt.relays = s.alt.relays ∧
      ∃ r', t.record i = some r' ∧ r'.wanted = false ∧ (t.saw.st = .releasing ↔ ∃ d, r'.state = .releasing d)) ∧
    (s.sawSlot = none → t.alt.relays = s.alt.relays ∧ t.saw.st = .idle) ∧
    (s.TargetsOk → s.KindsOk → ∃ f : Flc, t.flc = f.arbitrate ∧
      f = { s.flc with
        tx := none, units := f.units
        sweep := if s.flc.sweep.isOpen then { isOpen := false, series := ⟨none, none⟩, found := 0 } else s.flc.sweep
        enrol := if s.flc.enrol.running then
            { running := false, ended := .restart, more := s.flc.enrol.more, series := ⟨none, none⟩ }
          else s.flc.enrol
        pollTimer := some (s.param .pollPeriod * 1000), sweepTimer := some (s.param .sweepPeriod * 1000) } ∧
      (∀ u, s.flc.units.get u = none → f.units.get u = none) ∧
      ∀ u e, s.flc.units.get u = some e → ∃ cls, f.units.get u = some { e with
          reach := .unseen, failures := 0, meters := Vector.replicate 4 none, owed := none, mark := some ⟨cls, s.now⟩ } ∧
        ((∃ i r o d, s.record i = some r ∧ r.target = .field u o ∧ r.state = .releasing d) → cls = .opening) ∧
        ((∀ i r o d, s.record i = some r → r.target = .field u o → r.state ≠ .releasing d) →
          ((∃ i r o, s.record i = some r ∧ r.target = .field u o ∧ r.state = .granted) → cls = .closing) ∧
          ((∀ i r o, s.record i = some r → r.target = .field u o → r.state ≠ .granted) → cls = .routine)))

/-! ## Requests on allotments -/

/-- R6: a POST that passes its checks places an IDLE record in the lowest VACANT slot and changes nothing else; else the
first check that fails answers BAD_FIELD, IN_USE or NO_SLOT, in that order. R3, Table 1-3: the constraints on kind and
target. -/
def Obligations.PostPlacesAnIdleRecord : Prop :=
  (∀ (s : State) (kind priority locked : Byte) (target : TargetBytes) (claim idle quota tag : Half)
     (k : Kind) (g : Target) (b : Bool) (i : Slot) (r : Allotment),
     s.Ready → kindOf kind = some k → targetOf target = some g → boolOf locked = some b →
     r = { state := .idle, reason := none, kind := k, target := g, claim := claim.toNat, idle := idle.toNat
           priority := priority.toNat, quota := quota.toNat, used := 0, residue := 0, tag := tag.toNat, wanted := false
           locked := b, trimmed := decide (k = .saw), starve := 0 } →
     (10 ≤ claim.toNat ∧ claim.toNat ≤ 20000 ∧ priority.toNat ≤ 15) → s.constraints r = true →
     s.slotOf g = none → (tag ≠ 0 → ∀ j r', s.record j = some r' → r'.tag ≠ tag.toNat) →
     (k = .saw → s.sawSlot = none) → s.record i = none → (∀ j, j < i → s.record j ≠ none) →
     exec (.post kind target claim idle priority quota tag locked) s =
       .next ({ s with alt := { s.alt with
           slots := s.alt.slots.set i (some r), changed := s.alt.changed.set i false } }.answered .done
         [BitVec.ofNat 8 i.val])) ∧
  (∀ (s : State) (r : Allotment), s.constraints r = true ↔
    ((r.kind = .ordinary ∧ r.idle = 0 ∧ ((∃ n, r.target = .relay n) ∨
      ∃ u o e p, r.target = .field u o ∧ s.flc.units.get u = some e ∧ e.plate = some p ∧ o.val < p.outlets ∧
        r.claim ≤ 10 * (p.ratings.get o).toNat)) ∨
    (r.kind = .critical ∧ r.idle = 0 ∧ r.quota = 0 ∧ ∃ n, r.target = .relay n) ∨
    (r.kind = .saw ∧ r.target = .clutch ∧ r.quota = 0 ∧ r.idle ≤ r.claim))) ∧
  (∀ (s : State) (kind priority locked : Byte) (target : TargetBytes) (claim idle quota tag : Half), s.Ready →
    ((kindOf kind = none ∨ targetOf target = none ∨ 1 < locked.toNat) →
      exec (.post kind target claim idle priority quota tag locked) s = .next (s.answered .badField [])) ∧
    (∀ (k : Kind) (g : Target) (b : Bool) (r : Allotment),
      kindOf kind = some k → targetOf target = some g → boolOf locked = some b →
      r = { state := .idle, reason := none, kind := k, target := g, claim := claim.toNat, idle := idle.toNat
            priority := priority.toNat, quota := quota.toNat, used := 0, residue := 0, tag := tag.toNat, wanted := false
            locked := b, trimmed := decide (k = .saw), starve := 0 } →
      ((claim.toNat < 10 ∨ 20000 < claim.toNat ∨ 15 < priority.toNat ∨ s.constraints r = false) →
        exec (.post kind target claim idle priority quota tag locked) s = .next (s.answered .badField [])) ∧
      (10 ≤ claim.toNat → claim.toNat ≤ 20000 → priority.toNat ≤ 15 → s.constraints r = true →
        ((∃ j r', s.record j = some r' ∧
            (r'.target = g ∨ (tag ≠ 0 ∧ r'.tag = tag.toNat) ∨ (k = .saw ∧ r'.kind = .saw))) →
          exec (.post kind target claim idle priority quota tag locked) s = .next (s.answered .inUse [])) ∧
        ((∀ j, ∃ r', s.record j = some r' ∧
            r'.target ≠ g ∧ (tag = 0 ∨ r'.tag ≠ tag.toNat) ∧ (k ≠ .saw ∨ r'.kind ≠ .saw)) →
          exec (.post kind target claim idle priority quota tag locked) s = .next (s.answered .noSlot [])))))

/-- R7, R8: an AMEND that passes its checks and gives no quota changes the given fields together and balances a switched
record's claim or idle claim (of a LIVE SAW record here while trimmed; both steps of an untrimmed one are log 34's); an idle
claim given for a record that is not SAW answers BAD_FIELD, 0 too (log 32). R111, R112, R113: an AMEND of the quota alone
holds a PENDING record whose quota it makes spent, and lifts a quota hold that it makes unspent, with no strict slot; the
payload shows the record as amended, before the quota rules (log 31). -/
def Obligations.AmendBalancesAndFollowsTheQuota : Prop :=
  (∀ (s : State) (slot flags priority locked : Byte) (claim idle quota tag : Half) (i : Slot) (r r' : Allotment),
     s.Ready → slotNumber slot = some i → s.record i = some r → flags.toNat < 64 → flags.getLsbD 3 = false →
     (flags.getLsbD 4 = true → locked.toNat ≤ 1) →
     r' = { r with
       claim := if flags.getLsbD 0 then claim.toNat else r.claim
       idle := if flags.getLsbD 1 then idle.toNat else r.idle
       priority := if flags.getLsbD 2 then priority.toNat else r.priority
       locked := if flags.getLsbD 4 then locked == 1 else r.locked
       tag := if flags.getLsbD 5 then tag.toNat else r.tag } →
     r.isReleasing = false → (flags.getLsbD 1 = true → r.kind = .saw) → r'.inRange = true → s.constraints r' = true →
     (flags.getLsbD 5 = true → s.tagTaken r'.tag (some i) = false) →
     ∃ (alt : Alt) (gov : Gov),
       exec (.amend slot flags claim idle priority quota locked tag) s =
         .next (({ s with alt, gov }.arbitrate).answered .done (recordBytes i (some r'))) ∧
       alt = { s.alt with slots := s.alt.slots.set i (some r'), gOut := alt.gOut } ∧
       (r.state ≠ .granted → alt.gOut = s.alt.gOut) ∧ (r.state ≠ .live → gov = s.gov) ∧
       (r.state = .granted → r.kind ≠ .saw → alt.gOut = s.alt.gOut + r'.claim - r.claim) ∧
       (r.state = .granted → r.kind = .saw → alt.gOut = s.alt.gOut + r'.idle - r.idle) ∧
       (r.state = .live → r.kind ≠ .saw →
         gov = if r.claim ≤ r'.claim then s.gov.ballastStep s.params .down (r'.claim - r.claim)
           else s.gov.ballastStep s.params .up (r.claim - r'.claim)) ∧
       (r.state = .live → r.kind = .saw → r.trimmed = true →
         gov = if r.idle ≤ r'.idle then s.gov.ballastStep s.params .down (r'.idle - r.idle)
           else s.gov.ballastStep s.params .up (r.idle - r'.idle))) ∧
  (∀ (s : State) (slot flags priority locked : Byte) (claim idle quota tag : Half) (i : Slot) (r : Allotment),
     s.Ready → slotNumber slot = some i → s.record i = some r → r.isReleasing = false → flags.getLsbD 1 = true →
     r.kind ≠ .saw →
     exec (.amend slot flags claim idle priority quota locked tag) s = .next (s.answered .badField [])) ∧
  (∀ (s : State) (slot : Byte) (quota : Half) (i : Slot) (r : Allotment),
     s.Ready → slotNumber slot = some i → s.record i = some r → r.kind = .ordinary → r.inRange = true →
     s.constraints r = true → s.alt.strict = none → quota.toNat ≠ r.quota →
     (r.state = .pending → 0 < quota.toNat → quota.toNat ≤ r.used →
       exec (.amend slot 8 0 0 0 quota 0 0) s =
         .next (({ s with alt := { s.alt with
             slots := s.alt.slots.set i
               (some { r with quota := quota.toNat, state := .held .quota, reason := some .quota })
             changed := s.alt.changed.set i true } }.arbitrate).answered .done
           (recordBytes i (some { r with quota := quota.toNat })))) ∧
     (r.state = .held .quota → (quota.toNat = 0 ∨ r.used < quota.toNat) →
       exec (.amend slot 8 0 0 0 quota 0 0) s =
         .next (({ s with alt := { s.alt with
             slots := s.alt.slots.set i
               (some { r with quota := quota.toNat, state := if r.wanted then .pending else .idle })
             changed := s.alt.changed.set i true } }.arbitrate).answered .done
           (recordBytes i (some { r with quota := quota.toNat })))))

/-- R9: RETIRE of a record that is not switched makes its slot VACANT at once; of a RELEASING record it turns the
destination to VACANT. -/
def Obligations.RetireEmptiesTheSlot : Prop :=
  ∀ (s : State) (slot : Byte) (i : Slot) (r : Allotment),
    s.Ready → slotNumber slot = some i → s.record i = some r →
    (r.kind = .saw → s.saw.st = .idle ∨ s.saw.st = .fault) →
    ((r.state = .idle ∨ r.state = .pending ∨ r.state = .shed ∨ ∃ h, r.state = .held h) →
      exec (.retire slot) s =
        .next (({ s with alt := { s.alt with
          slots := s.alt.slots.set i none, changed := s.alt.changed.set i false } }.checkStrict.arbitrate).answered
          .done [])) ∧
    (∀ d, r.state = .releasing d →
      exec (.retire slot) s =
        .next (({ s with alt := { s.alt with
          slots := s.alt.slots.set i (some { r with state := .releasing .vacant, reason := some .retired }) } }
          |>.arbitrate).answered .done []))

/-- R13, R14: WANT and DROP on a record that is not switched move it as Table 1-5 says, WANT meeting a spent quota
ends in HELD; on the saw record both are WRONG_STATE. -/
def Obligations.HostDemandFollowsTheTable : Prop :=
  ∀ (s : State) (slot : Byte) (i : Slot) (r : Allotment),
    s.Ready → slotNumber slot = some i → s.record i = some r →
    (r.kind = .saw → exec (.want slot) s = .next (s.answered .wrongState []) ∧
      exec (.drop slot) s = .next (s.answered .wrongState [])) ∧
    (r.kind ≠ .saw →
      exec (.want slot) s = .next ((s.setRecord i (some
        (if r.wanted ∨ r.state ≠ .idle then { r with wanted := true }
        else if 0 < r.quota ∧ r.quota ≤ r.used then
          { r with wanted := true, state := .held .quota, reason := some .quota }
        else { r with wanted := true, state := .pending, reason := some .demandOn }))).answered .done [])) ∧
    (r.kind ≠ .saw → r.wanted = true → (r.state = .pending ∨ r.state = .shed) →
      exec (.drop slot) s =
        .next ((s.setRecord i (some { r with wanted := false, state := .idle, reason := some .demandOff })
          |>.checkStrict.arbitrate).answered .done [])) ∧
    (r.kind ≠ .saw → (r.state = .idle ∨ (∃ d, r.state = .releasing d) ∨ ∃ h, r.state = .held h) →
      exec (.drop slot) s =
        .next ((s.setRecord i (some { r with wanted := false })).arbitrate.answered .done []))

/-- R18, R19, R22: a DROP, HOLD or RETIRE of a LIVE record on a relay opens the relay, steps the ballast up by the claim, and
completes to its destination in the same request; the change set is not entered (that a RETIRE leaves a slot already in
it there is the model's reading, log 10). R18, R25: of a GRANTED or LIVE record on
a field outlet it leaves the record RELEASING, takes a GRANTED record's claim out of G_out with a downward step, and marks
the unit OPEN. -/
def Obligations.ReleaseOpensTheSwitch : Prop :=
  (∀ (s : State) (slot : Byte) (i : Slot) (r : Allotment) (n : Fin Config.relays) (c : Instr) (after : Option Allotment),
     s.Ready → slotNumber slot = some i → s.record i = some r → r.kind ≠ .saw → r.target = .relay n →
     r.state = .live → r.wanted = true →
     ((c = .drop slot ∧ after = some { r with wanted := false, state := .idle, reason := some .demandOff }) ∨
       (c = .hold slot ∧ after = some { r with state := .held .host }) ∨ (c = .retire slot ∧ after = none)) →
     exec c s =
       .next (({ s with
           alt := { s.alt with slots := s.alt.slots.set i after, relays := s.alt.relays.set n false }
           gov := s.gov.ballastStep s.params .up r.claim }.checkStrict.arbitrate).answered .done [])) ∧
  (∀ (s : State) (slot : Byte) (i : Slot) (r r' : Allotment) (u : UnitIx) (o : Outlet) (c : Instr),
     s.Ready → slotNumber slot = some i → s.record i = some r → r.kind = .ordinary → r.target = .field u o →
     (r.state = .granted ∨ r.state = .live) → r.wanted = true →
     ((c = .drop slot ∧ r' = { r with wanted := false, state := .releasing .idle, reason := some .demandOff }) ∨
       (c = .hold slot ∧ r' = { r with state := .releasing (.held .host) }) ∨
       (c = .retire slot ∧ r' = { r with state := .releasing .vacant, reason := some .retired })) →
     exec c s =
       .next (({ s with
           alt := { s.alt with
             slots := s.alt.slots.set i (some r')
             gOut := if r.state = RecState.granted then s.alt.gOut - r.claim else s.alt.gOut }
           gov := if r.state = RecState.granted then s.gov.ballastStep s.params .down r.claim else s.gov
           flc := s.flc.giveMark s.now .opening u }.checkStrict.arbitrate).answered .done []))

/-- R16, R17: HOLD and FREE on a record that is not switched. R24, R167, R168: a HOLD of the LIVE saw record while CLUTCH_IN
reads active releases the clutch, begins the release wait, and halts a stroke, whose record is kept; that the halt
leaves the feed step rate 0 is the model's reading (log 18). -/
def Obligations.HoldAndFreeMoveRecords : Prop :=
  (∀ (s : State) (slot : Byte) (i : Slot) (r : Allotment),
     s.Ready → slotNumber slot = some i → s.record i = some r →
     ((r.state = .pending ∨ r.state = .shed) →
       exec (.hold slot) s =
         .next ((s.setRecord i (some { r with state := .held .host })).checkStrict.arbitrate.answered .done [])) ∧
     ((r.state = .releasing .idle ∨ r.state = .releasing .shed) →
       exec (.hold slot) s =
         .next ((s.setRecord i (some { r with state := .releasing (.held .host) })).arbitrate.answered .done [])) ∧
     ((r.state = .held .host ∨ r.state = .releasing (.held .host)) →
       exec (.hold slot) s = .next (s.arbitrate.answered .done [])) ∧
     ((r.state = .idle ∨ r.state = .releasing .vacant ∨
         ∃ h, h ≠ .host ∧ (r.state = .held h ∨ r.state = .releasing (.held h))) →
       exec (.hold slot) s = .next (s.answered .wrongState [])) ∧
     ((r.state = .held .host ∨ r.state = .held .refused ∨ (r.state = .held .fault ∧ s.saw.st ≠ .fault)) →
       exec (.free slot) s =
         .next ((s.setRecord i (some
           (if ¬ r.wanted then { r with state := .idle }
           else if 0 < r.quota ∧ r.quota ≤ r.used then { r with state := .held .quota, reason := some .quota }
           else { r with state := .pending }))).answered .done [])) ∧
     ((r.state = .held .quota ∨ (r.state = .held .fault ∧ s.saw.st = .fault) ∨ ∀ h, r.state ≠ .held h) →
       exec (.free slot) s = .next (s.answered .wrongState []))) ∧
  (∀ (s : State) (slot : Byte) (i : Slot) (r : Allotment),
     s.Ready → slotNumber slot = some i → s.record i = some r → s.sawSlot = some i → r.kind = .saw → r.target = .clutch →
     r.state = .live → s.active .clutchIn = true → s.saw.st = .feeding → s.saw.cutWanted = false → s.alt.strict = none →
     exec (.hold slot) s =
       .next (({ s with
           alt := { s.alt with
             slots := s.alt.slots.set i (some { r with state := .releasing (.held .host) })
             clutch := false, wait := some (.release (s.param .clutchTimeout * 1000)) }
           saw := { s.saw with
             st := .halted, remembered := some .feedWait, setting := none, ret := none, feedRate := 0
             spinTimer := none, waitTimer := none, settleTimer := none, feed := .idle, setworks := .idle }
           rqp := { s.rqp with latched := s.rqp.latched ||| Cause.sawState.bit } }.arbitrate).answered .done []))

/-- R49, R27, R106, R111: while present, the strict slot holds a candidate; G_out is the sum of the shares of the GRANTED
records; no record with a spent quota rests PENDING, GRANTED or LIVE: together, over switches that stand as their records
say, every step keeps them so. R49, R41: the check made where a record may stop being a candidate: it zeroes the starve count
and clears the strict slot and changes nothing else; and which records are candidates. -/
def Obligations.StrictSlotTotalAndQuotasHold : Prop :=
  (∀ s t : State, step s = .next t → s.SwitchesOk → s.StrictOk → s.GrantedOk → s.SpentOk →
    t.StrictOk ∧ t.GrantedOk ∧ t.SpentOk) ∧
  (∀ s : State,
     (s.alt.strict = none → s.checkStrict = s) ∧
     (∀ i, s.alt.strict = some i → s.isCandidate i = true → s.checkStrict = s) ∧
     (∀ i, s.alt.strict = some i → s.isCandidate i = false →
       s.checkStrict = { s with alt := { s.alt with
         strict := none
         slots := s.alt.slots.set i ((s.record i).map fun r => { r with starve := 0 }) } }) ∧
     (∀ i r, s.record i = some r → s.isCandidate i =
       (!(decide (0 < r.quota ∧ r.quota ≤ r.used)) &&
         (match r.kind with
         | .ordinary => r.state == .pending || r.state == .shed
         | .critical => r.state == .pending
         | .saw => r.state == .pending || r.state == .shed || (r.state == .live && r.trimmed && s.saw.cutWanted)))))

/-- R10: LOOKUP. -/
def Obligations.LookupReturnsTheRecord : Prop :=
  ∀ (s : State) (slot : Byte) (i : Slot), s.Ready → i.val = slot.toNat →
    (∀ r, s.record i = some r → exec (.lookup slot) s = .next (s.answered .done (recordBytes i (some r)))) ∧
    (s.record i = none → exec (.lookup slot) s = .next (s.answered .noSuch []))

/-- Table 11-5: the payload of a record holds each of its fields at its place. -/
def Obligations.RecordPayloadLayout : Prop :=
  ∀ (i : Slot) (r : Allotment),
    ((recordBytes i (some r)).length = 26 ∧ recordBytes i none = BitVec.ofNat 8 i.val :: List.replicate 25 0) ∧
    (recordBytes i (some r)).take 6 = [BitVec.ofNat 8 i.val, r.state.code, r.state.destCode, r.state.holdCode,
      (match r.reason with | some x => x.code | none => 0), r.kind.code] ∧
    ((recordBytes i (some r)).drop 6).take 3 = (match r.target with
      | .field u o => [1, BitVec.ofNat 8 u.val, BitVec.ofNat 8 o.val]
      | .relay n => [2, BitVec.ofNat 8 n.val, 0]
      | .clutch => [3, 0, 0]) ∧
    (∀ (place value : Nat), (place, value) ∈ [(9, r.claim), (11, r.idle), (14, r.quota), (16, r.used), (22, r.tag)] →
      value < 65536 →
      (byteAt (recordBytes i (some r)) place).toNat * 256 + (byteAt (recordBytes i (some r)) (place + 1)).toNat = value) ∧
    (r.residue < 4294967296 →
      ((halfAt (recordBytes i (some r)) 18).toNat * 65536 + (halfAt (recordBytes i (some r)) 20).toNat) = r.residue) ∧
    (r.priority < 256 → (byteAt (recordBytes i (some r)) 13).toNat = r.priority) ∧
    (r.starve < 256 → (byteAt (recordBytes i (some r)) 25).toNat = r.starve) ∧
    ((byteAt (recordBytes i (some r)) 24).getLsbD 0 = r.wanted ∧
      (byteAt (recordBytes i (some r)) 24).getLsbD 1 = r.locked ∧
      (byteAt (recordBytes i (some r)) 24).getLsbD 2 = r.trimmed ∧ (byteAt (recordBytes i (some r)) 24).toNat < 8)

/-- R11: FIND and FIND_TAG return the one record that matches their key. R12: WALK_FROM sets the pointer; WALK_NEXT returns
the first non-VACANT slot upward from it, slot 47 followed by slot 0, and moves the pointer past it. -/
def Obligations.FindAndWalkReturnRecords : Prop :=
  (∀ (s : State) (i : Slot) (r : Allotment), s.Ready → s.record i = some r →
     (∀ (target : TargetBytes), targetOf target = some r.target →
       (∀ j r', s.record j = some r' → r'.target = r.target → j = i) →
       exec (.find target) s = .next (s.answered .done (recordBytes i (some r)))) ∧
     (∀ (tag : Half), tag ≠ 0 → r.tag = tag.toNat → (∀ j r', s.record j = some r' → r'.tag = r.tag → j = i) →
       exec (.findTag tag) s = .next (s.answered .done (recordBytes i (some r))))) ∧
  (∀ s : State, s.Ready →
     (∀ (slot : Byte) (i : Slot), i.val = slot.toNat →
       exec (.walkFrom slot) s = .next ({ s with alt := { s.alt with walk := i } }.answered .done [])) ∧
     (∀ (i : Slot) (r : Allotment), s.record i = some r →
       (∀ j : Slot, (j.val + 48 - s.alt.walk.val) % 48 < (i.val + 48 - s.alt.walk.val) % 48 → s.record j = none) →
       exec .walkNext s = .next ({ s with alt := { s.alt with walk := i + 1 } }.answered .done
         (recordBytes i (some r)))) ∧
     ((∀ i, s.record i = none) → exec .walkNext s = .next (s.answered .noSuch [])))

/-- R29: NEXT_CHANGED, and the cause CHANGED. -/
def Obligations.NextChangedTakesTheLowest : Prop :=
  ∀ s : State,
    (∀ i : Slot, s.Ready → s.alt.changed.get i = true → (∀ j, j < i → s.alt.changed.get j = false) →
      exec .nextChanged s =
        .next ({ s with alt := { s.alt with changed := s.alt.changed.set i false } }.answered .done
          (match s.record i with
          | some r => recordBytes i (some r)
          | none => BitVec.ofNat 8 i.val :: List.replicate 25 0))) ∧
    (s.Ready → (∀ i, s.alt.changed.get i = false) → exec .nextChanged s = .next (s.answered .noSuch [])) ∧
    (s.rawSet.getLsbD 0 = true ↔ ∃ i, s.alt.changed.get i = true)

/-- R114: DAY_TURN in every record and in the change set, and nowhere else. -/
def Obligations.DayTurnLiftsQuotaHolds : Prop :=
  ∀ s : State, s.Ready → ∃ t : State,
    exec .dayTurn s = .next ({ s with alt := { s.alt with slots := t.alt.slots, changed := t.alt.changed } }.answered .done
      [BitVec.ofNat 8 ((List.finRange 48).filter fun i =>
        (t.record i).map Allotment.state != (s.record i).map Allotment.state).length]) ∧
    ∀ i, (s.record i = none → t.record i = none ∧ t.alt.changed.get i = s.alt.changed.get i) ∧
      ∀ r, s.record i = some r → ∃ st,
        t.record i = some { r with used := 0, state := st } ∧
        st = (if r.state = .held .quota then (if r.wanted then .pending else .idle)
          else if r.state = .releasing (.held .quota) then .releasing (if r.wanted then .shed else .idle)
          else r.state) ∧
        t.alt.changed.get i = (s.alt.changed.get i || st != r.state)

/-- R67, R91, R138, R156, R175, R185, R188, R192: the reading requests answer DONE with their payload and change
nothing. Tables 11-2, 11-4, 11-6, 11-7: where each item of GOV_STATUS, INPUT_READ, SAW_STATUS, CUT_LIST and UNIT_INFO stands.
R179, R180: what a read of the result returns, and what a write frame shifts out. That a meter count that is not valid is
returned as 0 is log 15's reading; that a read frame takes state byte and result from one state is log 37's choice. -/
def Obligations.ReadingRequestsChangeNothing : Prop :=
  (∀ s : State, s.Ready →
     exec .govStatus s = .next (s.answered .done (govStatusBytes s.gov s.alt)) ∧
     exec .inputRead s = .next (s.answered .done (inputStatusBytes s.inu)) ∧
     exec .cutList s = .next (s.answered .done (cutListBytes s.saw)) ∧
     exec .sawStatus s = .next (s.answered .done (sawStatusBytes s.saw s.inu (s.param .encPerMm))) ∧
     exec .attnRead s = .next (s.answered .done
       [causesByte s.rawSet, causesByte s.rqp.mask, causesByte (s.rawSet &&& s.rqp.mask)]) ∧
     exec .identify s = .next (s.answered .done
       [0x42, 0x4B, 0x34, 0x01, 48, 24, 8, 16, (if s.rqp.form = .spi then 0 else 1), if s.rqp.addrBit then 1 else 0]) ∧
     (∀ (number : Byte) (p : Param), Param.ofNumber number.toNat = some p →
       exec (.getParam number) s = .next (s.answered .done
         [number, BitVec.ofNat 8 (s.param p / 256), BitVec.ofNat 8 (s.param p)])) ∧
     (∀ (index : Byte) (u : UnitIx) (e : UnitEntry), u.val = index.toNat → s.flc.units.get u = some e →
       exec (.unitInfo index) s = .next (s.answered .done (unitBytes u e (s.flc.visitTo u).isSome)))) ∧
  (∀ (g : Gov) (a : Alt) (p : List Byte), p = govStatusBytes g a →
    p.length = 19 ∧
    byteAt p 0 = (match g.st with
      | .stopped => 0 | .runUp => 1 | .regulating => 2 | .hold => 3 | .stopping => 4 | .tripped => 5) ∧
    byteAt p 1 = (match g.cause with
      | .none => 0 | .overspeed => 1 | .tachLost => 2 | .estop => 3 | .runupFail => 4 | .gateFault => 5) ∧
    (∀ place value, (place, value) ∈ [(2, g.fMeas), (4, g.bAcc / 16), (6, g.duty), (8, g.spare), (14, a.headroom),
      (16, g.gatePos)] → value < 65536 → (halfAt p place).toNat = value) ∧
    (a.gOut < 4294967296 → (halfAt p 10).toNat * 65536 + (halfAt p 12).toNat = a.gOut) ∧
    byteAt p 18 = if g.gateValid then 1 else 0) ∧
  (∀ (u : Inu) (p : List Byte), p = inputStatusBytes u →
    p.length = 19 ∧
    (∀ n : Fin 10, (byteAt p n).toNat < 64 ∧ (byteAt p n).getLsbD 0 = ((u.chans.get n).pin != (u.chans.get n).activeLow) ∧
      (byteAt p n).getLsbD 1 = (u.chans.get n).level ∧ (byteAt p n).getLsbD 2 = (u.chans.get n).activeLow ∧
      ((u.chans.get n).filter < 4 → (byteAt p n).toNat / 8 % 4 = (u.chans.get n).filter) ∧
      (byteAt p n).getLsbD 5 = (u.chans.get n).candidate.isSome) ∧
    ((byteAt p 10).toNat < 16 ∧ (byteAt p 10).getLsbD 0 = u.estopLatch ∧ (byteAt p 10).getLsbD 1 = u.guardLatch ∧
      (byteAt p 10).getLsbD 2 = u.lastStamp.isSome ∧ (byteAt p 10).getLsbD 3 = u.homed) ∧
    (halfAt p 11).toNat * 65536 + (halfAt p 13).toNat = u.lastPeriod.toNat ∧
    (halfAt p 15).toNat * 65536 + (halfAt p 17).toNat = u.count.toNat) ∧
  (∀ (w : Saw) (u : Inu) (perMm : Nat) (p : List Byte), p = sawStatusBytes w u perMm →
    p.length = 22 ∧
    byteAt p 0 = (match w.st with
      | .idle => 0 | .claiming => 1 | .spinup => 2 | .setting => 3 | .feedWait => 4 | .feeding => 5 | .returning => 6
      | .halted => 7 | .releasing => 8 | .fault => 9) ∧
    byteAt p 1 = (match w.cause with
      | .none => 0 | .stall => 1 | .fwdLimit => 2 | .revLimit => 3 | .noHome => 4 | .setTimeout => 5 | .clutchFail => 6
      | .clutchStuck => 7 | .guard => 8 | .estop => 9) ∧
    (∀ o rest, w.cuts = o :: rest → o.number < 256 → (byteAt p 2).toNat = o.number) ∧
    (w.cuts = [] → byteAt p 2 = 0) ∧ (w.cuts.length < 256 → (byteAt p 3).toNat = w.cuts.length) ∧
    halfAt p 4 ++ halfAt p 6 = BitVec.ofInt 32 (u.count.toInt.tdiv perMm) ∧
    (w.scale < 65536 → (halfAt p 8).toNat = w.scale) ∧
    (w.feedRate < 65536 →
      (halfAt p 10).toNat = if w.st = .feeding ∨ w.st = .returning then w.feedRate else 0) ∧
    ((byteAt p 12).toNat < 16 ∧ (byteAt p 12).getLsbD 0 = u.homed ∧ (byteAt p 12).getLsbD 1 = w.stopFlag ∧
      (byteAt p 12).getLsbD 2 = w.cutWanted ∧ ((byteAt p 12).getLsbD 3 = true ↔ w.cuts ≠ [])) ∧
    byteAt p 13 = (match w.remembered with
      | none => 0 | some .setting => 1 | some .feedWait => 2 | some (.returning _) => 3) ∧
    (w.stroke = none → p.drop 14 = List.replicate 8 0) ∧
    (∀ k, w.stroke = some k → k.done < 4294967296 → k.steps < 4294967296 →
      (halfAt p 14).toNat * 65536 + (halfAt p 16).toNat = k.done ∧
      (halfAt p 18).toNat * 65536 + (halfAt p 20).toNat = k.steps)) ∧
  (∀ (w : Saw) (p : List Byte), p = cutListBytes w →
    p.length = 9 + 7 * w.cuts.length ∧ (w.cuts.length < 256 → (byteAt p 0).toNat = w.cuts.length) ∧
    (∀ n o, w.cuts[n]? = some o →
      (o.number < 256 → (byteAt p (1 + 7 * n)).toNat = o.number) ∧
      (o.thickness < 65536 → (halfAt p (2 + 7 * n)).toNat = o.thickness) ∧
      (o.stroke < 65536 → (halfAt p (4 + 7 * n)).toNat = o.stroke) ∧
      (o.ceiling < 65536 → (halfAt p (6 + 7 * n)).toNat = o.ceiling)) ∧
    (w.stroke = none → p.drop (1 + 7 * w.cuts.length) = List.replicate 8 0) ∧
    (∀ k n, w.stroke = some k → n = 1 + 7 * w.cuts.length → k.done < 4294967296 → k.steps < 4294967296 →
      (halfAt p n).toNat * 65536 + (halfAt p (n + 2)).toNat = k.done ∧
      (halfAt p (n + 4)).toNat * 65536 + (halfAt p (n + 6)).toNat = k.steps)) ∧
  (∀ (u : UnitIx) (e : UnitEntry) (visiting : Bool) (p : List Byte), p = unitBytes u e visiting →
    p.length = 32 ∧ (byteAt p 0).toNat = u.val ∧
    ((p.drop 1).take 5).foldl (fun n b => n * 256 + b.toNat) 0 = e.identity.toNat ∧
    (e.plate = none → (p.drop 6).take 11 = List.replicate 11 0) ∧
    (∀ k, e.plate = some k → byteAt p 6 = 1 ∧ byteAt p 7 = k.maker ∧
      (k.outlets < 256 → (byteAt p 8).toNat = k.outlets) ∧ ∀ o : Outlet, halfAt p (9 + 2 * o.val) = k.ratings.get o) ∧
    byteAt p 17 = (match e.reach with | .unseen => 0 | .present => 1 | .missing => 2) ∧
    (e.failures < 256 → (byteAt p 18).toNat = e.failures) ∧
    (∀ o : Outlet, halfAt p (19 + 2 * o.val) = (e.meters.get o).getD 0 ∧
      (byteAt p 27).getLsbD o.val = (e.meters.get o).isSome ∧
      (byteAt p 28).getLsbD o.val = (e.reported.getD 0).getLsbD o.val) ∧
    (byteAt p 27).toNat < 16 ∧ (byteAt p 28).toNat < 32 ∧ (byteAt p 28).getLsbD 4 = e.reported.isSome ∧
    (byteAt p 29).toNat < 4 ∧ (byteAt p 29).getLsbD 0 = e.unitFault ∧ (byteAt p 29).getLsbD 1 = visiting ∧
    ∀ (place : Nat) (cls : Option MarkClass), (place, cls) ∈ [(30, e.mark.map Mark.cls), (31, e.owed)] →
      byteAt p place = (match cls with
        | none => 0 | some .routine => 1 | some .demand => 2 | some .closing => 3 | some .opening => 4)) ∧
  (∀ (s : State) (n : Nat) (host : List Byte) (b : Byte), s.inReset = false →
    (n ≤ 3 + s.rqp.stored.payload.length → s.readFrame n = ([s.stateByte, s.rqp.stored.code.code,
      BitVec.ofNat 8 s.rqp.stored.payload.length] ++ s.rqp.stored.payload).take n) ∧
    (s.readFrame (3 + s.rqp.stored.payload.length + n) = [s.stateByte, s.rqp.stored.code.code,
      BitVec.ofNat 8 s.rqp.stored.payload.length] ++ s.rqp.stored.payload ++ List.replicate n 0) ∧
    (s.stateByte.toNat < 8 ∧ (s.stateByte.getLsbD 0 = true ↔ s.rqp.exec = none) ∧
      s.stateByte.getLsbD 1 = s.rqp.overrun ∧ s.stateByte.getLsbD 2 = s.attention) ∧
    (s.rqp.form = .spi → b = 0 → s.spiOut (b :: host) = s.readFrame (host.length + 1)) ∧
    (s.rqp.form = .spi → b ≠ 0 → s.spiOut (b :: host) = s.stateByte :: List.replicate host.length 0) ∧
    (s.rqp.form = .i2c → s.spiOut (b :: host) = []))

/-! ## Admission and shedding -/

/-- R35: which record the shed judgement chooses. -/
def Obligations.ShedChoosesLowestPriorityHighestSlot : Prop :=
  ∀ (s : State) (i : Slot), s.shedChoice = some i ↔
    ∃ r, s.record i = some r ∧ r.state = .live ∧ (r.kind = .ordinary ∨ r.kind = .saw) ∧
      ∀ j r', s.record j = some r' → r'.state = .live → (r'.kind = .ordinary ∨ r'.kind = .saw) →
        r.priority < r'.priority ∨ (r.priority = r'.priority ∧ j ≤ i)

/-- R42: the order of the candidates, a CRITICAL record counting as priority 16; each candidate comes once. -/
def Obligations.CandidatesComeByPriorityThenSlot : Prop :=
  ∀ s : State, s.candidates.Nodup ∧ (∀ i, i ∈ s.candidates ↔ s.isCandidate i = true) ∧
    s.candidates.Pairwise fun i j => ∀ r r', s.record i = some r → s.record j = some r' →
      (if r'.kind = .critical then 16 else r'.priority) < (if r.kind = .critical then 16 else r.priority) ∨
      ((if r'.kind = .critical then 16 else r'.priority) = (if r.kind = .critical then 16 else r.priority) ∧ i < j)

/-- R43, R44: first fit admits the first candidate that fits; the candidates before it have their starve counts raised to 255
at most, those after it are not examined. For a local or field record, whose admission touches no other record. R43: where no
candidate fits, each has its count raised and nothing else changes. R47, R48: with a starved candidate, or the strict slot
already taken, only that record is examined; one that fits is served. R23, R25, R44: the admission of a field record and of
the saw record, with the engagement wait, or LIVE at once with CLUTCH_IN active. R26, R45, R160, R161: the untrim, and FEEDING
entered from FEED_WAIT (the first step's time is log 17's). R31 to R36, R107, R110, R111: the stages of ALT's work on a
publication: timers, accrual with the quota hold, the shed judgement by release or trim, the headroom, admission. That the
records accrue in ascending order of slot is log 21's reading, that a stroke cut short by a trim leaves the feed step rate 0
log 18's. -/
def Obligations.PublicationShedsAndAdmitsInOrder : Prop :=
  (∀ (s : State) (pre post : List Slot) (i : Slot) (r : Allotment),
     s.alt.strict = none → s.starved = none → s.candidates = pre ++ i :: post → s.record i = some r →
     r.kind ≠ .saw → r.target ≠ .clutch → r.claim ≤ s.alt.headroom →
     (∀ j ∈ pre, ∀ r', s.record j = some r' → s.alt.headroom < r'.need) →
     (∀ j ∈ pre, ∀ r', s.record j = some r' →
       s.admissionPass.record j = some { r' with starve := min 255 (r'.starve + 1) }) ∧
     (∀ j, j ∉ pre → j ≠ i → s.admissionPass.record j = s.record j) ∧
     s.admissionPass.alt.headroom = s.alt.headroom - r.claim ∧ s.admissionPass.alt.changed.get i = true ∧
     (∀ u o, r.target = .field u o →
       s.admissionPass.record i = some { r with
         state := .granted, starve := 0, reason := some (if r.state = .shed then .restored else .admitted) } ∧
       s.admissionPass.alt.gOut = s.alt.gOut + r.claim ∧ s.admissionPass.gov = s.gov ∧
       s.admissionPass.flc = s.flc.giveMark s.now .closing u)) ∧
  (∀ (s : State) (i : Slot) (r : Allotment), s.record i = some r →
     ((s.alt.strict = some i) ∨ (s.alt.strict = none ∧ ∃ pre post, s.candidates = pre ++ i :: post ∧
       s.param .starveLimit ≤ r.starve ∧ ∀ j ∈ pre, ∀ r', s.record j = some r' → r'.starve < s.param .starveLimit)) →
     s.alt.headroom < r.need →
     s.admissionPass = { s with alt := { s.alt with
       strict := some i, slots := s.alt.slots.set i (some { r with starve := min 255 (r.starve + 1) }) } }) ∧
  (∀ s : State, s.alt.strict = none → s.starved = none →
     (∀ j r, s.isCandidate j = true → s.record j = some r → s.alt.headroom < r.need) →
     s.admissionPass = { s with alt := { s.alt with slots := s.admissionPass.alt.slots } } ∧
     ∀ j, s.admissionPass.record j = if s.isCandidate j then
         (s.record j).map fun r => { r with starve := min 255 (r.starve + 1) }
       else s.record j) ∧
  (∀ (s : State) (i : Slot) (r : Allotment), s.record i = some r → r.need ≤ s.alt.headroom →
     (s.alt.strict = some i → s.admissionPass = s.serve i r) ∧
     (s.alt.strict = none → (∃ pre post, s.candidates = pre ++ i :: post ∧ s.param .starveLimit ≤ r.starve ∧
         ∀ j ∈ pre, ∀ r', s.record j = some r' → r'.starve < s.param .starveLimit) →
       s.admissionPass = { s with alt := { s.alt with strict := some i } }.serve i r)) ∧
  (∀ (s : State) (i : Slot) (r : Allotment) (reason : Reason) (strict : Option Slot),
     s.record i = some r → (r.state = .pending ∨ r.state = .shed) →
     reason = (if r.state = .shed then .restored else .admitted) →
     strict = (if s.alt.strict = some i then none else s.alt.strict) →
     (∀ u o, r.kind ≠ .saw → r.target = .field u o → s.serve i r = { s with
       alt := { s.alt with
         slots := s.alt.slots.set i (some { r with state := .granted, reason := some reason, starve := 0 })
         changed := s.alt.changed.set i true, gOut := s.alt.gOut + r.claim
         headroom := s.alt.headroom - r.claim, strict }
       flc := s.flc.giveMark s.now .closing u }) ∧
     (r.kind = .saw → r.target = .clutch → s.sawSlot = some i →
       (s.active .clutchIn = false → s.serve i r = { s with alt := { s.alt with
         slots := s.alt.slots.set i (some { r with state := .granted, reason := some reason, starve := 0 })
         changed := s.alt.changed.set i true, gOut := s.alt.gOut + r.idle, headroom := s.alt.headroom - r.idle, strict
         clutch := true, wait := some (.engage (s.param .clutchTimeout * 1000)) } }) ∧
       (∀ t : State, s.active .clutchIn = true → t = { s with
           alt := { s.alt with
             slots := s.alt.slots.set i (some { r with state := .live, reason := some .confirmed, starve := 0 })
             changed := s.alt.changed.set i true, headroom := s.alt.headroom - r.idle, strict
             clutch := true, wait := none }
           gov := s.gov.ballastStep s.params .down r.idle } →
         (s.saw.st ≠ .claiming → s.saw.st ≠ .halted → s.serve i r = t) ∧
         (s.saw.st = .claiming ∨ s.saw.st = .halted → s.serve i r = { t with
           saw := { s.saw with st := .spinup, spinTimer := some (s.param .spinupTime * 1000) }
           rqp := { s.rqp with latched := s.rqp.latched ||| Cause.sawState.bit } })))) ∧
  (∀ (s : State) (i : Slot) (r : Allotment) (o : CutOrder) (rest : List CutOrder) (k : StrokeRec) (mm rate : Nat),
     s.record i = some r → s.sawSlot = some i → r.kind = .saw → r.state = .live → r.trimmed = true →
     (s.alt.strict = none ∨ s.alt.strict = some i) →
     s.saw.st = .feedWait → s.saw.cutWanted = true → s.saw.feed = .idle → s.active .fwdLimit = false →
     s.saw.cuts = o :: rest →
     (s.saw.stroke = some k ∨ (s.saw.stroke = none ∧ k =
       { steps := o.stroke * s.param .stepsPerMm, stepsPerMm := s.param .stepsPerMm, countsPerMm := s.param .encPerMm
         reference := s.inu.count, done := 0 })) →
     mm = (if 0 < s.saw.scale ∧ o.ceiling * s.saw.scale / 256 < s.param .feedMin then min (s.param .feedMin) o.ceiling
       else o.ceiling * s.saw.scale / 256) →
     rate = min 20000 (mm * k.stepsPerMm) →
     s.serve i r = { s with
       alt := { s.alt with
         slots := s.alt.slots.set i (some { r with trimmed := false, reason := some .untrimmed, starve := 0 })
         changed := s.alt.changed.set i true, headroom := s.alt.headroom - (r.claim - r.idle), strict := none }
       gov := s.gov.ballastStep s.params .down (r.claim - r.idle)
       saw := { s.saw with
         st := .feeding, cutWanted := false, stroke := some k, feedRate := rate
         feed := if rate = 0 then .idle else .stepping true rate (1000000 / rate) }
       rqp := { s.rqp with latched := s.rqp.latched ||| Cause.sawState.bit } }) ∧
  (∀ (s t u v : State) (p : Publication),
     t = (if p.state = .regulating then
       { s with alt := { s.alt with settle := s.alt.settle - 1, holdOff := s.alt.holdOff - 1 } } else s) →
     u = ((List.finRange 48).foldl (State.accrueSlot p.period) t).shedJudgement p →
     v = { u with alt := { u.alt with headroom := p.spare - u.alt.gOut } } →
     s.altPublication p = if p.state = .regulating ∧ u.alt.holdOff = 0 ∧ p.low = false then v.admissionPass else v) ∧
  (∀ (s : State) (i : Slot) (period : Nat),
     ((∀ r, s.record i = some r → r.state ≠ .live ∨ ∀ n, r.target ≠ .relay n) → s.accrueSlot period i = s) ∧
     (∀ (r r' : Allotment) (n : Fin Config.relays), s.record i = some r → r.state = .live → r.target = .relay n →
       r' = (if 3600000000 ≤ r.residue + r.claim * period then
           { r with used := min 65535 (r.used + 1), residue := r.residue + r.claim * period - 3600000000 }
         else { r with residue := r.residue + r.claim * period }) →
       ((r.quota = 0 ∨ r'.used < r.quota) →
         s.accrueSlot period i = { s with alt := { s.alt with slots := s.alt.slots.set i (some r') } }) ∧
       (0 < r.quota → r.quota ≤ r'.used → r.kind ≠ .saw → s.alt.strict = none →
         s.accrueSlot period i = { s with
           alt := { s.alt with
             slots := s.alt.slots.set i (some { r' with state := .held .quota, reason := some .quota })
             changed := s.alt.changed.set i true, relays := s.alt.relays.set n false }
           gov := s.gov.ballastStep s.params .up r.claim }))) ∧
  (∀ (s t : State) (p : Publication) (low : Nat), low = (if p.low then min 255 (s.alt.lowCount + 1) else 0) →
     (p.state ≠ .regulating → s.shedJudgement p = { s with alt := { s.alt with lowCount := 0 } }) ∧
     (p.state = .regulating → (low < s.param .shedDelay ∨ s.alt.settle ≠ 0 ∨ s.shedChoice = none) →
       s.shedJudgement p = { s with alt := { s.alt with lowCount := low } }) ∧
     (∀ i r, p.state = .regulating → s.param .shedDelay ≤ low → s.alt.settle = 0 → s.shedChoice = some i →
       s.record i = some r → s.alt.strict = none →
       t = { s with alt := { s.alt with
         settle := s.param .shedSettle, lowCount := 0, holdOff := s.param .restoreDelay
         changed := s.alt.changed.set i true } } →
       (∀ n, r.kind = .ordinary → r.target = .relay n → s.shedJudgement p = { t with
         alt := { t.alt with
           slots := s.alt.slots.set i (some { r with state := if r.wanted then .shed else .idle, reason := some .shed })
           relays := s.alt.relays.set n false }
         gov := s.gov.ballastStep s.params .up r.claim }) ∧
       (∀ u o, r.kind = .ordinary → r.target = .field u o → s.shedJudgement p = { t with
         alt := { t.alt with slots := s.alt.slots.set i (some { r with state := .releasing .shed, reason := some .shed }) }
         flc := s.flc.giveMark s.now .opening u }) ∧
       (r.kind = .saw → s.sawSlot = some i → r.trimmed = false →
         ∀ u : State, u = { t with
           alt := { t.alt with slots := s.alt.slots.set i (some { r with trimmed := true, reason := some .trimmed }) }
           gov := s.gov.ballastStep s.params .up (r.claim - r.idle) } →
         (s.saw.st ≠ .feeding → s.shedJudgement p = u) ∧
         (s.saw.st = .feeding → s.shedJudgement p = { u with
           saw := { s.saw with st := .feedWait, setting := none, cutWanted := true, feed := .idle, feedRate := 0 }
           rqp := { s.rqp with latched := s.rqp.latched ||| Cause.sawState.bit } })) ∧
       (r.kind = .saw → s.sawSlot = some i → r.trimmed = true → r.target = .clutch → s.active .clutchIn = true →
         ((s.shedJudgement p).alt = { t.alt with
             slots := s.alt.slots.set i (some { r with state := .releasing .shed, reason := some .shed })
             clutch := false, wait := some (.release (s.param .clutchTimeout * 1000)) } ∧
           (s.shedJudgement p).gov = s.gov ∧
           ((s.saw.st = .spinup ∨ s.saw.st = .setting ∨ s.saw.st = .feedWait ∨ s.saw.st = .feeding) →
             (s.shedJudgement p).saw.st = .halted ∧ (s.shedJudgement p).saw.feed = .idle ∧
             (s.shedJudgement p).saw.cutWanted = false)))))

/-- R21: the admission of a LOCAL record, in one act. -/
def Obligations.LocalAdmissionEndsLive : Prop :=
  ∀ (s : State) (i : Slot) (r : Allotment) (n : Fin Config.relays),
    s.record i = some r → (r.state = .pending ∨ r.state = .shed) → r.kind ≠ .saw → r.target = .relay n →
    s.serve i r = { s with
      alt := { s.alt with
        slots := s.alt.slots.set i (some { r with state := .live, reason := some .confirmed, starve := 0 })
        changed := s.alt.changed.set i true
        relays := s.alt.relays.set n true
        headroom := s.alt.headroom - r.claim
        strict := if s.alt.strict = some i then none else s.alt.strict }
      gov := s.gov.ballastStep s.params .down r.claim }

/-- R38, R39: a shed-all record by record, and what it does besides. -/
def Obligations.ShedAllSparesOnlyCritical : Prop :=
  ∀ (s : State) (reason : Reason) (i : Slot) (r : Allotment), s.record i = some r →
    (s.alt.strict = some i → s.isCandidate i = true ∧ r.state ≠ .live) →
    ((r.kind = .critical ∨ r.state = .idle ∨ r.state = .shed ∨ (∃ h, r.state = .held h) ∨ ∃ d, r.state = .releasing d) →
      (s.shedAll reason).record i = some r) ∧
    (r.kind ≠ .critical → r.state = .pending →
      (s.shedAll reason).record i = some { r with state := .shed, reason := some reason }) ∧
    (r.kind = .ordinary → (r.state = .granted ∨ r.state = .live) → ∀ n, r.target = .relay n →
      (s.shedAll reason).record i =
        some { r with state := if r.wanted then .shed else .idle, reason := some reason } ∧
      (s.shedAll reason).alt.relays.get n = false) ∧
    (r.kind = .ordinary → (r.state = .granted ∨ r.state = .live) → ∀ u o, r.target = .field u o →
      (s.shedAll reason).record i = some { r with state := .releasing .shed, reason := some reason } ∧
      ∀ e, s.flc.units.get u = some e → e.reach ≠ .missing → s.flc.visitTo u = none →
        ∃ e', (s.shedAll reason).flc.units.get u = some e' ∧ e'.mark.map Mark.cls = some .opening) ∧
    (r.kind = .saw → (r.state = .granted ∨ r.state = .live) → r.target = .clutch →
      (s.shedAll reason).alt.clutch = false ∧
      (s.shedAll reason).record i = some
        (if s.active .clutchIn then { r with state := .releasing .shed, reason := some reason }
        else { r with state := if r.wanted then .shed else .idle, reason := some reason, trimmed := true })) ∧
    ((s.shedAll reason).alt.holdOff = s.param .restoreDelay ∧ (s.shedAll reason).alt.lowCount = 0 ∧
      (s.shedAll reason).alt.settle = s.alt.settle ∧ (s.shedAll reason).flc.allOpenOwed = true)

/-- R6, R38: no two records ever name the same target, and no CRITICAL record is ever SHED or RELEASING toward SHED: every
step keeps each so. -/
def Obligations.RecordsStayDistinctAndCriticalKept : Prop :=
  ∀ s t : State, step s = .next t → (s.TargetsOk → t.TargetsOk) ∧ (s.CriticalOk → t.CriticalOk)

/-! ## The governor -/

/-- R58, R73: an accepted tach edge stamps the timebase and restarts the loss timer; with a stamp present the period is handed
to GOV, which measures from the clamped period. The end of a pulse stamps nothing. R72 to R75, R79, R86: what an interval
makes of the governor's state, counts and timers; the ballast's own values follow ALT's steps and are left open there. R75,
R71, R78: entry into REGULATING puts the ballast at its full bank, and so it stays where ALT has no record to move. -/
def Obligations.TachEdgeGivesAnInterval : Prop :=
  (∀ (s : State) (began : Nat), s.inReset = false → (s.chan .tach).candidate = some began → ∃ t,
     exec (.debounceAccept .tach) s = .next t ∧ (t.chan .tach).level = (s.chan .tach).raw ∧
     (t.chan .tach).candidate = none ∧
     ((s.chan .tach).raw = false → t.inu.lastStamp = s.inu.lastStamp ∧ t.gov = s.gov ∧ t.alt = s.alt ∧ t.saw = s.saw) ∧
     ((s.chan .tach).raw = true →
       t.inu.lastStamp = some (BitVec.ofNat 32 s.now) ∧ t.inu.lossTimer = some 60000 ∧
       (s.inu.lastStamp = none → t.inu.lastPeriod = s.inu.lastPeriod ∧ t.gov = s.gov ∧ t.alt = s.alt ∧ t.saw = s.saw) ∧
       (∀ stamp, s.inu.lastStamp = some stamp →
         t.inu.lastPeriod = BitVec.ofNat 32 s.now - stamp ∧
         t.gov.fMeas = 100000000 / max 12500 (min 50000 (BitVec.ofNat 32 s.now - stamp).toNat) ∧
         2000 ≤ t.gov.fMeas ∧ t.gov.fMeas ≤ 8000))) ∧
  (∀ (s t : State) (handed f : Nat) (g : Gov), f = 100000000 / max 12500 (min 50000 handed) →
     t = s.enterRegulating →
     g = { s.gov.endRunupMove with
       st := .regulating, fPrev := none, collapse := 0, runupTimer := none
       trimTimer := some (s.param .trimPeriod * 1000000), bAcc := 16 * s.param .bCap
       duty := if s.param .bCap = 0 then 0 else 1023, spare := s.param .bCap - s.param .reserve } →
     t.gov = g ∧ t.alt = s.alt ∧ t.saw = s.saw ∧
     (s.gov.st = .runUp → f < s.param .fTrip → s.param .fSet - 50 ≤ f → s.alt.strict = none →
       (∀ i r, s.record i = some r → r.state = .idle ∨ ∃ h, r.state = .held h) →
       (s.interval handed).gov = { g with fMeas := f, overspeed := 0 })) ∧
  (∀ (s : State) (handed f count : Nat), f = 100000000 / max 12500 (min 50000 handed) →
     count = (if s.param .fTrip ≤ f then s.gov.overspeed + 1 else 0) →
     (s.gov.st = .stopped ∨ s.gov.st = .stopping ∨ s.gov.st = .tripped →
       (s.interval handed).gov = { s.gov with fMeas := f }) ∧
     (s.gov.st = .runUp → count ≠ 3 → f < s.param .fSet - 50 →
       (s.interval handed).gov = { s.gov with fMeas := f, overspeed := count }) ∧
     (s.gov.st = .runUp → count ≠ 3 → s.param .fSet - 50 ≤ f → ∃ b d w,
       (s.interval handed).gov = { s.gov.endRunupMove with
         st := .regulating, fMeas := f, fPrev := none, overspeed := count, collapse := 0, runupTimer := none
         trimTimer := some (s.param .trimPeriod * 1000000), bAcc := b, duty := d, spare := w }) ∧
     (s.gov.st = .regulating → count ≠ 3 → ∃ b d w,
       (s.interval handed).gov = { s.gov with
         fMeas := f, fPrev := some f, overspeed := count
         collapse := if s.param .fFloor < f ∨ s.gov.collapse = 4 then 0 else s.gov.collapse + 1
         bAcc := b, duty := d, spare := w }) ∧
     (s.gov.st = .hold → count ≠ 3 → ∃ b d w,
       (s.interval handed).gov = { s.gov with
         st := .regulating, fMeas := f, fPrev := some f, overspeed := count
         collapse := if s.param .fFloor < f then 0 else 1
         holdTimer := none, trimTimer := some (s.param .trimPeriod * 1000000), bAcc := b, duty := d, spare := w }) ∧
     (s.gov.st = .runUp ∨ s.gov.st = .regulating ∨ s.gov.st = .hold → count = 3 →
       (s.interval handed).gov.st = .tripped ∧ (s.interval handed).gov.cause = .overspeed ∧
       (s.interval handed).gov.fMeas = f ∧ (s.interval handed).gov.duty = 1023 ∧ (s.interval handed).gov.spare = 0))

/-- R76, R77, R78, R71: stage 5 of a regulating interval. R81: ballast steps. -/
def Obligations.BallastFollowsItsLaw : Prop :=
  (∀ (g : Gov) (params : Params), g.st = .regulating → ∃ b : Nat,
     (b : Int) = max 0 (min ((16 * params.get .bCap : Nat) : Int)
       ((g.bAcc : Int) + (params.get .kp * ((g.fMeas : Int) - ((g.fPrev.getD g.fMeas : Nat) : Int)) +
         params.get .ki * ((g.fMeas : Int) - params.get .fSet)))) ∧
     g.regulate params = { g with
       bAcc := b, fPrev := some g.fMeas, spare := b / 16 - params.get .reserve
       duty := if params.get .bCap = 0 then 0 else (b * 1023 + 8 * params.get .bCap) / (16 * params.get .bCap) }) ∧
  (∀ (g : Gov) (params : Params) (dir : StepDir) (w b : Nat), w ≠ 0 →
     b = (match dir with | .down => g.bAcc - 16 * w | .up => min (16 * params.get .bCap) (g.bAcc + 16 * w)) →
     (g.st = .regulating → g.ballastStep params dir w =
       { g with bAcc := b, spare := b / 16 - params.get .reserve
                duty := if params.get .bCap = 0 then 0
                  else (b * 1023 + 8 * params.get .bCap) / (16 * params.get .bCap) }) ∧
     (g.st = .hold → g.ballastStep params dir w = { g with bAcc := b }) ∧
     (g.st ≠ .regulating → g.st ≠ .hold → g.ballastStep params dir w = g) ∧ g.ballastStep params dir 0 = g)

/-- R70, R78, R92, R155: the accumulator lies within the bank and outside REGULATING and HOLD the duty is 1023; the spare is
0 outside REGULATING; the gate stays within its span, the cut list within its places: every step keeps each so. -/
def Obligations.BallastSpareGateAndCutsStayInRange : Prop :=
  ∀ s t : State, step s = .next t →
    (s.BallastOk → t.BallastOk) ∧ (s.SpareOk → t.SpareOk) ∧ (s.GateOk → t.GateOk) ∧ (s.CutsOk → t.CutsOk)

/-- R88: a trip. -/
def Obligations.TripClosesTheGateAndSheds : Prop :=
  ∀ (s : State) (cause : TripCause), ∃ t, t = s.trip cause ∧
    t.gov = { s.gov with
      st := .tripped, cause, duty := 1023, spare := 0, fPrev := none, overspeed := 0, collapse := 0
      holdTimer := none, runupTimer := none, trimTimer := none
      gateDir := if cause = .gateFault then s.gov.gateDir else .closing
      move := if cause = .gateFault ∨ s.active .gateShut then none
        else some { purpose := .shut, dir := .closing, issued := 0
                    asked := (if s.gov.gateValid then s.gov.gatePos else s.param .gateSpan) + 100 }
      stepTimer := if cause = .gateFault ∨ s.active .gateShut then none else some (1000000 / s.param .gateRate)
      gatePos := if cause ≠ .gateFault ∧ s.active .gateShut then 0 else s.gov.gatePos
      gateValid := if cause = .gateFault then false else (s.gov.gateValid || s.active .gateShut) } ∧
    t.alt.headroom = 0 ∧ t.alt.holdOff = s.param .restoreDelay ∧ t.flc.allOpenOwed = true ∧
    (∀ i r, t.record i = some r → r.kind ≠ .critical → r.state ≠ .granted ∧ r.state ≠ .live ∧ r.state ≠ .pending) ∧
    t.rqp.latched.getLsbD 3 = true ∧ t.inu = s.inu ∧ t.params = s.params

/-- R99, R100: START begins RUN_UP with its first move. R90, R97: CLEAR_TRIP and GATE_HOME. -/
def Obligations.StartClearTripAndGateHome : Prop :=
  (∀ s : State, s.Ready →
     ((s.gov.st ≠ .stopped ∨ s.param .bCap = 0 ∨ s.gov.gateValid = false) →
       exec .start s = .next (s.answered .wrongState [])) ∧
     (s.gov.st = .stopped → s.param .bCap ≠ 0 → s.gov.gateValid = true →
       (s.inu.estopLatch = true → exec .start s = .next (s.answered .latched [])) ∧
       (s.inu.estopLatch = false → s.active .lowWater = true → exec .start s = .next (s.answered .wrongState [])) ∧
       (s.inu.estopLatch = false → s.active .lowWater = false → s.active .gateFull = false → s.saw.st ≠ .feeding →
         exec .start s = .next ({ s with
           gov := { s.gov with
             st := .runUp, duty := 1023, spare := 0, fPrev := none, overspeed := 0, collapse := 0
             holdTimer := none, trimTimer := none, runupTimer := some (s.param .runupInterval * 1000000)
             gateDir := .opening, stepTimer := some (1000000 / s.param .gateRate)
             move := some { purpose := .runUp, dir := .opening, asked := s.param .runupStep, issued := 0 } }
           alt := { s.alt with headroom := 0 }
           saw := { s.saw with scale := 0 }
           rqp := { s.rqp with latched := s.rqp.latched ||| Cause.govState.bit } }.answered .accepted [])))) ∧
  (∀ s : State, s.Ready → s.saw.st ≠ .feeding →
     (s.gov.st = .tripped → s.inu.estopLatch = false → (s.gov.cause = .gateFault ∨ s.active .gateShut = true) →
       exec .clearTrip s = .next ({ s with
         gov := { s.gov with
           st := .stopped, duty := 1023, spare := 0, fPrev := none, overspeed := 0, collapse := 0
           holdTimer := none, runupTimer := none, trimTimer := none }
         alt := { s.alt with headroom := 0 }
         saw := { s.saw with scale := 0 }
         rqp := { s.rqp with latched := s.rqp.latched ||| Cause.govState.bit } }.answered .done [])) ∧
     ((s.gov.st ≠ .tripped ∨ s.inu.estopLatch = true ∨ (s.gov.cause ≠ .gateFault ∧ s.active .gateShut = false)) →
       exec .clearTrip s = .next (s.answered .wrongState [])) ∧
     (s.gov.st ≠ .stopped → exec .gateHome s = .next (s.answered .wrongState [])) ∧
     (s.gov.st = .stopped → s.gov.move ≠ none → exec .gateHome s = .next (s.answered .busy [])) ∧
     (s.gov.st = .stopped → s.gov.move = none → s.active .gateShut = false →
       exec .gateHome s = .next ({ s with gov := { s.gov with
         gateValid := false, gatePos := 0, gateDir := .closing, stepTimer := some (1000000 / s.param .gateRate)
         move := some { purpose := .shut, dir := .closing, asked := s.param .gateSpan + 100, issued := 0 } } }.answered
           .accepted [])) ∧
     (s.gov.st = .stopped → s.gov.move = none → s.active .gateShut = true →
       exec .gateHome s = .next ({ s with
         gov := { s.gov with gateValid := true, gatePos := 0, gateDir := .closing, stepTimer := none }
         rqp := { s.rqp with latched := s.rqp.latched ||| Cause.govState.bit } }.answered .accepted [])))

/-- R104, R105: STOP; with the gate already shut it ends in STOPPED at once. -/
def Obligations.StopShedsAndCloses : Prop :=
  ∀ s : State, s.Ready →
    ((s.gov.st = .stopped ∨ s.gov.st = .stopping ∨ s.gov.st = .tripped) →
      exec .stop s = .next (s.answered .wrongState [])) ∧
    ((s.gov.st = .runUp ∨ s.gov.st = .regulating ∨ s.gov.st = .hold) → ∃ t, exec .stop s = .next t ∧
      t.rqp.exec = some ⟨.accepted, []⟩ ∧
      t.gov = { s.gov with
        st := if s.active .gateShut then .stopped else .stopping
        duty := 1023, spare := 0, fPrev := none, overspeed := 0, collapse := 0
        holdTimer := none, runupTimer := none, trimTimer := none, gateDir := .closing
        move := if s.active .gateShut then none
          else some { purpose := .shut, dir := .closing, issued := 0
                      asked := (if s.gov.gateValid then s.gov.gatePos else s.param .gateSpan) + 100 }
        stepTimer := if s.active .gateShut then none else some (1000000 / s.param .gateRate)
        gatePos := if s.active .gateShut then 0 else s.gov.gatePos
        gateValid := s.gov.gateValid || s.active .gateShut } ∧
      t.alt.headroom = 0 ∧ t.alt.holdOff = s.param .restoreDelay ∧
      (∀ i r, t.record i = some r → r.kind ≠ .critical →
        r.state ≠ .granted ∧ r.state ≠ .live ∧ r.state ≠ .pending) ∧
      t.rqp.latched.getLsbD 3 = true ∧ t.inu = s.inu ∧ t.params = s.params)

/-- R59, R84, R85: the loss timer drops the stamp; tach-lost zeroes the counts and turns REGULATING into HOLD. R86, R100,
R101: the hold timer trips; the run-up timer waits for a move in flight, begins the next move, or at gate_span trips. R102,
R103: the trim timer restarts and the trim is decided; that a CLOSE trim at position 0 with GATE_SHUT inactive is in flight
until its first step expiry, where R103 ends it with no step, is log 35's choice. R71: the PWM period takes the duty (its
phase is log 30's). Arbitration at the end of an act is log 9's. -/
def Obligations.GovernorTimersRunOut : Prop :=
  (∀ s : State, s.inReset = false → s.inu.lossTimer ≠ none →
     (s.gov.st ≠ .regulating → exec .tachLossTimer s = .next { s with
       inu := { s.inu with lastStamp := none, lossTimer := none }
       gov := { s.gov with overspeed := 0, collapse := 0 } }) ∧
     (s.gov.st = .regulating → s.saw.st ≠ .feeding → exec .tachLossTimer s = .next { s with
       inu := { s.inu with lastStamp := none, lossTimer := none }
       gov := { s.gov with
         st := .hold, overspeed := 0, collapse := 0, spare := 0, fPrev := none, trimTimer := none
         holdTimer := some (s.param .holdLimit * 1000) }
       alt := { s.alt with headroom := 0 }
       saw := { s.saw with scale := 0 }
       rqp := { s.rqp with latched := s.rqp.latched ||| Cause.govState.bit } })) ∧
  (∀ s : State, s.inReset = false →
     (s.gov.st = .hold → s.gov.holdTimer ≠ none → exec .holdTimerExpiry s = .next (s.trip .tachLost).arbitrate) ∧
     (s.gov.st = .runUp → s.gov.runupTimer ≠ none → s.gov.move ≠ none →
       exec .runupTimerExpiry s = .next ({ s with gov := { s.gov with runupTimer := none } }.arbitrate)) ∧
     (s.gov.st = .runUp → s.gov.runupTimer ≠ none → s.gov.move = none → s.gov.gatePos < s.param .gateSpan →
       s.active .gateFull = false →
       exec .runupTimerExpiry s = .next ({ s with gov := { s.gov with
         runupTimer := some (s.param .runupInterval * 1000000), gateDir := .opening
         stepTimer := some (1000000 / s.param .gateRate)
         move := some { purpose := .runUp, dir := .opening, asked := s.param .runupStep, issued := 0 } } }.arbitrate)) ∧
     (s.gov.st = .runUp → s.gov.runupTimer ≠ none → s.gov.move = none → s.param .gateSpan ≤ s.gov.gatePos →
       exec .runupTimerExpiry s =
         .next (({ s with gov := { s.gov with runupTimer := none } }.trip .runupFail).arbitrate))) ∧
  (∀ (s : State) (g : Gov) (w : Nat), s.inReset = false → s.gov.st = .regulating → s.gov.trimTimer ≠ none →
     g = { s.gov with trimTimer := some (s.param .trimPeriod * 1000000) } → w = s.gov.bAcc / 16 →
     (s.gov.move ≠ none → exec .trimTimerExpiry s = .next { s with gov := g }) ∧
     (s.gov.move = none → (s.active .lowWater = true ∨ s.param .bCap * s.param .trimHighPct / 100 < w) →
       s.active .gateShut = false →
       exec .trimTimerExpiry s = .next { s with gov := { g with
         gateDir := .closing, stepTimer := some (1000000 / s.param .gateRate)
         move := some { purpose := .trim, dir := .closing, asked := s.param .trimStep, issued := 0 } } }) ∧
     (s.gov.move = none → s.active .lowWater = false → w ≤ s.param .bCap * s.param .trimHighPct / 100 →
       w < s.param .bCap * s.param .trimLowPct / 100 → s.gov.gatePos < s.param .gateSpan → s.active .gateFull = false →
       exec .trimTimerExpiry s = .next { s with gov := { g with
         gateDir := .opening, stepTimer := some (1000000 / s.param .gateRate)
         move := some { purpose := .trim, dir := .opening, asked := s.param .trimStep, issued := 0 } } }) ∧
     (s.gov.move = none → s.active .lowWater = false → w ≤ s.param .bCap * s.param .trimHighPct / 100 →
       (s.param .bCap * s.param .trimLowPct / 100 ≤ w ∨ s.param .gateSpan ≤ s.gov.gatePos) →
       exec .trimTimerExpiry s = .next { s with gov := g })) ∧
  (∀ s : State, s.inReset = false →
     exec .ballastPwmPeriod s = .next { s with gov := { s.gov with pwmDuty := s.gov.duty, pwmTimer := some 4000 } })

/-- R93, R95, R100, R103: a gate step moves the position by one within the span; the step that completes a move ends it,
and a shut move completed without GATE_SHUT is a gate fault, in STOPPED an invalid gate (R97). R100, R101: a run-up move that
completes with its timer run out is followed at once by the next, or at gate_span by the trip. Arbitration at the end of an act
is log 9's. -/
def Obligations.GateStepFollowsTheMove : Prop :=
  ∀ (s : State) (m : Move) (left pos : Nat), s.inReset = false → s.gov.stepTimer = some left → s.gov.move = some m →
    pos = (match m.dir with | .opening => s.gov.gatePos + 1 | .closing => s.gov.gatePos - 1) →
    ((m.dir = .opening → s.gov.gatePos < s.param .gateSpan) → (m.dir = .closing → m.purpose ≠ .shut → 0 < s.gov.gatePos) →
      (m.issued + 1 < m.asked → exec .gateStepTimer s = .next ({ s with gov := { s.gov with
        gatePos := pos, move := some { m with issued := m.issued + 1 }
        stepTimer := some (1000000 / s.param .gateRate) } }.arbitrate)) ∧
      (m.asked ≤ m.issued + 1 → m.purpose = .trim ∨ (m.purpose = .runUp ∧ s.gov.runupTimer ≠ none) →
        exec .gateStepTimer s = .next ({ s with gov := { s.gov with
          gatePos := pos, move := none, stepTimer := none } }.arbitrate)) ∧
      (m.asked ≤ m.issued + 1 → m.purpose = .shut → s.gov.st = .stopping →
        exec .gateStepTimer s = .next (({ s with gov := { s.gov with
          gatePos := pos, move := none, stepTimer := none } }.trip .gateFault).arbitrate)) ∧
      (m.asked ≤ m.issued + 1 → m.purpose = .shut → s.gov.st = .tripped →
        exec .gateStepTimer s = .next ({ s with
          gov := { s.gov with
            gatePos := pos, move := none, stepTimer := none, cause := .gateFault, gateValid := false }
          rqp := { s.rqp with latched := s.rqp.latched ||| Cause.govState.bit } }.arbitrate)) ∧
      (m.asked ≤ m.issued + 1 → m.purpose = .shut → s.gov.st = .stopped →
        exec .gateStepTimer s = .next ({ s with
          gov := { s.gov with gatePos := pos, move := none, stepTimer := none, gateValid := false }
          rqp := { s.rqp with latched := s.rqp.latched ||| Cause.govState.bit } }.arbitrate)) ∧
      (m.asked ≤ m.issued + 1 → m.purpose = .runUp → m.dir = .opening → s.gov.st = .runUp → s.gov.runupTimer = none →
        (s.param .gateSpan ≤ pos → exec .gateStepTimer s = .next (({ s with gov := { s.gov with
          gatePos := pos, move := none, stepTimer := none } }.trip .runupFail).arbitrate)) ∧
        (pos < s.param .gateSpan → s.active .gateFull = false →
          exec .gateStepTimer s = .next ({ s with gov := { s.gov with
            gatePos := pos, runupTimer := some (s.param .runupInterval * 1000000), gateDir := .opening
            stepTimer := some (1000000 / s.param .gateRate)
            move := some { purpose := .runUp, dir := .opening, asked := s.param .runupStep, issued := 0 } } }.arbitrate)) ∧
        (pos < s.param .gateSpan → s.active .gateFull = true →
          exec .gateStepTimer s = .next ({ s with gov := { s.gov with
            gatePos := s.param .gateSpan, runupTimer := some (s.param .runupInterval * 1000000), gateDir := .opening
            stepTimer := none, move := none } }.arbitrate)))) ∧
    (m.purpose = .trim → ((m.dir = .opening ∧ s.param .gateSpan ≤ s.gov.gatePos) ∨ (m.dir = .closing ∧ s.gov.gatePos = 0)) →
      exec .gateStepTimer s = .next ({ s with gov := { s.gov with move := none, stepTimer := none } }.arbitrate))

/-! ## The inputs -/

/-- R52, R53: a raw change begins or drops the candidate. R53, R54, R94, R105: an accepted change takes the raw state;
LOW_WATER hands nothing on; GATE_SHUT becoming active ends the closing move of STOPPING in STOPPED, the gate at 0 and
valid; without a candidate nothing is accepted and the command only arbitrates (the model's choice, logs 7, 9). While a reset
lasts a pin changes its level alone (log 6). R94, R97, R101: a gate limit becoming active ends the move toward it with the
position set; GATE_FULL ends an opening move, which where its run-up timer has run out is the trip RUNUP_FAIL. -/
def Obligations.InputChangesAreDebounced : Prop :=
  (∀ (s : State) (c : Channel) (high : Bool) (x : Chan), x = s.chan c →
     (s.inReset = false → exec (.inputRawChange c high) s = .next { s with inu := { s.inu with
       chans := s.inu.chans.set (channelNumber c) { x with
         pin := high
         candidate := if (high != x.activeLow) = x.level then none else some (x.candidate.getD s.now) } } }) ∧
     (s.inReset = true → exec (.inputRawChange c high) s = .next { s with inu := { s.inu with
       chans := s.inu.chans.set (channelNumber c) { x with pin := high } } })) ∧
  (∀ (s : State) (c : Channel) (x : Chan), s.inReset = false → x = s.chan c →
     (x.candidate = none → exec (.debounceAccept c) s = .next s.arbitrate) ∧
     (x.candidate ≠ none → (c = .lowWater ∨ (c ≠ .clutchIn ∧ x.raw = false)) →
       exec (.debounceAccept c) s = .next ({ s with inu := { s.inu with
         chans := s.inu.chans.set (channelNumber c) { x with level := x.raw, candidate := none } } }.arbitrate)) ∧
     (∀ m, x.candidate ≠ none → c = .gateShut → x.raw = true → s.gov.st = .stopping → s.gov.move = some m →
       m.dir = .closing → m.purpose = .shut → s.saw.st ≠ .feeding →
       exec (.debounceAccept c) s = .next ({ s with
         inu := { s.inu with
           chans := s.inu.chans.set (channelNumber c) { x with level := true, candidate := none } }
         gov := { s.gov with
           st := .stopped, duty := 1023, spare := 0, fPrev := none, overspeed := 0, collapse := 0, holdTimer := none
           runupTimer := none, trimTimer := none, move := none, stepTimer := none, gatePos := 0, gateValid := true }
         alt := { s.alt with headroom := 0 }
         saw := { s.saw with scale := 0 }
         rqp := { s.rqp with latched := s.rqp.latched ||| Cause.govState.bit } }.arbitrate))) ∧
  (∀ (s t : State) (c : Channel) (x : Chan), s.inReset = false → x = s.chan c → x.candidate ≠ none → x.raw = true →
     (c = .gateFull ∨ c = .gateShut) →
     t = { s with inu := { s.inu with
       chans := s.inu.chans.set (channelNumber c) { x with level := true, candidate := none } } } →
     ((∀ m, s.gov.move = some m → m.dir ≠ if c = .gateFull then .opening else .closing) →
       exec (.debounceAccept c) s = .next t.arbitrate) ∧
     (∀ (m : Move) (full : State), c = .gateFull → s.gov.move = some m → m.dir = .opening →
       full = { t with gov := { s.gov with move := none, stepTimer := none, gatePos := s.param .gateSpan } } →
       ((m.purpose = .trim ∨ (m.purpose = .runUp ∧ (s.gov.st ≠ .runUp ∨ s.gov.runupTimer ≠ none))) →
         exec (.debounceAccept c) s = .next full.arbitrate) ∧
       (m.purpose = .runUp → s.gov.st = .runUp → s.gov.runupTimer = none →
         exec (.debounceAccept c) s = .next (full.trip .runupFail).arbitrate)) ∧
     (∀ (m : Move) (shut : State), c = .gateShut → s.gov.move = some m → m.dir = .closing →
       shut = { t with gov := { s.gov with move := none, stepTimer := none, gatePos := 0, gateValid := true } } →
       ((m.purpose = .trim ∨ (m.purpose = .shut ∧ s.gov.st = .tripped)) →
         exec (.debounceAccept c) s = .next shut.arbitrate) ∧
       (m.purpose = .shut → s.gov.st = .stopped → exec (.debounceAccept c) s = .next ({ shut with
         rqp := { s.rqp with latched := s.rqp.latched ||| Cause.govState.bit } }.arbitrate))))

/-- R56, R87, R172: a change of ESTOP or GUARD to active sets its latch, raises INPUT, trips the governor (ESTOP) and
faults the saw; a latch already set hands nothing on. -/
def Obligations.EmergencyStopLatches : Prop :=
  ∀ (s : State) (c : Channel), s.inReset = false → (s.chan c).candidate ≠ none → (s.chan c).raw = true →
    (c = .estop ∨ c = .guard) → ∃ t, exec (.debounceAccept c) s = .next t ∧ (t.chan c).level = true ∧
      (c = .estop → t.inu.estopLatch = true ∧ t.inu.guardLatch = s.inu.guardLatch) ∧
      (c = .guard → t.inu.guardLatch = true ∧ t.inu.estopLatch = s.inu.estopLatch ∧ t.gov.st = s.gov.st) ∧
      (c = .estop → s.inu.estopLatch = false → t.rqp.latched.getLsbD 6 = true ∧
        (s.gov.st = .stopped ∨ s.gov.st = .tripped → t.gov.st = s.gov.st ∧ t.gov.cause = s.gov.cause) ∧
        (s.gov.st ≠ .stopped → s.gov.st ≠ .tripped →
          t.gov.st = .tripped ∧ t.gov.cause = .estop ∧ t.gov.duty = 1023 ∧ t.rqp.latched.getLsbD 3 = true) ∧
        t.saw.st = .fault ∧ (s.saw.st ≠ .fault → t.saw.cause = .estop ∧ t.rqp.latched.getLsbD 5 = true) ∧
        (s.saw.st = .fault → t.saw.cause = s.saw.cause)) ∧
      (c = .guard → s.inu.guardLatch = false → t.rqp.latched.getLsbD 6 = true ∧
        (s.saw.st = .idle ∨ s.saw.st = .fault → t.saw = s.saw) ∧
        (s.saw.st ≠ .idle → s.saw.st ≠ .fault →
          t.saw.st = .fault ∧ t.saw.cause = .guard ∧ t.rqp.latched.getLsbD 5 = true)) ∧
      ((c = .estop ∧ s.inu.estopLatch = true) ∨ (c = .guard ∧ s.inu.guardLatch = true) →
        t.gov = s.gov ∧ t.saw = s.saw ∧ t.alt = s.alt ∧ t.rqp = s.rqp)

/-- R55, R57, R60: INPUT_SETUP and INPUT_CLEAR. A candidate that has already run the new filter time is accepted in the
act, which the clauses below leave out. -/
def Obligations.InputRequests : Prop :=
  ∀ (s : State) (channel polarity filter : Byte), s.Ready →
    ((9 < channel.toNat ∨ 1 < polarity.toNat ∨ 3 < filter.toNat) →
      exec (.inputSetup channel polarity filter) s = .next (s.answered .badField [])) ∧
    (∀ (c : Channel) (x : Chan) (stored : Nat) (candidate : Option Nat), (channelNumber c).val = channel.toNat →
      polarity.toNat ≤ 1 → filter.toNat ≤ 3 → x = s.chan c →
      stored = (if c = .tach ∧ 2 ≤ filter.toNat then 1 else filter.toNat) →
      candidate = (if (x.pin != (polarity == 1)) = x.level then none else some (x.candidate.getD s.now)) →
      (∀ began, candidate = some began →
        s.now < began + (if stored = 0 then 100 else if stored = 1 then 1000 else if stored = 2 then 10000 else 50000)) →
      (x.activeLow ≠ (polarity == 1) ∨ x.filter ≠ stored) →
      exec (.inputSetup channel polarity filter) s =
        .next (({ s with inu := { s.inu with
          lastStamp := if c = Channel.tach then none else s.inu.lastStamp
          chans := s.inu.chans.set (channelNumber c)
            { x with activeLow := polarity == 1, filter := stored, candidate } } }.arbitrate).answered
          (if stored = filter.toNat then .done else .clamped) [channel, polarity, BitVec.ofNat 8 stored])) ∧
    (s.active .guard = false → exec (.inputClear 7) s =
      .next ({ s with inu := { s.inu with guardLatch := false } }.answered .done [])) ∧
    (s.active .estop = false → exec (.inputClear 8) s =
      .next ({ s with inu := { s.inu with estopLatch := false } }.answered .done [])) ∧
    (s.active .guard = true → exec (.inputClear 7) s = .next (s.answered .latched [])) ∧
    (s.active .estop = true → exec (.inputClear 8) s = .next (s.answered .latched [])) ∧
    (channel.toNat ≠ 7 → channel.toNat ≠ 8 → exec (.inputClear channel) s = .next (s.answered .badField []))

/-- R62, R63, R64: each move of A and B counts by its direction; a reverse edge with Z high homes the count, which SAW
takes in RETURNING only. -/
def Obligations.EncoderCountsByDirection : Prop :=
  ∀ (s : State) (a b z : Bool) (u : Inu), s.inReset = false →
    u = { s.inu with pinA := a, pinB := b, pinZ := z, quadA := a, quadB := b } →
    ((a, b) = (s.inu.quadA, s.inu.quadB) → exec (.encoderChange a b z) s = .next { s with inu := u }) ∧
    ((a, b) = (!s.inu.quadB, s.inu.quadA) →
      exec (.encoderChange a b z) s = .next { s with inu := { u with count := u.count + 1 } }) ∧
    ((a, b) = (s.inu.quadB, !s.inu.quadA) → z = false →
      exec (.encoderChange a b z) s = .next { s with inu := { u with count := u.count - 1 } }) ∧
    ((a, b) = (s.inu.quadB, !s.inu.quadA) → z = true → s.saw.st ≠ .returning →
      exec (.encoderChange a b z) s = .next { s with inu := { u with count := 0, homed := true } }) ∧
    ((a, b) = (!s.inu.quadA, !s.inu.quadB) →
      exec (.encoderChange a b z) s = .next { s with inu := { u with homed := false } })

/-! ## The field line -/

/-- R141, R142, R147: a mark given to a unit: kept nowhere without an entry; a new mark, a raised class with the time
kept, or no change; held at ROUTINE with the class owed while the unit is MISSING; recorded against a visit in flight
before or after its cut point. -/
def Obligations.MarksRiseAndKeepTheirTime : Prop :=
  ∀ (f : Flc) (now : Nat) (cls : MarkClass) (u : UnitIx),
    (f.units.get u = none → f.giveMark now cls u = f) ∧
    (∀ e, f.units.get u = some e → f.visitTo u = none →
      (e.reach ≠ .missing → f.giveMark now cls u = { f with units := f.units.set u (some { e with
        mark := match e.mark with
          | none => some ⟨cls, now⟩
          | some m => if m.cls.rank < cls.rank then some ⟨cls, m.time⟩ else some m }) }) ∧
      (e.reach = .missing → (e.mark = none ∨ ∃ time, e.mark = some ⟨.routine, time⟩) →
        f.giveMark now cls u = { f with units := f.units.set u (some { e with
          mark := some (e.mark.getD ⟨.routine, now⟩)
          owed := if cls = .routine then e.owed else match e.owed with
            | none => some cls
            | some c => if c.rank < cls.rank then some cls else some c }) })) ∧
    (∀ e v, f.units.get u = some e → e.reach ≠ .missing → f.tx = some (.visit v) → v.unit = u → v.dropped = false →
      (v.cut = false → v.before = none →
        f.giveMark now cls u = { f with units := f.units.set u (some e)
                                        tx := some (.visit { v with before := some ⟨cls, now⟩ }) }) ∧
      (v.cut = true → v.after = none →
        f.giveMark now cls u = { f with units := f.units.set u (some e)
                                        tx := some (.visit { v with after := some ⟨cls, now⟩ }) }))

/-- R145: the free line is handed to the first class of Table 8-3 that has work, within a class to the unit marked
earliest, then to the lowest index; a line in use stays as it is. -/
def Obligations.LineGoesToTheMostUrgentWork : Prop :=
  ∀ f : Flc,
    (f.tx ≠ none → f.arbitrate = f) ∧
    (f.tx = none → f.allOpenOwed = true → f.arbitrate = { f with tx := some .broadcast, allOpenOwed := false }) ∧
    (f.tx = none → f.allOpenOwed = false →
      (∀ (cls : MarkClass) (u : UnitIx) (e : UnitEntry) (m : Mark),
        f.units.get u = some e → e.mark = some m → m.cls = cls →
        (∀ v e' m', f.units.get v = some e' → e'.mark = some m' →
          m'.cls.rank ≤ cls.rank ∧ (m'.cls = cls → m.time < m'.time ∨ (m.time = m'.time ∧ u ≤ v))) →
        (f.sweep.isOpen = true → 2 ≤ cls.rank) → (f.enrol.running = true → 1 ≤ cls.rank) →
        f.arbitrate = { f with
          units := f.units.set u (some { e with mark := none })
          tx := some (.visit
            { unit := u, identity := e.identity, cls, dropped := false
              outlets := match e.plate with | some p => p.outlets | none => 0
              block := if e.plateOwed then .readPlate else .readStatus
              begun := false, asked := false, cut := false, before := none, after := none }) }) ∧
      ((∀ v e' m', f.units.get v = some e' → e'.mark = some m' → m'.cls.rank < 2) → f.sweep.isOpen = true →
        f.arbitrate = { f with tx := some (.seek .sweep) }) ∧
      ((∀ v e' m', f.units.get v = some e' → e'.mark = some m' → m'.cls.rank < 1) → f.sweep.isOpen = false →
        f.enrol.running = true → f.arbitrate = { f with tx := some (.seek .enrolment) }) ∧
      ((∀ v e', f.units.get v = some e' → e'.mark = none) → f.sweep.isOpen = false → f.enrol.running = false →
        f.arbitrate = f))

/-- R136, R137, R139, R140: ENROL, ADOPT, DROP_UNIT and TAKE_FOUND. -/
def Obligations.UnitRequests : Prop :=
  ∀ s : State, s.Ready →
    (s.flc.enrol.running = true → exec .enrol s = .next (s.answered .busy [])) ∧
    (s.flc.enrol.running = false → exec .enrol s =
      .next ({ s with flc := { s.flc with
        found := []
        enrol := { s.flc.enrol with running := true, more := false, series := ⟨none, none⟩ } } }.arbitrate.answered
          .accepted [])) ∧
    (∀ (x : Identity) (u : UnitIx), validIdentity x = true → (∀ v e, s.flc.units.get v = some e → e.identity ≠ x) →
      s.flc.units.get u = none → (∀ v, v < u → s.flc.units.get v ≠ none) →
      exec (.adopt x) s =
        .next ({ s with flc := { s.flc with
          found := s.flc.found.filter (· != x)
          units := s.flc.units.set u (some
            { identity := x, plate := none, plateOwed := true, reach := .unseen, failures := 0
              meters := Vector.replicate 4 none, reported := none, unitFault := false
              mark := some ⟨.routine, s.now⟩, owed := none }) } }.arbitrate.answered .done [BitVec.ofNat 8 u.val])) ∧
    (∀ (index : Byte) (u : UnitIx) (e : UnitEntry), u.val = index.toNat → s.flc.units.get u = some e →
      ((∃ i r o, s.record i = some r ∧ r.target = .field u o) →
        exec (.dropUnit index) s = .next (s.answered .inUse [])) ∧
      ((∀ i r o, s.record i = some r → r.target ≠ .field u o) → s.flc.visitTo u = none →
        exec (.dropUnit index) s =
          .next ({ s with flc := { s.flc with units := s.flc.units.set u none } }.answered .done []))) ∧
    (∀ x rest, s.flc.found = x :: rest → exec .takeFound s =
      .next ({ s with flc := { s.flc with found := rest } }.answered .done
        (identityBytes x ++ [BitVec.ofNat 8 rest.length, enrolByte s.flc.enrol]))) ∧
    (s.flc.found = [] → exec .takeFound s =
      .next (s.answered .noSuch [0, 0, 0, 0, 0, 0, enrolByte s.flc.enrol])) ∧
    (s.rawSet.getLsbD 1 = true ↔ s.flc.found ≠ [])

/-- R118, R126, R132, R143, R144, R151: the poll and sweep timers, a broadcast's end, and the end of a transaction that shows
no presence. R148, R147: the outcome of a visit whose entry has not been dropped. What a failed visit to a MISSING unit leaves
and the time its mark keeps is logs 13 and 14's reading; that the rows act in whatever phase is recorded is log 38's choice,
that a series ended by NO_PRESENCE keeps its series record log 36's reading, that a sweep is open from the expiry of its
timer log 43's. -/
def Obligations.LineEventsAndVisitOutcomes : Prop :=
  (∀ s : State, s.inReset = false →
     (s.flc.pollTimer ≠ none → s.flc.tx ≠ none → ∃ t, exec .pollTimerExpiry s = .next t ∧
       t = { s with flc := { s.flc with
         pollTimer := some (s.param .pollPeriod * 1000), units := t.flc.units, tx := t.flc.tx } } ∧
       ∀ u, s.flc.visitTo u = none → t.flc.units.get u = (s.flc.units.get u).map fun e =>
         { e with mark := some (e.mark.getD ⟨.routine, s.now⟩) }) ∧
     (s.flc.sweepTimer ≠ none → exec .sweepTimerExpiry s = .next { s with flc :=
       { s.flc with sweepTimer := none, sweep := { isOpen := true, series := ⟨none, none⟩, found := 0 } }.arbitrate }) ∧
     (∀ p, s.flc.tx = some (.broadcast p) →
       exec .broadcastEnd s = .next { s with flc := { s.flc with tx := none }.arbitrate } ∧
       exec .noPresence s = .next { s with flc := { s.flc with tx := none }.arbitrate }) ∧
     (∀ p, s.flc.tx = some (.seek .sweep p) → exec .noPresence s = .next { s with flc := { s.flc with
       tx := none, sweep := { s.flc.sweep with isOpen := false }
       sweepTimer := some (s.param .sweepPeriod * 1000) }.arbitrate }) ∧
     (∀ p, s.flc.tx = some (.seek .enrolment p) → exec .noPresence s = .next { s with
       flc := { s.flc with tx := none, enrol := { s.flc.enrol with
         running := false, ended := .noPresence } }.arbitrate
       rqp := { s.rqp with latched := s.rqp.latched ||| Cause.enrolDone.bit } }) ∧
     (∀ v, s.flc.tx = some (.visit v) → v.begun = false →
       exec .noPresence s = .next (s.visitEnd v false).arbitrate)) ∧
  (∀ (s : State) (v : Visit) (e : UnitEntry) (put : UnitEntry → State),
     v.dropped = false → s.flc.units.get v.unit = some e →
     (∀ e', put e' = { s with flc := { s.flc with tx := none, units := s.flc.units.set v.unit (some e') } }) →
     (e.reach = .present → s.visitEnd v true = put { e with failures := 0, mark := v.after }) ∧
     (e.reach ≠ .present → s.visitEnd v true =
       (put { e with failures := 0, mark := v.after, reach := .present, owed := none }).raise .unitReach) ∧
     (v.before = none → v.after = none →
       (e.reach ≠ .missing → e.failures < 2 →
         s.visitEnd v false = put { e with failures := e.failures + 1, mark := some ⟨v.cls, s.now⟩ }) ∧
       (e.reach ≠ .missing → 2 ≤ e.failures →
         s.visitEnd v false = (put { e with
           failures := 3, reach := .missing, mark := none
           owed := if v.cls = .routine then none else some v.cls }).raise .unitReach) ∧
       (e.reach = .missing → s.visitEnd v false = put { e with mark := none })) ∧
     (e.reach ≠ .missing → e.failures < 2 → ∀ m, v.before = some m → v.after = none →
       s.visitEnd v false = put { e with
         failures := e.failures + 1
         mark := some (if m.cls.rank < v.cls.rank then ⟨v.cls, m.time⟩ else m) }))

/-- R121, R124, R125, R146: the ends of the four blocks. A reply that fails its check ends the visit in failure; a good
one is handed over, and the next block or the visit's end follows. R117: a block that has ended leaves the transaction in
its function blocks. -/
def Obligations.BlocksFollowTheirReplies : Prop :=
  ∀ (s : State) (v : Visit) (e : UnitEntry) (reply : List Byte), s.inReset = false →
    s.flc.tx = some (.visit v) → v.dropped = false → s.flc.units.get v.unit = some e →
    (reply.length = 11 → v.block = .readStatus →
      ((checksGood reply = false → exec (.readStatusReply reply) s = .next (s.visitEnd v false).arbitrate) ∧
      (∀ (k : StatusReport) (t : State) (v' : Visit), checksGood reply = true → k = statusReport reply →
        t = ({ s with flc := { s.flc with units := s.flc.units.set v.unit (some
          { e with reported := some k.closed, unitFault := k.fault }) } }.altStatus v.unit v.outlets k) →
        t.flc.tx = some (.visit v') →
        ((t.desired v.unit v.outlets &&& outletMask v.outlets) ≠ (k.closed &&& outletMask v.outlets) →
          exec (.readStatusReply reply) s = .next { t with flc := { t.flc with tx := some (.visit { v' with
            asked := k.asking || k.rebooted, cut := true, begun := true, phase := ⟨.blocks, none⟩
            block := .setOutlets (t.desired v.unit v.outlets) }) } }) ∧
        ((t.desired v.unit v.outlets &&& outletMask v.outlets) = (k.closed &&& outletMask v.outlets) →
          (k.asking || k.rebooted) = true →
          exec (.readStatusReply reply) s = .next { t with flc := { t.flc with tx := some (.visit { v' with
            asked := true, cut := true, begun := true, phase := ⟨.blocks, none⟩, block := .ackDemand }) } }) ∧
        ((t.desired v.unit v.outlets &&& outletMask v.outlets) = (k.closed &&& outletMask v.outlets) →
          (k.asking || k.rebooted) = false →
          exec (.readStatusReply reply) s = .next (({ t with flc := { t.flc with tx := some (.visit { v' with
            asked := false, cut := true, begun := true, phase := ⟨.blocks, none⟩ }) } }.visitEnd
              { v' with asked := false, cut := true, begun := true, phase := ⟨.blocks, none⟩ } true).arbitrate))))) ∧
    (∀ sent, reply.length = 2 → v.block = .setOutlets sent →
      (checksGood reply = false → exec (.setOutletsReply reply) s = .next (s.visitEnd v false).arbitrate) ∧
      (∀ (t : State) (v' : Visit), checksGood reply = true →
        t = ({ s with flc := { s.flc with units := s.flc.units.set v.unit (some
          { e with reported := some ((byteAt reply 0).extractLsb' 0 4) }) } }.altApplied v.unit v.outlets sent
            ((byteAt reply 0).extractLsb' 0 4)) →
        t.flc.tx = some (.visit v') →
        exec (.setOutletsReply reply) s =
          .next (if v'.asked then { t with flc := { t.flc with tx := some (.visit { v' with
              begun := true, phase := ⟨.blocks, none⟩, block := .ackDemand }) } }
            else (t.visitEnd v' true).arbitrate))) ∧
    (reply.length = 2 → v.block = .ackDemand →
      exec (.ackDemandReply reply) s = .next (s.visitEnd v (checksGood reply)).arbitrate) ∧
    (reply.length = 16 → v.block = .readPlate →
      (checksGood reply = false → exec (.readPlateReply reply) s = .next (s.visitEnd v false).arbitrate) ∧
      ((byteAt reply 0 ≠ 0x42 ∨ byteAt reply 1 ≠ 0x4B ∨ byteAt reply 2 ≠ 1 ∨
          byteAt reply 4 ≠ v.identity.extractLsb' 32 8 ∨ (byteAt reply 5).toNat = 0 ∨ 4 < (byteAt reply 5).toNat ∨
          byteAt reply 14 ≠ 16) →
        exec (.readPlateReply reply) s = .next (s.visitEnd v false).arbitrate) ∧
      (checksGood reply = true → byteAt reply 0 = 0x42 → byteAt reply 1 = 0x4B → byteAt reply 2 = 1 →
        byteAt reply 4 = v.identity.extractLsb' 32 8 → 1 ≤ (byteAt reply 5).toNat → (byteAt reply 5).toNat ≤ 4 →
        byteAt reply 14 = 16 →
        exec (.readPlateReply reply) s = .next { s with flc := { s.flc with
          units := s.flc.units.set v.unit (some { e with
            plateOwed := false
            plate := some
              { maker := byteAt reply 3, outlets := (byteAt reply 5).toNat
                ratings := Vector.ofFn fun o => if o.val < (byteAt reply 5).toNat then halfAt reply (6 + 2 * o.val) else 0 } })
          tx := some (.visit { v with
            outlets := (byteAt reply 5).toNat, block := .readStatus, begun := true, phase := ⟨.blocks, none⟩ }) } }))

/-- Tables 8-4 and 8-5, R15, R108: what ALT makes of one outlet in each reply, and of its meter count, for a record with
no strict slot waiting. R15, R13: the demand bit of an unlocked record. R110, R111: a quota spent by a meter count. R109: the
order of demand bits, outlet states and meter counts in one reply (outlets in ascending order: log 21). -/
def Obligations.ReportsReconcileTheRecords : Prop :=
  (∀ (s : State) (u : UnitIx) (o : Outlet) (i : Slot) (r : Allotment) (put : Allotment → State),
     s.slotOf (.field u o) = some i → s.record i = some r → r.target = .field u o → r.kind = .ordinary →
     s.alt.strict = none →
     (∀ r', put r' = { s with alt := { s.alt with
       slots := s.alt.slots.set i (some r'), changed := s.alt.changed.set i true } }) →
     (r.state = .granted → ∀ sent,
       s.reconcileStatus u o true = { put { r with state := .live, reason := some .confirmed } with
         alt := { (put { r with state := .live, reason := some .confirmed }).alt with gOut := s.alt.gOut - r.claim }
         gov := s.gov.ballastStep s.params .down r.claim } ∧
       s.reconcileApplied u o sent true = s.reconcileStatus u o true ∧ s.reconcileStatus u o false = s ∧
       s.reconcileApplied u o false false = s ∧
       s.reconcileApplied u o true false = { put { r with state := .held .refused, reason := some .refused } with
         alt := { (put { r with state := .held .refused, reason := some .refused }).alt with
           gOut := s.alt.gOut - r.claim } }) ∧
     (r.state = .live → ∀ sent,
       s.reconcileStatus u o true = s ∧ s.reconcileApplied u o sent true = s ∧
       s.reconcileApplied u o sent false = s.reconcileStatus u o false ∧
       s.reconcileStatus u o false = { put
         (if ¬ r.wanted then { r with state := .idle, reason := some .unitOpened }
         else if 0 < r.quota ∧ r.quota ≤ r.used then { r with state := .held .quota, reason := some .quota }
         else { r with state := .pending, reason := some .unitOpened }) with
         gov := s.gov.ballastStep s.params .up r.claim }) ∧
     (∀ d, r.state = .releasing d → ∀ sent, s.reconcileStatus u o true = s ∧
       s.reconcileApplied u o sent true = { s with flc := s.flc.giveMark s.now .opening u } ∧
       s.reconcileApplied u o sent false = s.reconcileStatus u o false ∧
       (d ≠ .vacant → s.reconcileStatus u o false = { put (match d with
           | .held h => { r with state := .held h }
           | .shed => { r with state := if r.wanted then .shed else .idle }
           | .idle | .vacant => if ¬ r.wanted then { r with state := .idle }
             else if 0 < r.quota ∧ r.quota ≤ r.used then { r with state := .held .quota, reason := some .quota }
             else { r with state := .pending }) with
         gov := s.gov.ballastStep s.params .up r.claim })) ∧
     ((r.state = .idle ∨ r.state = .pending ∨ r.state = .shed ∨ ∃ h, r.state = .held h) → ∀ sent closed,
       s.reconcileStatus u o closed = s ∧ s.reconcileApplied u o sent closed = s) ∧
     (∀ e last count, s.flc.units.get u = some e → e.meters.get o = some last → r.quota = 0 →
       s.takeMeter u false o count = { s with
         alt := { s.alt with slots := s.alt.slots.set i (some
           { r with used := min 65535 (r.used + (count - last).toNat) }) }
         flc := { s.flc with units := s.flc.units.set u (some { e with meters := e.meters.set o (some count) }) } } ∧
       s.takeMeter u true o count = { s with
         alt := { s.alt with slots := s.alt.slots.set i (some { r with used := min 65535 (r.used + count.toNat) }) }
         flc := { s.flc with units := s.flc.units.set u (some { e with meters := e.meters.set o (some count) }) } }) ∧
     (∀ e last count delta used, s.flc.units.get u = some e → e.meters.get o = some last → 0 < r.quota →
       delta = (count - last).toNat → used = min 65535 (r.used + delta) →
       ∀ keep : Allotment → Bool → State,
         (∀ r' changed, keep r' changed = { s with
           alt := { s.alt with
             slots := s.alt.slots.set i (some r')
             changed := if changed then s.alt.changed.set i true else s.alt.changed }
           flc := { s.flc with units := s.flc.units.set u (some { e with meters := e.meters.set o (some count) }) } }) →
       (used < r.quota → s.takeMeter u false o count = keep { r with used } false) ∧
       (r.quota ≤ used → r.state = .pending →
         s.takeMeter u false o count = keep { r with used, state := .held .quota, reason := some .quota } true) ∧
       (r.quota ≤ used → (r.state = .granted ∨ r.state = .live) → e.mark = none → e.reach ≠ .missing →
         s.flc.visitTo u = none →
         s.takeMeter u false o count =
           { keep { r with used, state := .releasing (.held .quota), reason := some .quota } true with
             alt := { (keep { r with used, state := .releasing (.held .quota), reason := some .quota } true).alt with
               gOut := if r.state = RecState.granted then s.alt.gOut - r.claim else s.alt.gOut }
             gov := if r.state = RecState.granted then s.gov.ballastStep s.params .down r.claim else s.gov
             flc := { s.flc with units := s.flc.units.set u (some { e with
               meters := e.meters.set o (some count), mark := some ⟨.opening, s.now⟩ }) } }) ∧
       (r.quota ≤ used → (r.state = .idle ∨ r.state = .shed ∨ (∃ d, r.state = .releasing d) ∨ ∃ h, r.state = .held h) →
         s.takeMeter u false o count = keep { r with used } (decide (r.used < r.quota)))) ∧
     (r.state = .releasing .vacant → s.reconcileStatus u o false = { s with
       alt := { s.alt with slots := s.alt.slots.set i none, changed := s.alt.changed.set i true }
       gov := s.gov.ballastStep s.params .up r.claim }) ∧
     (r.locked = false → ∀ on,
       (on = r.wanted → s.takeDemand u o on = s) ∧
       (on = true → r.wanted = false → r.state = .idle → s.takeDemand u o on = put
         (if 0 < r.quota ∧ r.quota ≤ r.used then
           { r with wanted := true, state := .held .quota, reason := some .quota }
         else { r with wanted := true, state := .pending, reason := some .demandOn })) ∧
       (on = false → r.wanted = true → (r.state = .pending ∨ r.state = .shed) →
         s.takeDemand u o on = put { r with wanted := false, state := .idle, reason := some .demandOff }) ∧
       (on = false → r.wanted = true → (r.state = .granted ∨ r.state = .live) →
         s.takeDemand u o on = { put { r with wanted := false, state := .releasing .idle, reason := some .demandOff } with
           alt := { (put { r with wanted := false, state := .releasing .idle, reason := some .demandOff }).alt with
             gOut := if r.state = RecState.granted then s.alt.gOut - r.claim else s.alt.gOut }
           gov := if r.state = RecState.granted then s.gov.ballastStep s.params .down r.claim else s.gov
           flc := s.flc.giveMark s.now .opening u }) ∧
       (on ≠ r.wanted → ((on = true ∧ r.state ≠ .idle) ∨
           (on = false ∧ (r.state = .idle ∨ (∃ d, r.state = .releasing d) ∨ ∃ h, r.state = .held h))) →
         s.takeDemand u o on =
           { s with alt := { s.alt with slots := s.alt.slots.set i (some { r with wanted := on }) } })) ∧
     (r.locked = true → ∀ on, s.takeDemand u o on = s)) ∧
  (∀ (s t t' : State) (u : UnitIx) (outlets : Nat) (k : StatusReport) (os : List Outlet),
     os = (List.finRange 4).filter (fun o => o.val < outlets) →
     t = (if k.asking = true ∨ k.rebooted = true then
       os.foldl (fun s o => s.takeDemand u o (k.demand.getLsbD o.val)) s else s) →
     t' = os.foldl (fun s o => s.reconcileStatus u o (k.closed.getLsbD o.val)) t →
     s.altStatus u outlets k = os.foldl (fun s o => s.takeMeter u k.rebooted o (k.counts.get o)) t')

/-- R132, R133, R140, R144: the end of a seek at its owner: an identity found, skipped or marked DEMAND, the list full, the
32nd seek of a sweep, NONE and LINE_ERROR; an identity found becomes the series' previous identity, at completion too. What
R133's row does not name stays: the last fork at completion, both items after a seek that is not OK (log 36). -/
def Obligations.SeekEndUpdatesItsSeries : Prop :=
  ∀ (s : State) (readings : List Reading) (x : Identity) (fork : Option Nat), s.inReset = false →
    (∀ (p : PhaseReached) (k k' : Series) (raised : Rqp), s.flc.tx = some (.seek .enrolment p) →
      k = s.flc.enrol.series → k' = ⟨some x, fork.or k.lastFork⟩ →
      raised = { s.rqp with latched := s.rqp.latched ||| Cause.enrolDone.bit } →
      (seek k readings = .ok x fork →
        (∀ u e, s.flc.units.get u = some e → e.identity ≠ x) → x ∉ s.flc.found → s.flc.found.length < 8 →
        ∃ found, found.Perm (x :: s.flc.found) ∧
          (s.flc.found.Pairwise (fun a b => a.toNat < b.toNat) → found.Pairwise (fun a b => a.toNat < b.toNat)) ∧
          (fork ≠ none → exec (.seekEnd readings) s = .next { s with flc := { s.flc with
            tx := none, found, enrol := { s.flc.enrol with series := k' } }.arbitrate }) ∧
          (fork = none → exec (.seekEnd readings) s = .next { s with
            flc := { s.flc with tx := none, found, enrol := { s.flc.enrol with
              running := false, ended := .complete, series := k' } }.arbitrate
            rqp := raised })) ∧
      (seek k readings = .ok x fork →
        (∀ u e, s.flc.units.get u = some e → e.identity ≠ x) → x ∉ s.flc.found → 8 ≤ s.flc.found.length →
        exec (.seekEnd readings) s = .next { s with
          flc := { s.flc with tx := none, enrol := { s.flc.enrol with
            running := false, ended := .full, more := true, series := k' } }.arbitrate
          rqp := raised }) ∧
      (seek k readings = .ok x fork →
        ((∃ u e, s.flc.units.get u = some e ∧ e.identity = x) ∨ x ∈ s.flc.found) →
        (fork ≠ none → exec (.seekEnd readings) s = .next { s with flc := { s.flc with
          tx := none, enrol := { s.flc.enrol with series := k' } }.arbitrate }) ∧
        (fork = none → exec (.seekEnd readings) s = .next { s with
          flc := { s.flc with tx := none, enrol := { s.flc.enrol with
            running := false, ended := .complete, series := k' } }.arbitrate
          rqp := raised })) ∧
      (∀ ended, ((seek k readings = .none ∧ ended = .none) ∨ (seek k readings = .lineError ∧ ended = .lineError)) →
        exec (.seekEnd readings) s = .next { s with
          flc := { s.flc with tx := none, enrol := { s.flc.enrol with running := false, ended } }.arbitrate
          rqp := raised })) ∧
    (∀ (p : PhaseReached) (w : Sweep) (k' : Series) (f : Flc), s.flc.tx = some (.seek .sweep p) → s.flc.sweep = w →
      k' = ⟨some x, fork.or w.series.lastFork⟩ →
      ((seek w.series readings = .none ∨ seek w.series readings = .lineError) →
        exec (.seekEnd readings) s = .next { s with flc := { s.flc with
          tx := none, sweep := { w with isOpen := false }
          sweepTimer := some (s.param .sweepPeriod * 1000) }.arbitrate }) ∧
      (seek w.series readings = .ok x fork →
        (((∀ u e, s.flc.units.get u = some e → e.identity ≠ x) ∧ f = { s.flc with tx := none }) ∨
          (∃ u e, s.flc.units.get u = some e ∧ e.identity = x ∧
            (∀ v e', s.flc.units.get v = some e' → e'.identity = x → v = u) ∧
            f = { s.flc with tx := none }.giveMark s.now .demand u)) →
        ((fork = none ∨ 31 ≤ w.found) → exec (.seekEnd readings) s = .next { s with flc := { f with
          sweep := { isOpen := false, series := k', found := w.found + 1 }
          sweepTimer := some (s.param .sweepPeriod * 1000) }.arbitrate }) ∧
        (fork ≠ none → w.found < 31 → exec (.seekEnd readings) s = .next { s with flc :=
          { f with sweep := { w with series := k', found := w.found + 1 } }.arbitrate }))) ∧
    (∀ rest k, readings = ⟨true, true⟩ :: rest → seek k readings = .none)

/-- R130, R131, R133: while the identities taking part stay the same, a series finds every one of them once, in
ascending order, and is then complete. -/
def Obligations.SeekSeriesFindsEveryIdentityInOrder : Prop :=
  ∀ (present sorted : List Identity) (more : Nat), present.Perm sorted → sorted ≠ [] →
    (∀ x ∈ sorted, validIdentity x = true) → sorted.Pairwise (fun a b => a.toNat < b.toNat) →
    seriesOver present (sorted.length + more) ⟨none, none⟩ = sorted

/-- R128: run on through a check byte, the register ends at 0 exactly when the byte is the CRC-8 of those before it. -/
def Obligations.CheckByteLeavesZero : Prop :=
  ∀ (bytes : List Byte) (b : Byte), crc8 (bytes ++ [b]) = 0 ↔ b = crc8 bytes

/-- R135, R139: no two entries hold the same identity, the found list is ascending, at most 8 long, and holds no
identity of the table: every step keeps it so. -/
def Obligations.IdentitiesStayDistinct : Prop :=
  ∀ s t : State, s.IdentitiesOk → step s = .next t → t.IdentitiesOk

/-! ## The saw -/

/-- R155, R156: CUT_ADD and CUT_CLEAR. R157, R170, R174: SAW_START, SAW_STOP and SAW_RESET. -/
def Obligations.SawRequests : Prop :=
  (∀ (s : State) (thickness stroke ceiling : Half) (o : CutOrder), s.Ready →
     o = { number := s.saw.nextNumber, thickness := thickness.toNat, stroke := stroke.toNat
           ceiling := max 10 (min 400 ceiling.toNat) } →
     ((3000 < thickness.toNat ∨ stroke.toNat < 200 ∨ 8000 < stroke.toNat) →
       exec (.cutAdd thickness stroke ceiling) s = .next (s.answered .badField [])) ∧
     (thickness.toNat ≤ 3000 → 200 ≤ stroke.toNat → stroke.toNat ≤ 8000 →
       (16 ≤ s.saw.cuts.length → exec (.cutAdd thickness stroke ceiling) s = .next (s.answered .noSlot [])) ∧
       (s.saw.cuts.length < 16 → exec (.cutAdd thickness stroke ceiling) s =
         .next ({ s with saw := { s.saw with
           cuts := s.saw.cuts ++ [o], nextNumber := (s.saw.nextNumber + 1) % 256 } }.answered
             (if 10 ≤ ceiling.toNat ∧ ceiling.toNat ≤ 400 then .done else .clamped)
             [BitVec.ofNat 8 o.number, BitVec.ofNat 8 (o.thickness / 256), BitVec.ofNat 8 o.thickness,
               BitVec.ofNat 8 (o.stroke / 256), BitVec.ofNat 8 o.stroke, BitVec.ofNat 8 (o.ceiling / 256),
               BitVec.ofNat 8 o.ceiling, BitVec.ofNat 8 (s.saw.cuts.length + 1)]))) ∧
     ((s.saw.st = .idle ∨ s.saw.st = .fault) →
       exec .cutClear s = .next ({ s with saw := { s.saw with cuts := [] } }.answered .done [])) ∧
     (s.saw.st ≠ .idle → s.saw.st ≠ .fault → exec .cutClear s = .next (s.answered .wrongState []))) ∧
  (∀ s : State, s.Ready →
     (s.sawSlot = none → exec .sawStart s = .next (s.answered .noSuch [])) ∧
     (∀ i r, s.sawSlot = some i → s.record i = some r →
       ((s.saw.cuts = [] ∨ s.saw.st ≠ .idle) → exec .sawStart s = .next (s.answered .wrongState [])) ∧
       (s.saw.cuts ≠ [] → s.saw.st = .idle → (s.inu.guardLatch = true ∨ s.inu.estopLatch = true) →
         exec .sawStart s = .next (s.answered .latched [])) ∧
       (∀ (r' : Allotment) (t : State), s.saw.cuts ≠ [] → s.saw.st = .idle →
         s.inu.guardLatch = false → s.inu.estopLatch = false →
         t = { s with saw := { s.saw with stopFlag := false, st := .claiming }
                      rqp := { s.rqp with latched := s.rqp.latched ||| Cause.sawState.bit } } →
         (r.wanted = true → exec .sawStart s = .next (t.answered .accepted [])) ∧
         (r.wanted = false → r.state ≠ .idle → r' = { r with wanted := true } →
           exec .sawStart s = .next ({ t with alt := { s.alt with slots := s.alt.slots.set i (some r') } }.answered
             .accepted [])) ∧
         (r.wanted = false → r.state = .idle → r.quota = 0 →
           r' = { r with wanted := true, state := .pending, reason := some .demandOn } →
           exec .sawStart s = .next ({ t with alt := { s.alt with
             slots := s.alt.slots.set i (some r'), changed := s.alt.changed.set i true } }.answered .accepted [])))) ∧
     (s.saw.st ≠ .idle → s.saw.st ≠ .fault →
       exec .sawStop s = .next ({ s with saw := { s.saw with stopFlag := true } }.answered .done [])) ∧
     ((s.saw.st = .idle ∨ s.saw.st = .fault) → exec .sawStop s = .next (s.answered .wrongState [])) ∧
     (s.saw.st ≠ .fault → exec .sawReset s = .next (s.answered .wrongState [])) ∧
     (s.saw.st = .fault → (s.inu.guardLatch = true ∨ s.inu.estopLatch = true) →
       exec .sawReset s = .next (s.answered .latched [])) ∧
     (s.saw.st = .fault → s.inu.guardLatch = false → s.inu.estopLatch = false →
       (s.sawSlot = none ∨ ∃ i r, s.sawSlot = some i ∧ s.record i = some r ∧
         (r.state = .idle ∨ r.state = .pending ∨ r.state = .shed ∨ ∃ h, r.state = .held h)) →
       exec .sawReset s = .next ({ s with
         saw := { s.saw with st := .idle, stopFlag := false }
         rqp := { s.rqp with latched := s.rqp.latched ||| Cause.sawState.bit } }.answered .done [])) ∧
     (∀ i r, s.saw.st = .fault → s.inu.guardLatch = false → s.inu.estopLatch = false →
       s.sawSlot = some i → s.record i = some r → (r.state = .granted ∨ r.state = .live ∨ ∃ d, r.state = .releasing d) →
       exec .sawReset s = .next (s.answered .wrongState [])))

/-- R171: SAW_ABORT with its answers: WRONG_STATE, DONE without effect, and in a work state the end of the work: motion,
timers, records, the remembered phase and cut power wanted are dropped; homed at a count of 0 SAW goes on as R165 gives, else
it enters RETURNING with an abort return, which REV_LIMIT faults at once (R172; the answer ACCEPTED then is log 26's). R13,
R18, R19, R24: the wanted saw record's want is dropped, PENDING, SHED, GRANTED, LIVE or waiting otherwise, a switched record
released toward IDLE, at once where CLUTCH_IN reads inactive. The time to the return's first step, 1,000,000 / rate, is log
17's, the feed step rate 0 at home log 18's, the stroke 0 of an empty list log 22's. -/
def Obligations.SawAbortReturnsHome : Prop :=
  (∀ s : State, s.Ready →
    ((s.saw.st = .idle ∨ s.saw.st = .fault) → exec .sawAbort s = .next (s.answered .wrongState [])) ∧
    ((s.saw.st = .releasing ∨ (s.saw.st = .returning ∧ ∃ k, s.saw.ret = some k ∧ k.kind = .abort)) →
      exec .sawAbort s = .next (s.answered .done [])) ∧
    (s.saw.st ≠ .idle → s.saw.st ≠ .fault → s.saw.st ≠ .releasing →
      (s.saw.st = .returning → ∀ k, s.saw.ret = some k → k.kind ≠ .abort) →
      ∃ t, exec .sawAbort s = .next t ∧
        t.rqp.exec = some ⟨if s.inu.homed = true ∧ s.inu.count = 0 then .done else .accepted, []⟩ ∧
        (s.inu.homed = true → s.inu.count = 0 → (t.saw.st = .releasing ∨ t.saw.st = .idle) ∧ t.saw.feed = .idle) ∧
        (¬ (s.inu.homed = true ∧ s.inu.count = 0) → s.active .revLimit = false →
          t.saw.st = .returning ∧ ∃ k, t.saw.ret = some k ∧ k.kind = .abort) ∧
        (¬ (s.inu.homed = true ∧ s.inu.count = 0) → s.active .revLimit = true →
          t.saw.st = .fault ∧ t.saw.cause = .revLimit ∧ t.saw.feed = .idle) ∧
        t.saw.setworks = .idle ∧ t.saw.spinTimer = none ∧ t.saw.waitTimer = none ∧ t.saw.settleTimer = none ∧
        t.saw.setting = none ∧ t.saw.stroke = none ∧ t.saw.remembered = none ∧ t.saw.cutWanted = false ∧
        t.saw.cuts = s.saw.cuts ∧ t.saw.stopFlag = s.saw.stopFlag ∧
        ∀ i r', s.sawSlot = some i → t.record i = some r' → r'.wanted = false)) ∧
  (∀ (s : State) (w : Saw) (i : Slot) (r r' : Allotment) (alt : Alt) (gov : Gov), s.Ready →
    s.sawSlot = some i → s.record i = some r → r.kind = .saw → r.target = .clutch → r.wanted = true →
    (s.alt.strict = none ∨ s.alt.strict = some i) →
    s.saw.st ≠ .idle → s.saw.st ≠ .fault → s.saw.st ≠ .releasing →
    (s.saw.st = .returning → ∀ k, s.saw.ret = some k → k.kind ≠ .abort) →
    w = { s.saw with cutWanted := false, remembered := none, setting := none, stroke := none, ret := none, feedRate := 0
                     spinTimer := none, waitTimer := none, settleTimer := none, feed := .idle, setworks := .idle } →
    (((r.state = .pending ∨ r.state = .shed) ∧ gov = s.gov ∧
        r' = { r with wanted := false, state := .idle, reason := some .demandOff
                      starve := if s.alt.strict = some i then 0 else r.starve } ∧
        alt = { s.alt with
          slots := s.alt.slots.set i (some r'), changed := s.alt.changed.set i true, strict := none }) ∨
      ((r.state = .granted ∨ r.state = .live) ∧ s.active .clutchIn = true ∧
        gov = (if r.state = .granted then s.gov.ballastStep s.params .down r.idle else s.gov) ∧
        r' = { r with wanted := false, state := .releasing .idle, reason := some .demandOff
                      starve := if s.alt.strict = some i then 0 else r.starve } ∧
        alt = { s.alt with
          slots := s.alt.slots.set i (some r'), changed := s.alt.changed.set i true, strict := none
          gOut := if r.state = .granted then s.alt.gOut - r.idle else s.alt.gOut
          clutch := false, wait := some (.release (s.param .clutchTimeout * 1000)) }) ∨
      ((r.state = .granted ∨ r.state = .live) ∧ s.active .clutchIn = false ∧
        gov = (if r.state = .granted then s.gov.ballastStep s.params .down r.idle else s.gov).ballastStep s.params .up
          (r.idle + if r.trimmed then 0 else r.claim - r.idle) ∧
        r' = { r with wanted := false, state := .idle, reason := some .demandOff, trimmed := true
                      starve := if s.alt.strict = some i then 0 else r.starve } ∧
        alt = { s.alt with
          slots := s.alt.slots.set i (some r'), changed := s.alt.changed.set i true, strict := none
          gOut := if r.state = .granted then s.alt.gOut - r.idle else s.alt.gOut, clutch := false, wait := none }) ∨
      ((r.state = .idle ∨ (∃ d, r.state = .releasing d) ∨ ∃ h, r.state = .held h) ∧ s.alt.strict = none ∧ gov = s.gov ∧
        r' = { r with wanted := false } ∧ alt = { s.alt with slots := s.alt.slots.set i (some r') })) →
    (s.inu.homed = true → s.inu.count = 0 → exec .sawAbort s = .next ({ s with
      alt, gov
      saw := { w with st := if r'.isReleasing then .releasing else .idle }
      rqp := { s.rqp with latched := s.rqp.latched ||| Cause.sawState.bit } }.answered .done [])) ∧
    (¬ (s.inu.homed = true ∧ s.inu.count = 0) → s.active .revLimit = false → exec .sawAbort s = .next ({ s with
      alt, gov
      saw := { w with
        st := .returning
        feedRate := min 20000 (s.param .returnRate * s.param .stepsPerMm)
        feed := .stepping false (min 20000 (s.param .returnRate * s.param .stepsPerMm))
          (1000000 / min 20000 (s.param .returnRate * s.param .stepsPerMm))
        ret := some { kind := .abort, stepsPerMm := s.param .stepsPerMm, countsPerMm := s.param .encPerMm
                      reference := s.inu.count, issued := 0
                      allowance := ((match s.saw.cuts with | o :: _ => o.stroke | [] => 0) + 500) *
                        s.param .stepsPerMm } }
      rqp := { s.rqp with latched :=
        if s.saw.st = SawState.returning then s.rqp.latched else s.rqp.latched ||| Cause.sawState.bit } }.answered
          .accepted [])))

/-- R158, R164, R168: the expiry of the spin-up timer goes on with the remembered phase, a homing return, FEED_WAIT or
SETTING; the saw record is LIVE and trimmed. R159, R160: the
stages of a setting. The time to a step, 1,000,000 / rate, is log 17's, the stroke 0 of an empty list log 22's. -/
def Obligations.SpinupAndSettingStages : Prop :=
  (∀ (s : State) (i : Slot) (r : Allotment) (into : SawState → State → State), s.inReset = false →
     s.saw.st = .spinup → s.saw.spinTimer ≠ none → s.alt.strict = none →
     s.sawSlot = some i → s.record i = some r → r.state = .live → r.trimmed = true →
     (∀ st t, into st t = { t with
       saw := { t.saw with st, spinTimer := none, remembered := none }
       rqp := { t.rqp with latched := t.rqp.latched ||| Cause.sawState.bit } }) →
     ((s.saw.remembered = some .feedWait ∨ (s.saw.remembered = none ∧ s.inu.homed = true ∧ s.inu.count = 0 ∧
         ∃ o rest, s.saw.cuts = o :: rest ∧ o.thickness = 0)) →
       exec .spinupTimerExpiry s =
         .next (into .feedWait { s with saw := { s.saw with setting := none, cutWanted := true } })) ∧
     (∀ kind, (s.saw.remembered = some (.returning kind) ∨ (s.saw.remembered = none ∧ kind = .homing)) →
       ¬ (s.inu.homed = true ∧ s.inu.count = 0) → s.active .revLimit = false →
       exec .spinupTimerExpiry s = .next (into .returning { s with saw := { s.saw with
         feedRate := min 20000 (s.param .returnRate * s.param .stepsPerMm)
         feed := .stepping false (min 20000 (s.param .returnRate * s.param .stepsPerMm))
           (1000000 / min 20000 (s.param .returnRate * s.param .stepsPerMm))
         ret := some { kind, stepsPerMm := s.param .stepsPerMm, countsPerMm := s.param .encPerMm
                       reference := s.inu.count, issued := 0
                       allowance := ((match s.saw.cuts with | o :: _ => o.stroke | [] => 0) + 500) *
                         s.param .stepsPerMm } } })) ∧
     (∀ o rest steps, s.saw.cuts = o :: rest → o.thickness ≠ 0 → steps = o.thickness * s.param .setStepsPerMm / 10 →
       s.saw.remembered = none → s.inu.homed = true → s.inu.count = 0 → steps ≠ 0 →
       exec .spinupTimerExpiry s = .next (into .setting { s with saw := { s.saw with
         setting := some { remaining := steps, stage := .move }, setworks := .stepping true 2000 500 } })) ∧
     (∀ k, s.saw.remembered = some .setting → s.saw.setting = some k →
       (k.stage = .move → k.remaining ≠ 0 → exec .spinupTimerExpiry s = .next (into .setting { s with saw := { s.saw with
         setworks := .stepping true 2000 500 } })) ∧
       (k.stage = .wait → s.active .setDone = false → exec .spinupTimerExpiry s = .next (into .setting { s with saw :=
         { s.saw with setworks := .idle, waitTimer := some ((s.param .setTimeoutCode + 1) * 16 * 1000) } })) ∧
       (k.stage = .settle → s.param .setSettle ≠ 0 → exec .spinupTimerExpiry s = .next (into .setting { s with saw :=
         { s.saw with waitTimer := none, settleTimer := some (s.param .setSettle * 1000) } })))) ∧
  (∀ (s : State) (k : SettingRec), s.inReset = false → s.saw.st = .setting → s.saw.setting = some k →
     (k.stage = .move → (∃ fwd rate left, s.saw.setworks = .stepping fwd rate left) →
       (1 < k.remaining → exec .setworksStep s = .next { s with saw := { s.saw with
         setting := some { k with remaining := k.remaining - 1 }, setworks := .stepping true 2000 500 } }) ∧
       (k.remaining = 1 → s.active .setDone = false → exec .setworksStep s = .next { s with saw := { s.saw with
         setting := some { remaining := 0, stage := .wait }, setworks := .idle
         waitTimer := some ((s.param .setTimeoutCode + 1) * 16 * 1000) } }) ∧
       (k.remaining = 1 → s.active .setDone = true → s.param .setSettle ≠ 0 →
         exec .setworksStep s = .next { s with saw := { s.saw with
           setting := some { remaining := 0, stage := .settle }, setworks := .idle
           waitTimer := none, settleTimer := some (s.param .setSettle * 1000) } })) ∧
     (k.stage = .wait →
       (s.saw.waitTimer ≠ none → exec .setworksWaitExpiry s = .next (s.sawFault .setTimeout)) ∧
       ((s.chan .setDone).candidate ≠ none → (s.chan .setDone).raw = true → s.param .setSettle ≠ 0 →
         exec (.debounceAccept .setDone) s = .next ({ s with
           inu := { s.inu with chans := s.inu.chans.set 5 { s.chan .setDone with level := true, candidate := none } }
           saw := { s.saw with
             setting := some { k with stage := .settle }, waitTimer := none
             settleTimer := some (s.param .setSettle * 1000) } }.arbitrate))) ∧
     (s.saw.settleTimer ≠ none → (∀ i r, s.record i = some r → r.kind = .saw → r.trimmed = true) → s.alt.strict = none →
       exec .settleTimerExpiry s = .next { s with
         saw := { s.saw with st := .feedWait, setting := none, settleTimer := none, cutWanted := true }
         rqp := { s.rqp with latched := s.rqp.latched ||| Cause.sawState.bit } }))

/-- R154, R173, R18: a saw fault, and none in FAULT. R23, R24, R158: the ends of the clutch waits, by CLUTCH_IN and by the
timer. That a fault leaves the feed step rate 0 is the model's reading (log 18). -/
def Obligations.SawFaultsAndClutchWaits : Prop :=
  (∀ (s t : State) (cause : FaultCause), t = s.sawFault cause →
     (s.saw.st = .fault → t = s) ∧
     (s.saw.st ≠ .fault →
       t.saw = { s.saw with
         st := .fault, cause, cutWanted := false, remembered := none, setting := none, stroke := none, ret := none
         feedRate := 0, spinTimer := none, waitTimer := none, settleTimer := none, feed := .idle, setworks := .idle } ∧
       t.rqp = { s.rqp with latched := s.rqp.latched ||| Cause.sawState.bit } ∧ t.inu = s.inu ∧ t.params = s.params) ∧
     (s.sawSlot = none → s.alt.strict = none → t.alt = s.alt ∧ t.gov = s.gov ∧ t.flc = s.flc) ∧
     (s.saw.st ≠ .fault → ∀ i r, s.sawSlot = some i → s.record i = some r → r.target = .clutch →
       s.alt.strict = none →
       t.flc = s.flc ∧
       (r.state = .live → s.active .clutchIn = true →
         t.alt = { s.alt with
           slots := s.alt.slots.set i (some { r with
             wanted := false, state := .releasing (.held .fault), reason := some .demandOff })
           changed := s.alt.changed.set i true
           clutch := false, wait := some (.release (s.param .clutchTimeout * 1000)) } ∧ t.gov = s.gov) ∧
       (r.state = .live → s.active .clutchIn = false → r.kind = .saw →
         t.alt = { s.alt with
           slots := s.alt.slots.set i (some { r with
             wanted := false, state := .held .fault, reason := some .demandOff, trimmed := true })
           changed := s.alt.changed.set i true, clutch := false, wait := none } ∧
         t.gov = s.gov.ballastStep s.params .up (if r.trimmed then r.idle else r.idle + (r.claim - r.idle))) ∧
       ((r.state = .pending ∨ r.state = .shed) → r.wanted = true →
         t.alt = { s.alt with
           slots := s.alt.slots.set i (some { r with wanted := false, state := .idle, reason := some .demandOff })
           changed := s.alt.changed.set i true } ∧ t.gov = s.gov) ∧
       ((r.state = .idle ∨ (∃ d, r.state = .releasing d) ∨ ∃ h, r.state = .held h) →
         t.alt = { s.alt with slots := s.alt.slots.set i (some { r with wanted := false }) } ∧ t.gov = s.gov))) ∧
  (∀ (s : State) (i : Slot) (r : Allotment) (chans : Bool → Inu), s.inReset = false → s.alt.strict = none →
     s.sawSlot = some i → s.record i = some r → r.kind = .saw → r.target = .clutch →
     (∀ level, chans level = { s.inu with
       chans := s.inu.chans.set 6 { s.chan .clutchIn with level, candidate := none } }) →
     (∀ left, s.alt.wait = some (.engage left) → r.state = .granted →
       ((s.chan .clutchIn).candidate ≠ none → (s.chan .clutchIn).raw = true → s.saw.st = .claiming ∨ s.saw.st = .halted →
         exec (.debounceAccept .clutchIn) s = .next ({ s with
           inu := chans true
           alt := { s.alt with
             slots := s.alt.slots.set i (some { r with state := .live, reason := some .confirmed })
             changed := s.alt.changed.set i true, gOut := s.alt.gOut - r.idle, wait := none }
           gov := s.gov.ballastStep s.params .down r.idle
           saw := { s.saw with st := .spinup, spinTimer := some (s.param .spinupTime * 1000) }
           rqp := { s.rqp with latched := s.rqp.latched ||| Cause.sawState.bit } }.arbitrate)) ∧
       (s.saw.st ≠ .fault → ∃ t, exec .clutchEngageTimeout s = .next t ∧
         t.alt = { s.alt with
           slots := s.alt.slots.set i (some { r with
             state := .held .refused, reason := some .refused, wanted := false })
           changed := s.alt.changed.set i true, gOut := s.alt.gOut - r.idle, clutch := false, wait := none } ∧
         t.gov = s.gov ∧ t.saw.st = .fault ∧ t.saw.cause = .clutchFail)) ∧
     (∀ left d, s.alt.wait = some (.release left) → r.state = .releasing d → d ≠ .vacant →
       ∀ r', r' = (match d with
         | .held h => { r with state := .held h, trimmed := true }
         | .shed => { r with state := if r.wanted then .shed else .idle, trimmed := true }
         | .idle | .vacant => if ¬ r.wanted then { r with state := .idle, trimmed := true }
           else if 0 < r.quota ∧ r.quota ≤ r.used then
             { r with state := .held .quota, reason := some .quota, trimmed := true }
           else { r with state := .pending, trimmed := true }) →
       ((s.chan .clutchIn).candidate ≠ none → (s.chan .clutchIn).raw = false → s.saw.st = .releasing →
         exec (.debounceAccept .clutchIn) s = .next ({ s with
           inu := chans false
           alt := { s.alt with
             slots := s.alt.slots.set i (some r'), changed := s.alt.changed.set i true, wait := none }
           gov := s.gov.ballastStep s.params .up (if r.trimmed then r.idle else r.idle + (r.claim - r.idle))
           saw := { s.saw with st := .idle }
           rqp := { s.rqp with latched := s.rqp.latched ||| Cause.sawState.bit } }.arbitrate)) ∧
       (s.saw.st ≠ .fault → r.wanted = false → ∃ t, exec .clutchReleaseTimeout s = .next t ∧
         t.alt = { s.alt with
           slots := s.alt.slots.set i (some r'), changed := s.alt.changed.set i true, wait := none } ∧
         t.gov = s.gov ∧ t.saw.st = .fault ∧ t.saw.cause = .clutchStuck)))

/-- R162, R166: a publication at SAW sets the scale, in FEEDING the feed step rate, and makes the stall check. That a
standing feed takes its first step 1,000,000 / rate after the publication is the model's choice (log 17). -/
def Obligations.PublicationScalesTheFeed : Prop :=
  ∀ (s t : State) (regulating : Bool) (f scale : Nat), t = s.sawPublication regulating f →
    s.param .feedBand ≤ s.param .fSet → s.param .feedBand ≠ 0 →
    (regulating = false → scale = 0) → (regulating = true → s.param .fSet ≤ f → scale = 256) →
    (regulating = true → f ≤ s.param .fSet - s.param .feedBand → scale = 0) →
    (regulating = true → s.param .fSet - s.param .feedBand < f → f < s.param .fSet →
      scale = 256 * (f - (s.param .fSet - s.param .feedBand)) / s.param .feedBand) →
    t.saw.scale = scale ∧
    (s.saw.st ≠ .feeding → s.saw.st ≠ .returning → t = { s with saw := { s.saw with scale } }) ∧
    (∀ k o rest mm rate, s.saw.st = .feeding → s.saw.stroke = some k → s.saw.cuts = o :: rest →
      mm = (if 0 < scale ∧ o.ceiling * scale / 256 < s.param .feedMin then min (s.param .feedMin) o.ceiling
        else o.ceiling * scale / 256) →
      rate = min 20000 (mm * k.stepsPerMm) →
      ((s.count - (k.reference.toInt + (k.done * k.countsPerMm / k.stepsPerMm : Nat))).natAbs ≤ s.param .stallTol →
        t = { s with saw := { s.saw with
          scale, feedRate := rate
          feed := if rate = 0 then .idle else match s.saw.feed with
            | .idle => .stepping true rate (1000000 / rate)
            | stepping => stepping } }) ∧
      (s.param .stallTol < (s.count - (k.reference.toInt + (k.done * k.countsPerMm / k.stepsPerMm : Nat))).natAbs →
        t.saw.st = .fault ∧ t.saw.cause = .stall ∧ t.saw.feed = .idle)) ∧
    (∀ k, s.saw.st = .returning → s.saw.ret = some k →
      ((s.count - (k.reference.toInt - (k.issued * k.countsPerMm / k.stepsPerMm : Nat))).natAbs ≤ s.param .stallTol →
        t = { s with saw := { s.saw with scale } }) ∧
      (s.param .stallTol < (s.count - (k.reference.toInt - (k.issued * k.countsPerMm / k.stepsPerMm : Nat))).natAbs →
        t.saw.st = .fault ∧ t.saw.cause = .stall ∧ t.saw.feed = .idle))

/-- R161, R163: a feed step, and the stroke end; only in FEEDING with the saw record LIVE and untrimmed. R164, R165: return
steps up to the allowance, and the arrival home. R161, R164, R172: FWD_LIMIT in FEEDING and on entry to it, REV_LIMIT in
RETURNING and on entry to a return that does not arrive at once. The time to a step, 1,000,000 / rate, is log 17's, the feed
step rate 0 at home log 18's, the stroke 0 of an empty list log 22's. -/
def Obligations.CarriageStepsAndArrivesHome : Prop :=
  (∀ (s : State) (k : StrokeRec) (i : Slot) (r : Allotment), s.inReset = false → s.saw.st = .feeding →
     (∃ fwd rate left, s.saw.feed = .stepping fwd rate left) → s.saw.stroke = some k →
     s.sawSlot = some i → s.record i = some r →
     ((r.state ≠ .live ∨ r.trimmed = true) → exec .feedStep s = .next s) ∧
     (r.state = .live → r.trimmed = false →
       (k.done + 1 < k.steps → exec .feedStep s = .next { s with saw := { s.saw with
         stroke := some { k with done := k.done + 1 }
         feed := .stepping true s.saw.feedRate (1000000 / s.saw.feedRate) } }) ∧
       (k.steps ≤ k.done + 1 → s.param .stallTol <
           (s.count - (k.reference.toInt + ((k.done + 1) * k.countsPerMm / k.stepsPerMm : Nat))).natAbs →
         ∃ t, exec .feedStep s = .next t ∧ t.saw.st = .fault ∧ t.saw.cause = .stall ∧ t.saw.feed = .idle ∧
           t.saw.cuts = s.saw.cuts) ∧
       (k.steps ≤ k.done + 1 → s.alt.strict = none → s.saw.cutWanted = false →
         (s.count - (k.reference.toInt + ((k.done + 1) * k.countsPerMm / k.stepsPerMm : Nat))).natAbs ≤
           s.param .stallTol →
         ¬ (s.inu.homed = true ∧ s.inu.count = 0) → s.active .revLimit = false →
         exec .feedStep s = .next { s with
           alt := { s.alt with
             slots := s.alt.slots.set i (some { r with trimmed := true, reason := some .trimmed })
             changed := s.alt.changed.set i true }
           gov := s.gov.ballastStep s.params .up (r.claim - r.idle)
           saw := { s.saw with
             st := .returning, stroke := none
             feedRate := min 20000 (s.param .returnRate * s.param .stepsPerMm)
             feed := .stepping false (min 20000 (s.param .returnRate * s.param .stepsPerMm))
               (1000000 / min 20000 (s.param .returnRate * s.param .stepsPerMm))
             ret := some { kind := .stroke, stepsPerMm := s.param .stepsPerMm, countsPerMm := s.param .encPerMm
                           reference := s.inu.count, issued := 0
                           allowance := ((match s.saw.cuts with | o :: _ => o.stroke | [] => 0) + 500) *
                             s.param .stepsPerMm } }
           rqp := { s.rqp with latched := s.rqp.latched ||| Cause.sawState.bit } }) ∧
       (k.steps ≤ k.done + 1 → s.alt.strict = none →
         (s.count - (k.reference.toInt + ((k.done + 1) * k.countsPerMm / k.stepsPerMm : Nat))).natAbs ≤
           s.param .stallTol →
         (¬ (s.inu.homed = true ∧ s.inu.count = 0) → s.active .revLimit = true →
           ∃ t, exec .feedStep s = .next t ∧ t.saw.st = .fault ∧ t.saw.cause = .revLimit ∧ t.saw.feed = .idle ∧
             t.saw.cuts = s.saw.cuts) ∧
         (s.inu.homed = true → s.inu.count = 0 →
           ∃ t, exec .feedStep s = .next t ∧ t.saw.cuts = s.saw.cuts.tail ∧ t.saw.ret = none ∧ t.saw.stroke = none ∧
             ((s.saw.cuts.tail = [] ∨ s.saw.stopFlag = true) → t.saw.st = .releasing ∨ t.saw.st = .idle) ∧
             (∀ o rest, s.saw.cuts.tail = o :: rest → s.saw.stopFlag = false → o.thickness = 0 →
               t.saw.st = .feedWait ∧ t.saw.cutWanted = true) ∧
             (∀ o rest, s.saw.cuts.tail = o :: rest → s.saw.stopFlag = false →
               1 ≤ o.thickness * s.param .setStepsPerMm / 10 →
               t.saw.st = .setting ∧ t.saw.setting =
                 some { remaining := o.thickness * s.param .setStepsPerMm / 10, stage := .move }))))) ∧
  (∀ (s t : State) (c : Channel), s.inReset = false → (s.chan c).candidate ≠ none → (s.chan c).raw = true →
     t = { s with inu := { s.inu with
       chans := s.inu.chans.set (channelNumber c) { s.chan c with level := true, candidate := none } } } →
     (c = .fwdLimit → s.saw.st ≠ .feeding → exec (.debounceAccept c) s = .next t.arbitrate) ∧
     (c = .revLimit → s.saw.st ≠ .returning → exec (.debounceAccept c) s = .next t.arbitrate) ∧
     (c = .fwdLimit → s.saw.st = .feeding → exec (.debounceAccept c) s = .next (t.sawFault .fwdLimit).arbitrate ∧
       (t.sawFault .fwdLimit).saw.st = .fault ∧ (t.sawFault .fwdLimit).saw.cause = .fwdLimit) ∧
     (c = .revLimit → s.saw.st = .returning → exec (.debounceAccept c) s = .next (t.sawFault .revLimit).arbitrate ∧
       (t.sawFault .revLimit).saw.st = .fault ∧ (t.sawFault .revLimit).saw.cause = .revLimit)) ∧
  (∀ s : State,
     (s.active .fwdLimit = true → s.saw.st ≠ .fault → s.enterFeeding.saw.st = .fault ∧
       s.enterFeeding.saw.cause = .fwdLimit ∧ s.enterFeeding.saw.feed = .idle) ∧
     (∀ kind, s.active .revLimit = true → ¬ (s.inu.homed = true ∧ s.inu.count = 0) →
       (s.enterReturning kind).saw.st = .fault ∧ (s.enterReturning kind).saw.cause = .revLimit ∧
       (s.enterReturning kind).saw.feed = .idle)) ∧
  (∀ (s : State) (k : ReturnRec), s.inReset = false → s.saw.st = .returning → s.saw.ret = some k →
     ((∃ fwd rate left, s.saw.feed = .stepping fwd rate left) →
       (k.issued + 1 < k.allowance → exec .returnStep s = .next { s with saw := { s.saw with
         ret := some { k with issued := k.issued + 1 }
         feed := .stepping false s.saw.feedRate (1000000 / s.saw.feedRate) } }) ∧
       (k.allowance ≤ k.issued + 1 → ∃ t, exec .returnStep s = .next t ∧ t.saw.st = .fault ∧ t.saw.cause = .noHome ∧
         t.saw.feed = .idle ∧ t.saw.cuts = s.saw.cuts)) ∧
     (∀ (a b : Bool) (home : State), (a, b) = (s.inu.quadB, !s.inu.quadA) → s.alt.strict = none →
       home = { s with
         inu := { s.inu with
           pinA := a, pinB := b, pinZ := true, quadA := a, quadB := b, count := 0, homed := true }
         saw := { s.saw with
           feed := .idle, feedRate := 0, ret := none
           cuts := if k.kind = .stroke then s.saw.cuts.tail else s.saw.cuts }
         rqp := { s.rqp with latched := s.rqp.latched ||| Cause.sawState.bit } } →
       (k.kind = .abort → (∀ i r, s.record i = some r → r.kind ≠ .saw) →
         exec (.encoderChange a b true) s = .next { home with saw := { home.saw with st := .idle } }) ∧
       (k.kind = .abort → ∀ i r d, s.sawSlot = some i → s.record i = some r → r.state = .releasing d →
         exec (.encoderChange a b true) s = .next { home with saw := { home.saw with st := .releasing } }) ∧
       (k.kind = .abort → ∀ i r, s.sawSlot = some i → s.record i = some r → (∀ d, r.state ≠ .releasing d) →
         exec (.encoderChange a b true) s = .next { home with saw := { home.saw with st := .idle } }) ∧
       (k.kind ≠ .abort → (home.saw.cuts = [] ∨ s.saw.stopFlag = true) →
         ∀ i r, s.sawSlot = some i → s.record i = some r → r.state = .live → r.wanted = true → r.target = .clutch →
         s.active .clutchIn = true →
         exec (.encoderChange a b true) s = .next { home with
           alt := { s.alt with
             slots := s.alt.slots.set i (some { r with
               wanted := false, state := .releasing .idle, reason := some .demandOff })
             changed := s.alt.changed.set i true
             clutch := false, wait := some (.release (s.param .clutchTimeout * 1000)) }
           saw := { home.saw with st := .releasing } }) ∧
       (k.kind ≠ .abort → s.saw.stopFlag = false → ∀ o rest, home.saw.cuts = o :: rest → o.thickness = 0 →
         (∀ i r, s.record i = some r → r.kind = .saw → r.trimmed = true) →
         exec (.encoderChange a b true) s = .next { home with saw := { home.saw with
           st := .feedWait, setting := none, cutWanted := true } }) ∧
       (k.kind ≠ .abort → s.saw.stopFlag = false → ∀ o rest steps, home.saw.cuts = o :: rest → o.thickness ≠ 0 →
         steps = o.thickness * s.param .setStepsPerMm / 10 → steps ≠ 0 →
         exec (.encoderChange a b true) s = .next { home with saw := { home.saw with
           st := .setting, setting := some { remaining := steps, stage := .move }
           setworks := .stepping true 2000 500 } })))

/-- R20, R23, R24, R161: every relay and the clutch stand as their records say, and the feed steps forward only with the
saw record LIVE and untrimmed; R47, R49: the strict slot, while present, holds a candidate: every step keeps both so. -/
def Obligations.SwitchesFollowTheirRecords : Prop :=
  ∀ s t : State, s.SwitchesOk → s.StrictOk → step s = .next t → t.SwitchesOk ∧ t.StrictOk

/-! ## Parameters, attention, reset -/

/-- R82, R98, R185, R186: SET_PARAM stores the clamped and limited value, moves what a cross-limit moves, acts on the
ballast and the gate at once, and changes nothing else. Table 11-10: every parameter's number, range and default. -/
def Obligations.SetParamClampsAndLimits : Prop :=
  (∀ (s : State) (number : Byte) (value : Half), s.Ready →
     ((number.toNat = 0 ∨ 34 < number.toNat) → exec (.setParam number value) s = .next (s.answered .badField [])) ∧
     (∀ (p : Param) (x : Nat), p.number = number.toNat → s.ParamsOk →
       x = (match p with
         | .fTrip => max (max 5100 (min 7000 value.toNat)) (s.param .fSet + 100)
         | .fFloor => min (max 3500 (min 5800 value.toNat)) (s.param .fSet - s.param .shedBand)
         | .trimLowPct => min (max 5 (min 90 value.toNat)) (s.param .trimHighPct - 5)
         | _ => max p.range.1 (min p.range.2 value.toNat)) →
       ∃ (params : Params) (gov : Gov) (code : ResultCode) (payload : List Byte),
         exec (.setParam number value) s = .next ({ s with params, gov }.answered code payload) ∧
         params.get p = x ∧
         (∀ q, q ≠ p → params.get q =
           if p = .fSet ∧ q = .fTrip then max (s.param .fTrip) (x + 100)
           else if p = .fSet ∧ q = .fFloor then min (s.param .fFloor) (x - s.param .shedBand)
           else if p = .shedBand ∧ q = .fFloor then min (s.param .fFloor) (s.param .fSet - x)
           else if p = .trimHighPct ∧ q = .trimLowPct then min (s.param .trimLowPct) (x - 5)
           else s.param q) ∧
         ((∀ q, q ≠ p → params.get q = s.param q) →
           payload = [number, BitVec.ofNat 8 (x / 256), BitVec.ofNat 8 x] ∧
           code = if x = value.toNat then .done else .clamped) ∧
         ((∃ q, q ≠ p ∧ params.get q ≠ s.param q) → code = .clamped ∧
           ∃ q, q ≠ p ∧ params.get q ≠ s.param q ∧ (p = .fSet → q = .fFloor → params.get .fTrip = s.param .fTrip) ∧
             payload = [number, BitVec.ofNat 8 (x / 256), BitVec.ofNat 8 x, BitVec.ofNat 8 q.number,
               BitVec.ofNat 8 (params.get q / 256), BitVec.ofNat 8 (params.get q)]) ∧
         ((p ≠ .bCap ∧ p ≠ .gateSpan) ∨ x = s.param p → gov = s.gov) ∧
         (p = .bCap → x ≠ s.param .bCap → gov = { s.gov with
           bAcc := min s.gov.bAcc (16 * x)
           duty := if s.gov.st = .regulating then
               (if x = 0 then 0 else (min s.gov.bAcc (16 * x) * 1023 + 8 * x) / (16 * x)) else s.gov.duty
           spare := if s.gov.st = .regulating then min s.gov.bAcc (16 * x) / 16 - s.param .reserve
             else s.gov.spare }) ∧
         (p = .gateSpan → x < s.gov.gatePos → x ≠ s.param .gateSpan →
           gov = { s.gov with gatePos := x, gateValid := false }) ∧
         (p = .gateSpan → s.gov.gatePos ≤ x → gov = s.gov))) ∧
  (∀ (n lo hi default : Nat) (p : Param), (n, p, lo, hi, default) ∈
      [(1, Param.fSet, 4500, 6000, 5000), (2, .fTrip, 5100, 7000, 5750), (3, .shedBand, 20, 500, 150),
        (4, .fFloor, 3500, 5800, 4500), (5, .kp, 0, 4095, 160), (6, .ki, 0, 4095, 32), (7, .bCap, 0, 30000, 0),
        (8, .reserve, 0, 5000, 200), (9, .shedDelay, 1, 100, 10), (10, .shedSettle, 5, 500, 25),
        (11, .restoreDelay, 25, 3000, 250), (12, .starveLimit, 1, 255, 250), (13, .holdLimit, 100, 10000, 2000),
        (14, .trimPeriod, 1, 120, 5), (15, .trimStep, 1, 500, 20), (16, .trimHighPct, 10, 95, 70),
        (17, .trimLowPct, 5, 90, 20), (18, .gateSpan, 100, 20000, 2000), (19, .gateRate, 10, 2000, 200),
        (20, .runupStep, 1, 500, 40), (21, .runupInterval, 1, 30, 3), (22, .pollPeriod, 250, 60000, 2000),
        (23, .sweepPeriod, 50, 5000, 250), (24, .feedBand, 20, 500, 100), (25, .feedMin, 1, 100, 10),
        (26, .returnRate, 20, 600, 300), (27, .stepsPerMm, 1, 200, 40), (28, .encPerMm, 1, 100, 20),
        (29, .setStepsPerMm, 1, 400, 100), (30, .setTimeoutCode, 0, 255, 62), (31, .setSettle, 0, 2000, 200),
        (32, .spinupTime, 500, 30000, 4000), (33, .clutchTimeout, 100, 5000, 1500), (34, .stallTol, 4, 4000, 200)] →
    p.number = n ∧ p.range = (lo, hi) ∧ Params.defaults.get p = default) ∧
  (∀ (n : Nat) (p : Param), Param.ofNumber n = some p ↔ p.number = n)

/-- R186: every parameter lies within its range and the three cross-limits hold: every step keeps it so. -/
def Obligations.ParametersStayInRange : Prop :=
  ∀ s t : State, s.ParamsOk → step s = .next t → t.ParamsOk

/-- R187, R188, R189: the mask, the acknowledgement of latched causes, and the attention line. -/
def Obligations.AttentionFollowsTheMaskedSet : Prop :=
  ∀ (s : State) (causes : Byte), s.Ready →
    (causes.getLsbD 7 = true →
      exec (.attnMaskSet causes) s = .next (s.answered .badField []) ∧
      exec (.attnMaskClear causes) s = .next (s.answered .badField []) ∧
      exec (.attnAck causes) s = .next (s.answered .badField [])) ∧
    (causes.getLsbD 7 = false →
      (∃ t : State, exec (.attnMaskSet causes) s = .next (t.answered .done [causesByte t.rqp.mask]) ∧
        t = { s with rqp := { s.rqp with mask := t.rqp.mask } } ∧ t.rawSet = s.rawSet ∧
        ∀ n, n < 7 → t.rqp.mask.getLsbD n = (s.rqp.mask.getLsbD n || causes.getLsbD n)) ∧
      (∃ t : State, exec (.attnMaskClear causes) s = .next (t.answered .done [causesByte t.rqp.mask]) ∧
        t = { s with rqp := { s.rqp with mask := t.rqp.mask } } ∧ t.rawSet = s.rawSet ∧
        ∀ n, n < 7 → t.rqp.mask.getLsbD n = (s.rqp.mask.getLsbD n && !causes.getLsbD n)) ∧
      (∃ t : State, exec (.attnAck causes) s = .next (t.answered .done [causesByte t.rawSet]) ∧
        t = { s with rqp := { s.rqp with latched := t.rqp.latched } } ∧
        ∀ n, n < 7 → t.rawSet.getLsbD n = (s.rawSet.getLsbD n && (!causes.getLsbD n || decide (n < 2))))) ∧
    (s.attention = true ↔ ∃ n, n < 7 ∧ s.rawSet.getLsbD n = true ∧ s.rqp.mask.getLsbD n = true) ∧
    (∀ i, s.alt.changed.get i = true → s.rawSet.getLsbD 0 = true) ∧ (s.flc.found ≠ [] → s.rawSet.getLsbD 1 = true)

/-- The state after reset meets every standing property. -/
def Obligations.ResetMeetsEveryInvariant : Prop :=
  State.reset.ParamsOk ∧ State.reset.BallastOk ∧ State.reset.SpareOk ∧ State.reset.GateOk ∧ State.reset.CriticalOk ∧
  State.reset.TargetsOk ∧ State.reset.SwitchesOk ∧ State.reset.StrictOk ∧ State.reset.GrantedOk ∧ State.reset.SpentOk ∧
  State.reset.IdentitiesOk ∧ State.reset.CutsOk
end

