-- ==== Sys2Proof/Laws/State.lean ====
section
/-! SUPPORT. The record updates of State: one lemma per field per update, and the outer frame that the acts of the
blocks keep. -/

namespace Sys2Proof.Machine

/-! ### onParams -/

@[simp] theorem onParams_now (s : State) (f : Params → Params) : (s.onParams f).now = s.now := rfl
@[simp] theorem onParams_inReset (s : State) (f : Params → Params) : (s.onParams f).inReset = s.inReset := rfl
@[simp] theorem onParams_params (s : State) (f : Params → Params) : (s.onParams f).params = f s.params := rfl
@[simp] theorem onParams_inu (s : State) (f : Params → Params) : (s.onParams f).inu = s.inu := rfl
@[simp] theorem onParams_gov (s : State) (f : Params → Params) : (s.onParams f).gov = s.gov := rfl
@[simp] theorem onParams_alt (s : State) (f : Params → Params) : (s.onParams f).alt = s.alt := rfl
@[simp] theorem onParams_flc (s : State) (f : Params → Params) : (s.onParams f).flc = s.flc := rfl
@[simp] theorem onParams_saw (s : State) (f : Params → Params) : (s.onParams f).saw = s.saw := rfl
@[simp] theorem onParams_rqp (s : State) (f : Params → Params) : (s.onParams f).rqp = s.rqp := rfl
@[simp] theorem onParams_pending (s : State) (f : Params → Params) : (s.onParams f).pending = s.pending := rfl

/-! ### onInu -/

@[simp] theorem onInu_now (s : State) (f : Inu → Inu) : (s.onInu f).now = s.now := rfl
@[simp] theorem onInu_inReset (s : State) (f : Inu → Inu) : (s.onInu f).inReset = s.inReset := rfl
@[simp] theorem onInu_params (s : State) (f : Inu → Inu) : (s.onInu f).params = s.params := rfl
@[simp] theorem onInu_inu (s : State) (f : Inu → Inu) : (s.onInu f).inu = f s.inu := rfl
@[simp] theorem onInu_gov (s : State) (f : Inu → Inu) : (s.onInu f).gov = s.gov := rfl
@[simp] theorem onInu_alt (s : State) (f : Inu → Inu) : (s.onInu f).alt = s.alt := rfl
@[simp] theorem onInu_flc (s : State) (f : Inu → Inu) : (s.onInu f).flc = s.flc := rfl
@[simp] theorem onInu_saw (s : State) (f : Inu → Inu) : (s.onInu f).saw = s.saw := rfl
@[simp] theorem onInu_rqp (s : State) (f : Inu → Inu) : (s.onInu f).rqp = s.rqp := rfl
@[simp] theorem onInu_pending (s : State) (f : Inu → Inu) : (s.onInu f).pending = s.pending := rfl

/-! ### onGov -/

@[simp] theorem onGov_now (s : State) (f : Gov → Gov) : (s.onGov f).now = s.now := rfl
@[simp] theorem onGov_inReset (s : State) (f : Gov → Gov) : (s.onGov f).inReset = s.inReset := rfl
@[simp] theorem onGov_params (s : State) (f : Gov → Gov) : (s.onGov f).params = s.params := rfl
@[simp] theorem onGov_inu (s : State) (f : Gov → Gov) : (s.onGov f).inu = s.inu := rfl
@[simp] theorem onGov_gov (s : State) (f : Gov → Gov) : (s.onGov f).gov = f s.gov := rfl
@[simp] theorem onGov_alt (s : State) (f : Gov → Gov) : (s.onGov f).alt = s.alt := rfl
@[simp] theorem onGov_flc (s : State) (f : Gov → Gov) : (s.onGov f).flc = s.flc := rfl
@[simp] theorem onGov_saw (s : State) (f : Gov → Gov) : (s.onGov f).saw = s.saw := rfl
@[simp] theorem onGov_rqp (s : State) (f : Gov → Gov) : (s.onGov f).rqp = s.rqp := rfl
@[simp] theorem onGov_pending (s : State) (f : Gov → Gov) : (s.onGov f).pending = s.pending := rfl

/-! ### onAlt -/

@[simp] theorem onAlt_now (s : State) (f : Alt → Alt) : (s.onAlt f).now = s.now := rfl
@[simp] theorem onAlt_inReset (s : State) (f : Alt → Alt) : (s.onAlt f).inReset = s.inReset := rfl
@[simp] theorem onAlt_params (s : State) (f : Alt → Alt) : (s.onAlt f).params = s.params := rfl
@[simp] theorem onAlt_inu (s : State) (f : Alt → Alt) : (s.onAlt f).inu = s.inu := rfl
@[simp] theorem onAlt_gov (s : State) (f : Alt → Alt) : (s.onAlt f).gov = s.gov := rfl
@[simp] theorem onAlt_alt (s : State) (f : Alt → Alt) : (s.onAlt f).alt = f s.alt := rfl
@[simp] theorem onAlt_flc (s : State) (f : Alt → Alt) : (s.onAlt f).flc = s.flc := rfl
@[simp] theorem onAlt_saw (s : State) (f : Alt → Alt) : (s.onAlt f).saw = s.saw := rfl
@[simp] theorem onAlt_rqp (s : State) (f : Alt → Alt) : (s.onAlt f).rqp = s.rqp := rfl
@[simp] theorem onAlt_pending (s : State) (f : Alt → Alt) : (s.onAlt f).pending = s.pending := rfl

/-! ### onFlc -/

@[simp] theorem onFlc_now (s : State) (f : Flc → Flc) : (s.onFlc f).now = s.now := rfl
@[simp] theorem onFlc_inReset (s : State) (f : Flc → Flc) : (s.onFlc f).inReset = s.inReset := rfl
@[simp] theorem onFlc_params (s : State) (f : Flc → Flc) : (s.onFlc f).params = s.params := rfl
@[simp] theorem onFlc_inu (s : State) (f : Flc → Flc) : (s.onFlc f).inu = s.inu := rfl
@[simp] theorem onFlc_gov (s : State) (f : Flc → Flc) : (s.onFlc f).gov = s.gov := rfl
@[simp] theorem onFlc_alt (s : State) (f : Flc → Flc) : (s.onFlc f).alt = s.alt := rfl
@[simp] theorem onFlc_flc (s : State) (f : Flc → Flc) : (s.onFlc f).flc = f s.flc := rfl
@[simp] theorem onFlc_saw (s : State) (f : Flc → Flc) : (s.onFlc f).saw = s.saw := rfl
@[simp] theorem onFlc_rqp (s : State) (f : Flc → Flc) : (s.onFlc f).rqp = s.rqp := rfl
@[simp] theorem onFlc_pending (s : State) (f : Flc → Flc) : (s.onFlc f).pending = s.pending := rfl

/-! ### onSaw -/

@[simp] theorem onSaw_now (s : State) (f : Saw → Saw) : (s.onSaw f).now = s.now := rfl
@[simp] theorem onSaw_inReset (s : State) (f : Saw → Saw) : (s.onSaw f).inReset = s.inReset := rfl
@[simp] theorem onSaw_params (s : State) (f : Saw → Saw) : (s.onSaw f).params = s.params := rfl
@[simp] theorem onSaw_inu (s : State) (f : Saw → Saw) : (s.onSaw f).inu = s.inu := rfl
@[simp] theorem onSaw_gov (s : State) (f : Saw → Saw) : (s.onSaw f).gov = s.gov := rfl
@[simp] theorem onSaw_alt (s : State) (f : Saw → Saw) : (s.onSaw f).alt = s.alt := rfl
@[simp] theorem onSaw_flc (s : State) (f : Saw → Saw) : (s.onSaw f).flc = s.flc := rfl
@[simp] theorem onSaw_saw (s : State) (f : Saw → Saw) : (s.onSaw f).saw = f s.saw := rfl
@[simp] theorem onSaw_rqp (s : State) (f : Saw → Saw) : (s.onSaw f).rqp = s.rqp := rfl
@[simp] theorem onSaw_pending (s : State) (f : Saw → Saw) : (s.onSaw f).pending = s.pending := rfl

/-! ### onRqp -/

@[simp] theorem onRqp_now (s : State) (f : Rqp → Rqp) : (s.onRqp f).now = s.now := rfl
@[simp] theorem onRqp_inReset (s : State) (f : Rqp → Rqp) : (s.onRqp f).inReset = s.inReset := rfl
@[simp] theorem onRqp_params (s : State) (f : Rqp → Rqp) : (s.onRqp f).params = s.params := rfl
@[simp] theorem onRqp_inu (s : State) (f : Rqp → Rqp) : (s.onRqp f).inu = s.inu := rfl
@[simp] theorem onRqp_gov (s : State) (f : Rqp → Rqp) : (s.onRqp f).gov = s.gov := rfl
@[simp] theorem onRqp_alt (s : State) (f : Rqp → Rqp) : (s.onRqp f).alt = s.alt := rfl
@[simp] theorem onRqp_flc (s : State) (f : Rqp → Rqp) : (s.onRqp f).flc = s.flc := rfl
@[simp] theorem onRqp_saw (s : State) (f : Rqp → Rqp) : (s.onRqp f).saw = s.saw := rfl
@[simp] theorem onRqp_rqp (s : State) (f : Rqp → Rqp) : (s.onRqp f).rqp = f s.rqp := rfl
@[simp] theorem onRqp_pending (s : State) (f : Rqp → Rqp) : (s.onRqp f).pending = s.pending := rfl

/-! ### pushFront -/

@[simp] theorem pushFront_now (s : State) (c : Instr) : (s.pushFront c).now = s.now := rfl
@[simp] theorem pushFront_inReset (s : State) (c : Instr) : (s.pushFront c).inReset = s.inReset := rfl
@[simp] theorem pushFront_params (s : State) (c : Instr) : (s.pushFront c).params = s.params := rfl
@[simp] theorem pushFront_inu (s : State) (c : Instr) : (s.pushFront c).inu = s.inu := rfl
@[simp] theorem pushFront_gov (s : State) (c : Instr) : (s.pushFront c).gov = s.gov := rfl
@[simp] theorem pushFront_alt (s : State) (c : Instr) : (s.pushFront c).alt = s.alt := rfl
@[simp] theorem pushFront_flc (s : State) (c : Instr) : (s.pushFront c).flc = s.flc := rfl
@[simp] theorem pushFront_saw (s : State) (c : Instr) : (s.pushFront c).saw = s.saw := rfl
@[simp] theorem pushFront_rqp (s : State) (c : Instr) : (s.pushFront c).rqp = s.rqp := rfl
@[simp] theorem pushFront_pending (s : State) (c : Instr) : (s.pushFront c).pending = c :: s.pending := rfl

/-! ### The outer frame: the moment, the reset, the parameters and the queue -/

/-- What no act of a block changes: the moment, whether a reset lasts, the parameters, the queue. -/
def State.outer (s : State) : Nat × Bool × Params × List Instr := (s.now, s.inReset, s.params, s.pending)

@[simp] theorem onInu_outer (s : State) (f : Inu → Inu) : (s.onInu f).outer = s.outer := rfl
@[simp] theorem onGov_outer (s : State) (f : Gov → Gov) : (s.onGov f).outer = s.outer := rfl
@[simp] theorem onAlt_outer (s : State) (f : Alt → Alt) : (s.onAlt f).outer = s.outer := rfl
@[simp] theorem onFlc_outer (s : State) (f : Flc → Flc) : (s.onFlc f).outer = s.outer := rfl
@[simp] theorem onSaw_outer (s : State) (f : Saw → Saw) : (s.onSaw f).outer = s.outer := rfl
@[simp] theorem onRqp_outer (s : State) (f : Rqp → Rqp) : (s.onRqp f).outer = s.outer := rfl

theorem outer_params {s t : State} (h : t.outer = s.outer) : t.params = s.params := by
  simp only [State.outer, Prod.mk.injEq] at h; exact h.2.2.1

theorem outer_now {s t : State} (h : t.outer = s.outer) : t.now = s.now := by
  simp only [State.outer, Prod.mk.injEq] at h; exact h.1

theorem outer_inReset {s t : State} (h : t.outer = s.outer) : t.inReset = s.inReset := by
  simp only [State.outer, Prod.mk.injEq] at h; exact h.2.1

theorem outer_pending {s t : State} (h : t.outer = s.outer) : t.pending = s.pending := by
  simp only [State.outer, Prod.mk.injEq] at h; exact h.2.2.2

theorem param_of_outer {s t : State} (h : t.outer = s.outer) (p : Param) : t.param p = s.param p := by
  simp only [State.param, outer_params h]

end Sys2Proof.Machine
end

