-- ==== Sys2Proof/Laws/Frame.lean ====
section
/-! SUPPORT. No act of a block changes the moment, the reset, the parameters or the queue: one lemma per shared
operation. -/

namespace Sys2Proof.Machine

/-- A fold of acts that keep the outer frame keeps it. -/
theorem foldl_outer {α : Type} {f : State → α → State} (h : ∀ s a, (f s a).outer = s.outer) (l : List α) (s : State) :
    (l.foldl f s).outer = s.outer := by
  induction l generalizing s with
  | nil => rfl
  | cons a l ih => simp [ih, h]

@[simp] theorem setChan_outer (s : State) (c : Channel) (x : Chan) :
    (s.setChan c x).outer = s.outer := by
  simp only [State.setChan]
  simp

@[simp] theorem raise_outer (s : State) (c : Cause) :
    (s.raise c).outer = s.outer := by
  simp only [State.raise]
  simp

@[simp] theorem ballastStep_outer (s : State) (d : StepDir) (w : Nat) :
    (s.ballastStep d w).outer = s.outer := by
  simp only [State.ballastStep]
  simp

@[simp] theorem setRecord_outer (s : State) (i : Slot) (r : Option Allotment) :
    (s.setRecord i r).outer = s.outer := by
  simp only [State.setRecord]
  simp

@[simp] theorem noteChange_outer (s : State) (b : Bool) (i : Slot) :
    (s.noteChange b i).outer = s.outer := by
  simp only [State.noteChange]
  repeat' split
  all_goals simp

@[simp] theorem forgetChange_outer (s : State) (i : Slot) :
    (s.forgetChange i).outer = s.outer := by
  simp only [State.forgetChange]
  simp

@[simp] theorem addGranted_outer (s : State) (w : Nat) :
    (s.addGranted w).outer = s.outer := by
  simp only [State.addGranted]
  simp

@[simp] theorem subGranted_outer (s : State) (w : Nat) :
    (s.subGranted w).outer = s.outer := by
  simp only [State.subGranted]
  simp

@[simp] theorem checkStrict_outer (s : State) :
    (s.checkStrict).outer = s.outer := by
  simp only [State.checkStrict]
  repeat' split
  all_goals simp

@[simp] theorem giveMark_outer (s : State) (c : MarkClass) (u : UnitIx) :
    (s.giveMark c u).outer = s.outer := by
  simp only [State.giveMark]
  simp

@[simp] theorem arbitrate_outer (s : State) :
    (s.arbitrate).outer = s.outer := by
  simp only [State.arbitrate]
  simp

@[simp] theorem orderOpen_outer (s : State) (t : Target) :
    (s.orderOpen t).outer = s.outer := by
  simp only [State.orderOpen]
  repeat' split
  all_goals simp

@[simp] theorem openRelease_outer (s : State) (b : Bool) (i : Slot) (d : Dest) (r : Option Reason) :
    (s.openRelease b i d r).outer = s.outer := by
  simp only [State.openRelease]
  repeat' split
  all_goals simp

@[simp] theorem endWait_outer (s : State) (t : Target) :
    (s.endWait t).outer = s.outer := by
  simp only [State.endWait]
  repeat' split
  all_goals simp

@[simp] theorem completeRelease_outer (s : State) (b w : Bool) (i : Slot) :
    (s.completeRelease b w i).outer = s.outer := by
  simp only [State.completeRelease]
  repeat' split
  all_goals simp

@[simp] theorem settleRelease_outer (s : State) (b : Bool) (i : Slot) :
    (s.settleRelease b i).outer = s.outer := by
  simp only [State.settleRelease]
  repeat' split
  all_goals simp

@[simp] theorem beginRelease_outer (s : State) (b : Bool) (i : Slot) (d : Dest) (r : Option Reason) :
    (s.beginRelease b i d r).outer = s.outer := by
  simp only [State.beginRelease]
  simp

@[simp] theorem setWanted_outer (s : State) (b : Bool) (i : Slot) (w : Bool) :
    (s.setWanted b i w).outer = s.outer := by
  simp only [State.setWanted]
  repeat' split
  all_goals simp

@[simp] theorem quotaHold_outer (s : State) (i : Slot) :
    (s.quotaHold i).outer = s.outer := by
  simp only [State.quotaHold]
  repeat' split
  all_goals simp

@[simp] theorem sawWant_outer (s : State) (w : Bool) :
    (s.sawWant w).outer = s.outer := by
  simp only [State.sawWant]
  repeat' split
  all_goals simp

@[simp] theorem trimBack_outer (s : State) :
    (s.trimBack).outer = s.outer := by
  simp only [State.trimBack]
  repeat' split
  all_goals simp

@[simp] theorem sawFaultAtAlt_outer (s : State) :
    (s.sawFaultAtAlt).outer = s.outer := by
  simp only [State.sawFaultAtAlt]
  repeat' split
  all_goals simp

@[simp] theorem setCutWanted_outer (s : State) (w : Bool) :
    (s.setCutWanted w).outer = s.outer := by
  simp only [State.setCutWanted]
  simp

@[simp] theorem enterSaw_outer (s : State) (st : SawState) :
    (s.enterSaw st).outer = s.outer := by
  simp only [State.enterSaw]
  repeat' split
  all_goals simp

@[simp] theorem clearCutWanted_outer (s : State) :
    (s.clearCutWanted).outer = s.outer := by
  simp only [State.clearCutWanted]
  repeat' split
  all_goals simp

@[simp] theorem sawFault_outer (s : State) (c : FaultCause) :
    (s.sawFault c).outer = s.outer := by
  simp only [State.sawFault]
  repeat' split
  all_goals simp

@[simp] theorem enterFeeding_outer (s : State) :
    (s.enterFeeding).outer = s.outer := by
  simp only [State.enterFeeding]
  repeat' split
  all_goals simp

@[simp] theorem enterFeedWait_outer (s : State) :
    (s.enterFeedWait).outer = s.outer := by
  simp only [State.enterFeedWait]
  repeat' split
  all_goals simp

@[simp] theorem beginSettle_outer (s : State) :
    (s.beginSettle).outer = s.outer := by
  simp only [State.beginSettle]
  repeat' split
  all_goals simp

@[simp] theorem beginSetWait_outer (s : State) :
    (s.beginSetWait).outer = s.outer := by
  simp only [State.beginSetWait]
  repeat' split
  all_goals simp

@[simp] theorem beginSetMove_outer (s : State) (n : Nat) :
    (s.beginSetMove n).outer = s.outer := by
  simp only [State.beginSetMove]
  repeat' split
  all_goals simp

@[simp] theorem enterSetting_outer (s : State) :
    (s.enterSetting).outer = s.outer := by
  simp only [State.enterSetting]
  simp

@[simp] theorem enterReleasing_outer (s : State) :
    (s.enterReleasing).outer = s.outer := by
  simp only [State.enterReleasing]
  repeat' split
  all_goals simp

@[simp] theorem beginOrder_outer (s : State) :
    (s.beginOrder).outer = s.outer := by
  simp only [State.beginOrder]
  repeat' split
  all_goals simp

@[simp] theorem afterReturn_outer (s : State) (k : ReturnKind) :
    (s.afterReturn k).outer = s.outer := by
  simp only [State.afterReturn]
  repeat' split
  all_goals simp

@[simp] theorem arriveHome_outer (s : State) (k : ReturnKind) :
    (s.arriveHome k).outer = s.outer := by
  simp only [State.arriveHome]
  repeat' split
  all_goals simp

@[simp] theorem enterReturning_outer (s : State) (k : ReturnKind) :
    (s.enterReturning k).outer = s.outer := by
  simp only [State.enterReturning]
  repeat' split
  all_goals simp

@[simp] theorem strokeEnd_outer (s : State) :
    (s.strokeEnd).outer = s.outer := by
  simp only [State.strokeEnd]
  repeat' split
  all_goals simp

@[simp] theorem sawPublication_outer (s : State) (b : Bool) (f : Nat) :
    (s.sawPublication b f).outer = s.outer := by
  simp only [State.sawPublication]
  repeat' split
  all_goals simp

@[simp] theorem sawGovReport_outer (s : State) (b : Bool) :
    (s.sawGovReport b).outer = s.outer := by
  simp only [State.sawGovReport]
  repeat' split
  all_goals simp

@[simp] theorem enterHalted_outer (s : State) :
    (s.enterHalted).outer = s.outer := by
  simp only [State.enterHalted]
  simp

@[simp] theorem enterSpinup_outer (s : State) :
    (s.enterSpinup).outer = s.outer := by
  simp only [State.enterSpinup]
  simp

@[simp] theorem resumeSetting_outer (s : State) :
    (s.resumeSetting).outer = s.outer := by
  simp only [State.resumeSetting]
  repeat' split
  all_goals simp

@[simp] theorem resume_outer (s : State) (p : Phase) :
    (s.resume p).outer = s.outer := by
  simp only [State.resume]
  repeat' split
  all_goals simp

@[simp] theorem spunUp_outer (s : State) :
    (s.spunUp).outer = s.outer := by
  simp only [State.spunUp]
  repeat' split
  all_goals simp

@[simp] theorem noticeLive_outer (s : State) :
    (s.noticeLive).outer = s.outer := by
  simp only [State.noticeLive]
  repeat' split
  all_goals simp

@[simp] theorem noticeTrim_outer (s : State) :
    (s.noticeTrim).outer = s.outer := by
  simp only [State.noticeTrim]
  repeat' split
  all_goals simp

@[simp] theorem noticeUntrim_outer (s : State) :
    (s.noticeUntrim).outer = s.outer := by
  simp only [State.noticeUntrim]
  repeat' split
  all_goals simp

@[simp] theorem noticeRelease_outer (s : State) (d : Dest) :
    (s.noticeRelease d).outer = s.outer := by
  simp only [State.noticeRelease]
  repeat' split
  all_goals simp

@[simp] theorem noticeLeftReleasing_outer (s : State) :
    (s.noticeLeftReleasing).outer = s.outer := by
  simp only [State.noticeLeftReleasing]
  repeat' split
  all_goals simp

theorem tellSaw_outer (s : State) (i : Slot) (n : State → State) (h : ∀ s, (n s).outer = s.outer) :
    (s.tellSaw i n).outer = s.outer := by
  simp only [State.tellSaw]
  repeat' split
  all_goals simp [h]

@[simp] theorem release_outer (s : State) (b : Bool) (i : Slot) (d : Dest) (r : Option Reason) :
    (s.release b i d r).outer = s.outer := by
  have left : ∀ s : State, (if s.sawReleasing then s else s.noticeLeftReleasing).outer = s.outer := by
    intro s
    split <;> simp
  simp only [State.release, checkStrict_outer]
  rw [tellSaw_outer _ _ _ left, settleRelease_outer, tellSaw_outer _ _ _ (noticeRelease_outer · d),
    openRelease_outer]

@[simp] theorem confirmClutch_outer (s : State) :
    (s.confirmClutch).outer = s.outer := by
  simp only [State.confirmClutch]
  repeat' split
  all_goals simp

@[simp] theorem clutchIn_outer (s : State) :
    (s.clutchIn).outer = s.outer := by
  simp only [State.clutchIn]
  repeat' split
  all_goals simp

@[simp] theorem completeSawRelease_outer (s : State) (b : Bool) :
    (s.completeSawRelease b).outer = s.outer := by
  simp only [State.completeSawRelease]
  repeat' split
  all_goals simp

@[simp] theorem clutchOut_outer (s : State) :
    (s.clutchOut).outer = s.outer := by
  simp only [State.clutchOut]
  repeat' split
  all_goals simp

@[simp] theorem clutchFails_outer (s : State) :
    (s.clutchFails).outer = s.outer := by
  simp only [State.clutchFails]
  repeat' split
  all_goals simp

@[simp] theorem clutchSticks_outer (s : State) :
    (s.clutchSticks).outer = s.outer := by
  simp only [State.clutchSticks]
  simp

@[simp] theorem takeCount_outer (s : State) (i : Slot) (b a : Allotment) :
    (s.takeCount i b a).outer = s.outer := by
  simp only [State.takeCount]
  simp

@[simp] theorem accrueSlot_outer (p : Nat) (s : State) (i : Slot) :
    (State.accrueSlot p s i).outer = s.outer := by
  simp only [State.accrueSlot]
  repeat' split
  all_goals simp

@[simp] theorem shedOne_outer (s : State) (i : Slot) :
    (s.shedOne i).outer = s.outer := by
  simp only [State.shedOne]
  repeat' split
  all_goals simp

@[simp] theorem shedJudgement_outer (s : State) (p : Publication) :
    (s.shedJudgement p).outer = s.outer := by
  simp only [State.shedJudgement]
  repeat' split
  all_goals simp

@[simp] theorem shedAllSlot_outer (r : Reason) (s : State) (i : Slot) :
    (State.shedAllSlot r s i).outer = s.outer := by
  simp only [State.shedAllSlot]
  repeat' split
  all_goals simp

@[simp] theorem shedAll_outer (s : State) (r : Reason) :
    (s.shedAll r).outer = s.outer := by
  simp [State.shedAll, foldl_outer (fun s i => shedAllSlot_outer r s i)]

@[simp] theorem spendHeadroom_outer (s : State) (i : Slot) (n : Nat) :
    (s.spendHeadroom i n).outer = s.outer := by
  simp only [State.spendHeadroom]
  simp

@[simp] theorem orderClosed_outer (s : State) (i : Slot) (r : Allotment) :
    (s.orderClosed i r).outer = s.outer := by
  simp only [State.orderClosed]
  repeat' split
  all_goals simp

@[simp] theorem admit_outer (s : State) (i : Slot) (r : Allotment) :
    (s.grant i r).outer = s.outer := by
  simp only [State.grant]
  repeat' split
  all_goals simp

@[simp] theorem untrim_outer (s : State) (i : Slot) (r : Allotment) :
    (s.untrim i r).outer = s.outer := by
  simp only [State.untrim]
  simp

@[simp] theorem serve_outer (s : State) (i : Slot) (r : Allotment) :
    (s.serve i r).outer = s.outer := by
  simp only [State.serve]
  repeat' split
  all_goals simp

@[simp] theorem passOver_outer (s : State) (i : Slot) (r : Allotment) :
    (s.passOver i r).outer = s.outer := by
  simp only [State.passOver]
  simp

@[simp] theorem firstFit_outer (l : List Slot) (s : State) :
    (s.firstFit l).outer = s.outer := by
  induction l generalizing s with
  | nil => rfl
  | cons i l ih =>
    simp only [State.firstFit]
    split
    · exact ih s
    · split
      · simp
      · simp [ih]

@[simp] theorem strictPass_outer (s : State) (i : Slot) :
    (s.strictPass i).outer = s.outer := by
  simp only [State.strictPass]
  repeat' split
  all_goals simp

@[simp] theorem admissionPass_outer (s : State) :
    (s.admissionPass).outer = s.outer := by
  simp only [State.admissionPass]
  repeat' split
  all_goals simp

@[simp] theorem countTimers_outer (s : State) (p : Publication) :
    (s.countTimers p).outer = s.outer := by
  simp only [State.countTimers]
  repeat' split
  all_goals simp

@[simp] theorem altPublication_outer (s : State) (p : Publication) :
    (s.altPublication p).outer = s.outer := by
  simp only [State.altPublication]
  split <;> simp [foldl_outer (fun s i => accrueSlot_outer p.period s i)]

@[simp] theorem govReport_outer (s : State) :
    (s.govReport).outer = s.outer := by
  simp only [State.govReport]
  repeat' split
  all_goals simp

@[simp] theorem beginMove_outer (s : State) (p : MovePurpose) (d : GateDir) (n : Nat) :
    (s.beginMove p d n).outer = s.outer := by
  simp only [State.beginMove]
  simp

@[simp] theorem beginShut_outer (s : State) :
    (s.beginShut).outer = s.outer := by
  simp only [State.beginShut]
  simp

@[simp] theorem trip_outer (s : State) (c : TripCause) :
    (s.trip c).outer = s.outer := by
  simp only [State.trip]
  repeat' split
  all_goals simp

@[simp] theorem shutEnded_outer (s : State) :
    (s.shutEnded).outer = s.outer := by
  simp only [State.shutEnded]
  repeat' split
  all_goals simp

@[simp] theorem shutFailed_outer (s : State) :
    (s.shutFailed).outer = s.outer := by
  simp only [State.shutFailed]
  repeat' split
  all_goals simp

@[simp] theorem beginRunup_outer (s : State) :
    (s.beginRunup).outer = s.outer := by
  simp only [State.beginRunup]
  simp

@[simp] theorem runupDue_outer (s : State) :
    (s.runupDue).outer = s.outer := by
  simp only [State.runupDue]
  repeat' split
  all_goals simp

@[simp] theorem moveEnded_outer (s : State) (p : MovePurpose) (b : Bool) :
    (s.moveEnded p b).outer = s.outer := by
  simp only [State.moveEnded]
  repeat' split
  all_goals simp

@[simp] theorem gateLimit_outer (s : State) (d : GateDir) :
    (s.gateLimit d).outer = s.outer := by
  simp only [State.gateLimit]
  repeat' split
  all_goals simp

@[simp] theorem gateStep_outer (s : State) (m : Move) :
    (s.gateStep m).outer = s.outer := by
  simp only [State.gateStep]
  repeat' split
  all_goals simp

@[simp] theorem trimDecision_outer (s : State) :
    (s.trimDecision).outer = s.outer := by
  simp only [State.trimDecision]
  repeat' split
  all_goals simp

@[simp] theorem holdReturn_outer (s : State) :
    (s.holdReturn).outer = s.outer := by
  simp only [State.holdReturn]
  repeat' split
  all_goals simp

@[simp] theorem enterRegulating_outer (s : State) :
    (s.enterRegulating).outer = s.outer := by
  simp only [State.enterRegulating]
  simp

@[simp] theorem publish_outer (s : State) (p : Publication) :
    (s.publish p).outer = s.outer := by
  simp only [State.publish]
  simp

@[simp] theorem regulatingStages_outer (s : State) (p : Nat) :
    (s.regulatingStages p).outer = s.outer := by
  simp only [State.regulatingStages]
  repeat' split
  all_goals simp

@[simp] theorem laterStages_outer (s : State) (p : Nat) :
    (s.laterStages p).outer = s.outer := by
  simp only [State.laterStages]
  repeat' split
  all_goals simp

@[simp] theorem interval_outer (s : State) (p : Nat) :
    (s.interval p).outer = s.outer := by
  simp only [State.interval]
  repeat' split
  all_goals simp

@[simp] theorem govTachLost_outer (s : State) :
    (s.govTachLost).outer = s.outer := by
  simp only [State.govTachLost]
  repeat' split
  all_goals simp

@[simp] theorem govEstop_outer (s : State) :
    (s.govEstop).outer = s.outer := by
  simp only [State.govEstop]
  repeat' split
  all_goals simp

@[simp] theorem fwdLimitActive_outer (s : State) :
    (s.fwdLimitActive).outer = s.outer := by
  simp only [State.fwdLimitActive]
  repeat' split
  all_goals simp

@[simp] theorem revLimitActive_outer (s : State) :
    (s.revLimitActive).outer = s.outer := by
  simp only [State.revLimitActive]
  repeat' split
  all_goals simp

@[simp] theorem setDoneActive_outer (s : State) :
    (s.setDoneActive).outer = s.outer := by
  simp only [State.setDoneActive]
  repeat' split
  all_goals simp

@[simp] theorem sawGuard_outer (s : State) :
    (s.sawGuard).outer = s.outer := by
  simp only [State.sawGuard]
  repeat' split
  all_goals simp

@[simp] theorem guardActive_outer (s : State) :
    (s.guardActive).outer = s.outer := by
  simp only [State.guardActive]
  repeat' split
  all_goals simp

@[simp] theorem estopActive_outer (s : State) :
    (s.estopActive).outer = s.outer := by
  simp only [State.estopActive]
  repeat' split
  all_goals simp

@[simp] theorem tachEdge_outer (s : State) :
    (s.tachEdge).outer = s.outer := by
  simp only [State.tachEdge]
  repeat' split
  all_goals simp

@[simp] theorem deliver_outer (s : State) (c : Channel) (a : Bool) :
    (s.deliver c a).outer = s.outer := by
  simp only [State.deliver]
  repeat' split
  all_goals simp

@[simp] theorem acceptChange_outer (s : State) (c : Channel) :
    (s.acceptChange c).outer = s.outer := by
  simp only [State.acceptChange]
  repeat' split
  all_goals simp

@[simp] theorem tachLost_outer (s : State) :
    (s.tachLost).outer = s.outer := by
  simp only [State.tachLost]
  simp

@[simp] theorem homeMark_outer (s : State) :
    (s.homeMark).outer = s.outer := by
  simp only [State.homeMark]
  repeat' split
  all_goals simp

@[simp] theorem encoderMove_outer (s : State) (a b z : Bool) :
    (s.encoderMove a b z).outer = s.outer := by
  simp only [State.encoderMove]
  repeat' split
  all_goals simp

@[simp] theorem endEnrolment_outer (s : State) (e : EnrolEnd) :
    (s.endEnrolment e).outer = s.outer := by
  simp only [State.endEnrolment]
  simp

@[simp] theorem enrolNext_outer (s : State) (z : Option Nat) :
    (s.enrolNext z).outer = s.outer := by
  simp only [State.enrolNext]
  repeat' split
  all_goals simp

@[simp] theorem enrolTake_outer (s : State) (x : Identity) (z : Option Nat) :
    (s.enrolTake x z).outer = s.outer := by
  simp only [State.enrolTake]
  repeat' split
  all_goals simp

@[simp] theorem enrolSeek_outer (s : State) (o : SeekOutcome) :
    (s.enrolSeek o).outer = s.outer := by
  simp only [State.enrolSeek]
  repeat' split
  all_goals simp

@[simp] theorem endSweep_outer (s : State) :
    (s.endSweep).outer = s.outer := by
  simp only [State.endSweep]
  simp

@[simp] theorem sweepSeek_outer (s : State) (o : SeekOutcome) :
    (s.sweepSeek o).outer = s.outer := by
  simp only [State.sweepSeek]
  repeat' split
  all_goals simp

@[simp] theorem seekDone_outer (s : State) (w : SeekOwner) (o : SeekOutcome) :
    (s.seekDone w o).outer = s.outer := by
  simp only [State.seekDone]
  repeat' split
  all_goals simp

@[simp] theorem takeDemand_outer (s : State) (u : UnitIx) (o : Outlet) (b : Bool) :
    (s.takeDemand u o b).outer = s.outer := by
  simp only [State.takeDemand]
  repeat' split
  all_goals simp

@[simp] theorem confirmField_outer (s : State) (i : Slot) (r : Allotment) :
    (s.confirmField i r).outer = s.outer := by
  simp only [State.confirmField]
  simp

@[simp] theorem unitOpened_outer (s : State) (i : Slot) (r : Allotment) :
    (s.unitOpened i r).outer = s.outer := by
  simp only [State.unitOpened]
  repeat' split
  all_goals simp

@[simp] theorem reconcileStatus_outer (s : State) (u : UnitIx) (o : Outlet) (b : Bool) :
    (s.reconcileStatus u o b).outer = s.outer := by
  simp only [State.reconcileStatus]
  repeat' split
  all_goals simp

@[simp] theorem refuseField_outer (s : State) (i : Slot) (r : Allotment) :
    (s.refuseField i r).outer = s.outer := by
  simp only [State.refuseField]
  simp

@[simp] theorem reconcileApplied_outer (s : State) (u : UnitIx) (o : Outlet) (a b : Bool) :
    (s.reconcileApplied u o a b).outer = s.outer := by
  simp only [State.reconcileApplied]
  repeat' split
  all_goals simp

@[simp] theorem takeMeter_outer (s : State) (u : UnitIx) (b : Bool) (o : Outlet) (c : Half) :
    (s.takeMeter u b o c).outer = s.outer := by
  simp only [State.takeMeter]
  repeat' split
  all_goals simp

@[simp] theorem altStatus_outer (s : State) (u : UnitIx) (n : Nat) (k : StatusReport) :
    (s.altStatus u n k).outer = s.outer := by
  simp only [State.altStatus]
  rw [foldl_outer (fun s o => takeMeter_outer s u k.rebooted o (k.counts.get o)),
    foldl_outer (fun s o => reconcileStatus_outer s u o (k.closed.getLsbD o.val))]
  split
  · exact foldl_outer (fun s o => takeDemand_outer s u o (k.demand.getLsbD o.val)) _ _
  · rfl

@[simp] theorem altApplied_outer (s : State) (u : UnitIx) (n : Nat) (a b : BitVec 4) :
    (s.altApplied u n a b).outer = s.outer := by
  exact foldl_outer (fun s o => reconcileApplied_outer s u o (a.getLsbD o.val) (b.getLsbD o.val)) _ _

@[simp] theorem visitEnd_outer (s : State) (v : Visit) (b : Bool) :
    (s.visitEnd v b).outer = s.outer := by
  simp only [State.visitEnd]
  repeat' split
  all_goals simp

@[simp] theorem onVisit_outer (s : State) (g : Visit → Visit) :
    (s.onVisit g).outer = s.outer := by
  simp only [State.onVisit]
  simp

@[simp] theorem nextBlock_outer (s : State) (b : Block) :
    (s.nextBlock b).outer = s.outer := by
  simp only [State.nextBlock]
  simp

@[simp] theorem ackOrEnd_outer (s : State) :
    (s.ackOrEnd).outer = s.outer := by
  simp only [State.ackOrEnd]
  repeat' split
  all_goals simp

@[simp] theorem onEntry_outer (s : State) (v : Visit) (g : UnitEntry → UnitEntry) :
    (s.onEntry v g).outer = s.outer := by
  simp only [State.onEntry]
  repeat' split
  all_goals simp

@[simp] theorem plateReply_outer (s : State) (v : Visit) (r : List Byte) :
    (s.plateReply v r).outer = s.outer := by
  simp only [State.plateReply]
  repeat' split
  all_goals simp

@[simp] theorem afterStatus_outer (s : State) (v : Visit) (k : StatusReport) :
    (s.afterStatus v k).outer = s.outer := by
  simp only [State.afterStatus]
  repeat' split
  all_goals simp

@[simp] theorem statusReply_outer (s : State) (v : Visit) (r : List Byte) :
    (s.statusReply v r).outer = s.outer := by
  simp only [State.statusReply]
  repeat' split
  all_goals simp

@[simp] theorem appliedReply_outer (s : State) (v : Visit) (a : BitVec 4) (r : List Byte) :
    (s.appliedReply v a r).outer = s.outer := by
  simp only [State.appliedReply]
  repeat' split
  all_goals simp

@[simp] theorem ackReply_outer (s : State) (v : Visit) (r : List Byte) :
    (s.ackReply v r).outer = s.outer := by
  simp only [State.ackReply]
  simp

@[simp] theorem flcRestart_outer (s : State) :
    (s.flcRestart).outer = s.outer := by
  simp only [State.flcRestart]
  simp

end Sys2Proof.Machine
end

