-- ==== Sys2Proof/Laws/Ops.lean ====
section
/-! SUPPORT. The small laws of the named operations: records, channels, parameters, ballast, the strict slot, and the
searches over the slots. -/

namespace Sys2Proof.Machine

/-! ## Vectors -/

/-- A place stored is read back. -/
theorem vector_get_set_self {α : Type} {n : Nat} (v : Vector α n) (i : Fin n) (x : α) : (v.set i x).get i = x := by
  show (v.set i x)[i.val] = x
  simp

/-- A place stored leaves every other one. -/
theorem vector_get_set_ne {α : Type} {n : Nat} (v : Vector α n) {i j : Fin n} (x : α) (h : j ≠ i) :
    (v.set i x).get j = v.get j := by
  show (v.set i x)[j.val] = v[j.val]
  have h' : i.val ≠ j.val := fun e => h (Fin.ext e.symm)
  simp [h']

/-! ## Records -/

/-- A record stored is read back. -/
@[simp] theorem record_setRecord_self (s : State) (i : Slot) (r : Option Allotment) : (s.setRecord i r).record i = r :=
  vector_get_set_self ..

/-- A record stored leaves every other slot. -/
theorem record_setRecord_ne (s : State) {i j : Slot} (r : Option Allotment) (h : j ≠ i) :
    (s.setRecord i r).record j = s.record j :=
  vector_get_set_ne _ _ h

@[simp] theorem record_onInu (s : State) (f : Inu → Inu) (i : Slot) : (s.onInu f).record i = s.record i := rfl
@[simp] theorem record_onGov (s : State) (f : Gov → Gov) (i : Slot) : (s.onGov f).record i = s.record i := rfl
@[simp] theorem record_onFlc (s : State) (f : Flc → Flc) (i : Slot) : (s.onFlc f).record i = s.record i := rfl
@[simp] theorem record_onSaw (s : State) (f : Saw → Saw) (i : Slot) : (s.onSaw f).record i = s.record i := rfl
@[simp] theorem record_onRqp (s : State) (f : Rqp → Rqp) (i : Slot) : (s.onRqp f).record i = s.record i := rfl
@[simp] theorem record_onParams (s : State) (f : Params → Params) (i : Slot) : (s.onParams f).record i = s.record i := rfl
@[simp] theorem record_raise (s : State) (c : Cause) (i : Slot) : (s.raise c).record i = s.record i := rfl
@[simp] theorem record_ballastStep (s : State) (d : StepDir) (w : Nat) (i : Slot) :
    (s.ballastStep d w).record i = s.record i := rfl
@[simp] theorem record_addGranted (s : State) (w : Nat) (i : Slot) : (s.addGranted w).record i = s.record i := rfl
@[simp] theorem record_subGranted (s : State) (w : Nat) (i : Slot) : (s.subGranted w).record i = s.record i := rfl
@[simp] theorem record_forgetChange (s : State) (i j : Slot) : (s.forgetChange i).record j = s.record j := rfl
@[simp] theorem record_noteChange (s : State) (b : Bool) (i j : Slot) : (s.noteChange b i).record j = s.record j := by
  cases b <;> rfl

/-! ## Channels and parameters -/

/-- Channels have different numbers. -/
theorem channelNumber_inj {c d : Channel} (h : channelNumber c = channelNumber d) : c = d := by
  cases c <;> cases d <;> first | rfl | exact absurd h (by decide)

/-- A channel stored is read back. -/
@[simp] theorem chan_setChan_self (s : State) (c : Channel) (x : Chan) : (s.setChan c x).chan c = x :=
  vector_get_set_self ..

/-- A channel stored leaves every other one. -/
theorem chan_setChan_ne (s : State) {c d : Channel} (x : Chan) (h : d ≠ c) : (s.setChan c x).chan d = s.chan d :=
  vector_get_set_ne _ _ fun e => h (channelNumber_inj e)

/-- Parameters have different places. -/
theorem Param.index_inj {p q : Param} (h : p.index = q.index) : p = q := by
  cases p <;> cases q <;> first | rfl | exact absurd h (by decide)

/-- A parameter stored is read back. -/
@[simp] theorem Params.get_put_self (v : Params) (p : Param) (x : Nat) : (v.put p x).get p = x :=
  vector_get_set_self ..

/-- A parameter stored leaves every other one. -/
theorem Params.get_put_ne (v : Params) {p q : Param} (x : Nat) (h : q ≠ p) : (v.put p x).get q = v.get q :=
  vector_get_set_ne _ _ fun e => h (Param.index_inj e)

/-- A clamped value lies in the range. -/
theorem Param.clamp_inRange (p : Param) (x : Nat) : p.range.1 ≤ p.clamp x ∧ p.clamp x ≤ p.range.2 := by
  have h : p.range.1 ≤ p.range.2 := by cases p <;> decide
  unfold Param.clamp
  omega

/-! ## The ballast (R81) -/

/-- All that a ballast step can do: nothing, or the accumulator moved with duty and spare after it. -/
theorem ballastStep_cases (g : Gov) (params : Params) (d : StepDir) (w : Nat) :
    g.ballastStep params d w = g ∨
    ((g.st = .regulating ∨ g.st = .hold) ∧
      g.ballastStep params d w = g.setBallast params (stepped d w g.bAcc (params.get .bCap))) := by
  unfold Gov.ballastStep
  split
  · exact .inl rfl
  · split
    · next h => exact .inr ⟨h, rfl⟩
    · exact .inl rfl

/-- Setting the ballast changes the accumulator, the duty and the spare only. -/
theorem setBallast_eq (g : Gov) (params : Params) (b : Nat) :
    g.setBallast params b =
      { g with bAcc := b, duty := (g.setBallast params b).duty, spare := (g.setBallast params b).spare } := by
  unfold Gov.setBallast
  split <;> rfl

/-- A step leaves the accumulator within the bank (R81). -/
theorem stepped_le (d : StepDir) (w bAcc bCap : Nat) (h : bAcc ≤ 16 * bCap) : stepped d w bAcc bCap ≤ 16 * bCap := by
  cases d <;> simp only [stepped] <;> omega

/-- A ballast step leaves the governor's state. -/
@[simp] theorem ballastStep_st (g : Gov) (params : Params) (d : StepDir) (w : Nat) :
    (g.ballastStep params d w).st = g.st := by
  unfold Gov.ballastStep Gov.setBallast
  repeat' split
  all_goals rfl

/-! ## The strict slot (R49) -/

/-- All that the strict slot's check can do. -/
theorem checkStrict_cases (s : State) :
    s.checkStrict = s ∨ ∃ i, s.alt.strict = some i ∧ s.isCandidate i = false ∧
      s.checkStrict = (s.setRecord i ((s.record i).map fun r => { r with starve := 0 })).onAlt fun a =>
        { a with strict := none } := by
  unfold State.checkStrict
  split
  · exact .inl rfl
  · next i h =>
    split
    · exact .inl rfl
    · next hc => exact .inr ⟨i, h, by simpa using hc, rfl⟩

/-- With the strict slot absent its check changes nothing. -/
theorem checkStrict_of_none {s : State} (h : s.alt.strict = none) : s.checkStrict = s := by
  simp [State.checkStrict, h]

/-- The check changes no field of a record but its starve count. -/
theorem checkStrict_record (s : State) (j : Slot) :
    s.checkStrict.record j = s.record j ∨
      s.checkStrict.record j = (s.record j).map fun r => { r with starve := 0 } := by
  rcases checkStrict_cases s with h | ⟨i, -, -, h⟩
  · exact .inl (by rw [h])
  · by_cases e : j = i
    · subst e; right; rw [h]; exact record_setRecord_self ..
    · left; rw [h]; exact record_setRecord_ne s _ e

/-! ## Searches -/

/-- A slot search answers the lowest slot that passes. -/
theorem slotSearch_some {p : Slot → Bool} {i : Slot} (h : allSlots.find? p = some i) : p i = true :=
  List.find?_some h

/-- A slot search that answers nothing finds no slot that passes. -/
theorem slotSearch_none {p : Slot → Bool} (h : allSlots.find? p = none) (i : Slot) : p i = false := by
  have := List.find?_eq_none.mp h i (List.mem_finRange i)
  simpa using this

/-- The slot found for a target holds a record that names it (R6). -/
theorem slotOf_some {s : State} {t : Target} {i : Slot} (h : s.slotOf t = some i) :
    ∃ r, s.record i = some r ∧ r.target = t := by
  have := slotSearch_some h
  split at this
  · next r e => exact ⟨r, e, by simpa using this⟩
  · cases this

/-- No record names a target for which no slot is found. -/
theorem slotOf_none {s : State} {t : Target} (h : s.slotOf t = none) {i : Slot} {r : Allotment}
    (e : s.record i = some r) : r.target ≠ t := by
  have := slotSearch_none h i
  simp only [e] at this
  simpa using this

/-- The saw slot holds a SAW record. -/
theorem sawSlot_some {s : State} {i : Slot} (h : s.sawSlot = some i) : ∃ r, s.record i = some r ∧ r.kind = .saw := by
  have := slotSearch_some h
  split at this
  · next r e => exact ⟨r, e, by simpa using this⟩
  · cases this

/-- Without a saw slot no record is of kind SAW. -/
theorem sawSlot_none {s : State} (h : s.sawSlot = none) {i : Slot} {r : Allotment} (e : s.record i = some r) :
    r.kind ≠ .saw := by
  have := slotSearch_none h i
  simp only [e] at this
  simpa using this

/-- The free slot is VACANT (R6). -/
theorem freeSlot_some {s : State} {i : Slot} (h : s.freeSlot = some i) : s.record i = none := by
  simpa using slotSearch_some h

end Sys2Proof.Machine
end

