-- ==== Sys2Proof/Laws/Port.lean ====
section
/-! SUPPORT. What the port's shared operations can do: a request by the state it meets, an event by the reset. -/

namespace Sys2Proof.Machine

/-- A request at a ready port: the act runs with OVERRUN clear and its answer is in execution (R181). -/
theorem request_of_ready {s : State} (h : s.Ready) (act : Act) :
    s.request act =
      .next ((act (s.onRqp fun r => { r with overrun := false })).1.onRqp fun r =>
        { r with exec := some (act (s.onRqp fun r => { r with overrun := false })).2 }) := by
  obtain ⟨h1, h2⟩ := h
  simp [State.request, State.accept, h1, h2]

/-- A request while another is in execution is discarded (R183). -/
theorem request_of_busy {s : State} (h : s.inReset = false) {a : Answer} (e : s.rqp.exec = some a) (act : Act) :
    s.request act = .next s.overrun := by
  simp [State.request, h, e]

/-- A request in reset is ignored (R190). -/
theorem request_of_reset {s : State} (h : s.inReset = true) (act : Act) : s.request act = .next s := by
  simp [State.request, h]

/-- An event outside reset has its effect. -/
theorem event_of_running {s : State} (h : s.inReset = false) (act : State → State) : s.event act = .next (act s) := by
  simp [State.event, h]

/-- An event in reset has none (R190). -/
theorem event_of_reset {s : State} (h : s.inReset = true) (act : State → State) : s.event act = .next s := by
  simp [State.event, h]

/-- Every request answers a next state. -/
theorem request_next (s : State) (act : Act) : ∃ t, s.request act = .next t := ⟨_, rfl⟩

/-- Every event answers a next state. -/
theorem event_next (s : State) (act : State → State) : ∃ t, s.event act = .next t := ⟨_, rfl⟩

/-- A refusing act answers and keeps the state. -/
@[simp] theorem refuse_fst (s : State) (c : ResultCode) : (refuse s c).1 = s := rfl
@[simp] theorem refuse_snd (s : State) (c : ResultCode) : (refuse s c).2 = ⟨c, []⟩ := rfl
@[simp] theorem done_fst (s : State) (p : List Byte) : (done s p).1 = s := rfl
@[simp] theorem done_snd (s : State) (p : List Byte) : (done s p).2 = ⟨.done, p⟩ := rfl
@[simp] theorem accepted_fst (s : State) : (accepted s).1 = s := rfl
@[simp] theorem accepted_snd (s : State) : (accepted s).2 = ⟨.accepted, []⟩ := rfl

/-- An arbitrated act keeps its answer. -/
@[simp] theorem arbitrated_snd (act : Act) (s : State) : (arbitrated act s).2 = (act s).2 := rfl

/-- An arbitrated act that refuses keeps the act's state. -/
theorem arbitrated_of_refused {act : Act} {s : State} (h : (act s).2.code.carriedOut = false) :
    (arbitrated act s).1 = (act s).1 := by
  simp [arbitrated, h]

/-- An arbitrated act that is carried out leaves the line to the most urgent work. -/
theorem arbitrated_of_carriedOut {act : Act} {s : State} (h : (act s).2.code.carriedOut = true) :
    (arbitrated act s).1 = (act s).1.arbitrate := by
  simp [arbitrated, h]

/-- The answered state, block by block. -/
@[simp] theorem answered_now (s : State) (c : ResultCode) (p : List Byte) : (s.answered c p).now = s.now := rfl
@[simp] theorem answered_params (s : State) (c : ResultCode) (p : List Byte) : (s.answered c p).params = s.params := rfl
@[simp] theorem answered_inu (s : State) (c : ResultCode) (p : List Byte) : (s.answered c p).inu = s.inu := rfl
@[simp] theorem answered_gov (s : State) (c : ResultCode) (p : List Byte) : (s.answered c p).gov = s.gov := rfl
@[simp] theorem answered_alt (s : State) (c : ResultCode) (p : List Byte) : (s.answered c p).alt = s.alt := rfl
@[simp] theorem answered_flc (s : State) (c : ResultCode) (p : List Byte) : (s.answered c p).flc = s.flc := rfl
@[simp] theorem answered_saw (s : State) (c : ResultCode) (p : List Byte) : (s.answered c p).saw = s.saw := rfl
@[simp] theorem answered_pending (s : State) (c : ResultCode) (p : List Byte) : (s.answered c p).pending = s.pending := rfl
@[simp] theorem answered_exec (s : State) (c : ResultCode) (p : List Byte) :
    (s.answered c p).rqp.exec = some ⟨c, p⟩ := rfl

/-- A request whose act refuses, at a ready port. -/
theorem request_refused {s : State} (h : s.Ready) {act : Act} {c : ResultCode}
    (e : ∀ s, act s = refuse s c) : s.request act = .next (s.answered c []) := by
  simp [request_of_ready h, e]; rfl

end Sys2Proof.Machine
end

