-- ==== Sys2Proof/Machine/PortWire.lean ====
section
/-! DEFINITION. The wire side of the port's two forms: the SPI edges, the bits taken and shifted out (R179); the I2C bus
conditions, the bytes and their acknowledgement (R180, R183); and the frames they bring. While a reset lasts the part ignores
both (R190). The table's rows begin above the wire, with whole frames: no command reads this file's
definitions (log 39). -/

namespace Sys2Proof.Machine

/-! ## SPI edges (R179) -/

/-- The levels of the SPI select, clock and data inputs; the select input is active low. -/
structure SpiLevels where
  select : Bool
  clock : Bool
  data : Bool
deriving DecidableEq, Repr

/-- What a change of the levels means. -/
inductive SpiMark where
  /-- The select input falls: a frame begins. -/
  | opens
  /-- The clock rises in a frame: the part samples its data input. -/
  | sample (high : Bool)
  /-- The clock falls in a frame: the part changes its data output. -/
  | shift
  /-- The select input rises: the frame ends. -/
  | closes
deriving DecidableEq, Repr

/-- The mark between two moments of the inputs; with the select input high the clock is not followed. -/
def spiMark (was now : SpiLevels) : Option SpiMark :=
  if was.select != now.select then some (if now.select then .closes else .opens)
  else if now.select || was.clock == now.clock then none
  else some (if now.clock then .sample now.data else .shift)

/-- The marks of a run of levels. -/
def spiMarks : SpiLevels → List SpiLevels → List SpiMark
  | _, [] => []
  | was, now :: rest => (spiMark was now).toList ++ spiMarks now rest

/-- A frame in progress. -/
structure SpiFrame where
  /-- The port state byte, taken as the select input fell. -/
  state : Byte
  /-- The bits sampled. -/
  bits : List Bool
  /-- The falling clock edges since. -/
  shifted : Nat
deriving DecidableEq, Repr

/-- The complete bytes of a frame (R179). -/
def SpiFrame.bytes (f : SpiFrame) : List Byte := spiBytes f.bits.length f.bits

/-- The frame in progress after a mark, with the write frame taken at its end. A read frame, and a frame without a complete
byte, brings none; where the part does not listen there is no frame (R178, R179, R190). -/
def State.spiStep (s : State) (f : Option SpiFrame) (m : SpiMark) : Option SpiFrame × Option (List Byte) :=
  if s.listens .spi then
    match m, f with
    | .opens, _ => (some { state := s.stateByte, bits := [], shifted := 0 }, none)
    | .sample high, some f => (some { f with bits := f.bits ++ [high] }, none)
    | .shift, some f => (some { f with shifted := f.shifted + 1 }, none)
    | .closes, some f => (none, if isWriteFrame .spi f.bytes then some f.bytes else none)
    | .sample _, none | .shift, none | .closes, none => (none, none)
  else (none, none)

/-- The level of the part's data output in a frame: the state byte's bits through the first byte, then those of what R179
gives by the host's first byte, most significant first; `none` where there is no frame. -/
def State.spiDrives (s : State) (f : Option SpiFrame) : Option Bool :=
  if s.listens .spi then
    f.map fun f =>
      let byte := f.shifted / 8
      let out := if byte = 0 then f.state
        else byteAt (s.spiOut (byteAt f.bytes 0 :: List.replicate byte 0)) byte
      out.getLsbD (7 - f.shifted % 8)
  else none

/-- The frame in progress after a run of marks, and the write frames taken, in order. The port's own state is taken as
unchanged through the run. -/
def State.spiRun (s : State) : Option SpiFrame → List SpiMark → Option SpiFrame × List (List Byte)
  | f, [] => (f, [])
  | f, m :: rest =>
    let (f', frame) := s.spiStep f m
    let (last, frames) := s.spiRun f' rest
    (last, frame.toList ++ frames)

/-- The marks of a whole frame in which the host clocks out some bits. -/
def spiFrame (bits : List Bool) : List SpiMark := .opens :: bits.flatMap (fun b => [.sample b, .shift]) ++ [.closes]

/-! ## Bus conditions (R180) -/

/-- The levels of the I2C clock and data lines. -/
structure BusLevels where
  clock : Bool
  data : Bool
deriving DecidableEq, Repr

/-- What a change of the levels means. -/
inductive BusMark where
  /-- The data line falls while the clock is high. -/
  | start
  /-- The data line rises while the clock is high. -/
  | stop
  /-- The clock rises: one bit, at the level the data line has. -/
  | bit (high : Bool)
deriving DecidableEq, Repr

/-- The bus condition between two moments of the lines. -/
def busMark (was now : BusLevels) : Option BusMark :=
  if was.clock && now.clock then
    if was.data && !now.data then some .start else if !was.data && now.data then some .stop else none
  else if !was.clock && now.clock then some (.bit now.data)
  else none

/-- The conditions of a run of levels. -/
def busMarks : BusLevels → List BusLevels → List BusMark
  | _, [] => []
  | was, now :: rest => (busMark was now).toList ++ busMarks now rest

/-! ## A transaction at the part (R180) -/

/-- Where the part stands in a transaction. -/
inductive BusPhase where
  /-- No start since the last stop. -/
  | free
  /-- The bits of the address byte so far. -/
  | address (bits : List Bool)
  /-- Another address, the general call among them, or a read the host has ended: silent up to a stop or a start. -/
  | silent
  /-- The ninth clock of the address byte or of a byte written, with the bytes of the write so far. -/
  | writeAck (bytes : List Byte)
  /-- The bytes written and the bits of the next. -/
  | write (bytes : List Byte) (bits : List Bool)
  /-- The ninth clock of the address byte of a read. -/
  | readAck
  /-- The bytes returned and the bits of the next; after eight bits comes the host's acknowledgement. -/
  | read (returned bits : Nat)
deriving DecidableEq, Repr

/-- The write frame that a stop or a repeated start takes; without a byte after the address there is none. A byte whose
eight bits have come counts before its ninth clock too: the model's choice (log 40). -/
def BusPhase.frame : BusPhase → Option (List Byte)
  | .writeAck bytes | .write bytes _ => if bytes = [] then none else some bytes
  | .free | .address _ | .silent | .readAck | .read _ _ => none

/-- The phase after one bit, with the address byte decided by the part's own address. Every rise of the clock brings a bit,
the one before a stop or a repeated start too, which may complete a byte: the model's choice (log 44). -/
def State.busBit (s : State) (high : Bool) : BusPhase → BusPhase
  | .free => .free
  | .silent => .silent
  | .address bits =>
    let bits := bits ++ [high]
    if bits.length < 8 then .address bits
    else if s.answers (byteOfBits bits) then (if high then .readAck else .writeAck []) else .silent
  | .writeAck bytes => .write bytes []
  | .write bytes bits =>
    let bits := bits ++ [high]
    if bits.length < 8 then .write bytes bits else .writeAck (bytes ++ [byteOfBits bits])
  | .readAck => .read 0 0
  | .read returned bits =>
    if bits < 8 then .read returned (bits + 1) else if high then .silent else .read (returned + 1) 0

/-- The phase after a bus condition, with the write frame taken at that moment (R180). A read transaction changes no
state. Where the part does not listen, a transaction that was open is dropped and brings no frame (R178, R190). -/
def State.busStep (s : State) (p : BusPhase) (m : BusMark) : BusPhase × Option (List Byte) :=
  if s.listens .i2c then
    match m with
    | .start => (.address [], p.frame)
    | .stop => (.free, p.frame)
    | .bit high => (s.busBit high p, none)
  else (.free, none)

/-- The level at which the part drives the data line at the clock to come, `none` where it leaves the line released: it
acknowledges its address and every byte the host writes, a request in execution or not (R180, R183), and returns the bytes
of the read frame; while it does not listen it leaves the line released (R178, R190). -/
def State.busDrives (s : State) (p : BusPhase) : Option Bool :=
  if s.listens .i2c then
    match p with
    | .writeAck _ | .readAck => some false
    | .read returned bits =>
      if bits < 8 then some ((byteAt (s.readFrame (returned + 1)) returned).getLsbD (7 - bits)) else none
    | .free | .address _ | .silent | .write _ _ => none
  else none

/-- The phase after a run of bus conditions, and the write frames taken, in order. The port's own state is taken as
unchanged through the run. -/
def State.busRun (s : State) : BusPhase → List BusMark → BusPhase × List (List Byte)
  | p, [] => (p, [])
  | p, m :: rest =>
    let (p', frame) := s.busStep p m
    let (last, frames) := s.busRun p' rest
    (last, frame.toList ++ frames)

/-- The bits of the bytes of a write transaction as the bus carries them, each byte followed by its ninth clock, in which
the part holds the data line low. -/
def writeBits (bytes : List Byte) : List BusMark :=
  bytes.flatMap fun b => (bitsOf [b] ++ [false]).map BusMark.bit

/-- The conditions of a whole write transaction to an address. -/
def writeTransaction (address : BitVec 7) (bytes : List Byte) : List BusMark :=
  .start :: writeBits (addressByte address false :: bytes) ++ [.stop]

/-! ## The commands frames bring (R181, R182) -/

/-- The table's row of a write frame taken whole: the request it decodes to, or the failed decode (R182). -/
def frameCommand (bytes : List Byte) : Instr :=
  match decodeFrame bytes with
  | .ok i => i
  | .error _ => .requestDecodeFail bytes

end Sys2Proof.Machine
end

