-- ==== Sys2Proof/Laws/PortWire.lean ====
section
/-! SUPPORT. What the wire sides carry: bytes through their bits, bytes through the field line's slots (R116), a write
transaction of the I2C bus (R180, R183) and a frame of the SPI form (R179); and what FLC makes of the line after a reset
pulse (R118). -/

namespace Sys2Proof.Machine

/-- A byte has eight bits. -/
@[simp] theorem bitsOf_length (bytes : List Byte) : (bitsOf bytes).length = 8 * bytes.length := by
  induction bytes with
  | nil => rfl
  | cons b bytes ih => simp_all [bitsOf]; omega

/-- The bits of bytes stand one byte after the other. -/
theorem bitsOf_cons (b : Byte) (bytes : List Byte) : bitsOf (b :: bytes) = bitsOf [b] ++ bitsOf bytes := by
  simp [bitsOf]

/-- A byte comes back from its bits. -/
@[simp] theorem byteOfBits_bitsOf (b : Byte) : byteOfBits (bitsOf [b]) = b := by
  have h : ∀ n : Fin 256, byteOfBits (bitsOf [BitVec.ofFin n]) = BitVec.ofFin n := by decide +kernel
  exact h b.toFin

/-- The bits of one byte, written out. -/
theorem bits_of_byte (b : Byte) : bitsOf [b] = [b[7], b[6], b[5], b[4], b[3], b[2], b[1], b[0]] := by
  simp [bitsOf, List.range, List.range.loop]

/-- The byte of its bits, written out. -/
theorem byte_of_bits (b : Byte) : byteOfBits [b[7], b[6], b[5], b[4], b[3], b[2], b[1], b[0]] = b := by
  rw [← bits_of_byte, byteOfBits_bitsOf]

/-- Bytes come back from their bits, whatever follows that is no whole byte (R179). -/
theorem bytesOf_bitsOf (n : Nat) (bytes : List Byte) (rest : List Bool) (h : bytes.length ≤ n) (hr : rest.length < 8) :
    bytesOf n (bitsOf bytes ++ rest) = bytes := by
  induction bytes generalizing n with
  | nil => cases n <;> simp [bytesOf, bitsOf, hr]
  | cons b bytes ih =>
    cases n with
    | zero => simp at h
    | succ n =>
      have h8 : (bitsOf [b]).length = 8 := by simp
      rw [bitsOf_cons, List.append_assoc]
      simp only [bytesOf, List.length_append, h8]
      rw [if_neg (by omega), List.take_left' h8, List.drop_left' h8, byteOfBits_bitsOf, ih n (by simpa using h)]

/-! ## The field line (R116) -/

/-- A unit takes from FLC's write slots the bytes FLC writes. -/
theorem takenBytes_writeSlots (bytes : List Byte) : takenBytes (writeSlots bytes) = bytes := by
  have taken : (writeSlots bytes).map LineSlot.taken = bitsOf bytes := by
    simp only [writeSlots, List.map_map]
    refine (List.map_congr_left fun b _ => ?_).trans (List.map_id _)
    cases b <;> rfl
  rw [takenBytes, taken]
  simpa using bytesOf_bitsOf (writeSlots bytes).length bytes [] (by simp [writeSlots]; omega) (by simp)

/-! ## Reset and presence (R118) -/

/-- A run of levels is low again after its first high exactly where a low follows a high. -/
theorem low_after_high_iff (levels : List Bool) :
    (levels.dropWhile (! ·)).all id = false ↔
      ∃ j k : Nat, j < k ∧ levels[j]? = some true ∧ levels[k]? = some false := by
  induction levels with
  | nil => simp
  | cons l levels ih =>
    cases l with
    | false =>
      simp only [List.dropWhile_cons, Bool.not_false, if_true, ih]
      constructor
      · rintro ⟨j, k, h, hj, hk⟩
        exact ⟨j + 1, k + 1, by omega, by simpa using hj, by simpa using hk⟩
      · rintro ⟨j, k, h, hj, hk⟩
        obtain _ | j := j
        · simp at hj
        obtain _ | k := k
        · omega
        exact ⟨j, k, by omega, by simpa using hj, by simpa using hk⟩
    | true =>
      constructor
      · intro h
        obtain ⟨k, hk⟩ : ∃ k, levels[k]? = some false := by
          simpa [List.mem_iff_getElem?] using h
        exact ⟨0, k + 1, by omega, by simp, by simpa using hk⟩
      · rintro ⟨j, k, h, -, hk⟩
        obtain _ | k := k
        · omega
        simpa [List.mem_iff_getElem?] using ⟨k, by simpa using hk⟩

/-- The line is held low from outside exactly where no sample of the first slot time is high. -/
theorem presenceOf_heldLow_iff (n : Nat) (levels : List Bool) :
    presenceOf n levels = .heldLow ↔ ∀ j, j < n → levels[j]? ≠ some true := by
  have high : (levels.take n).any id = true ↔ ∃ j, j < n ∧ levels[j]? = some true := by
    simp only [List.any_eq_true, id_eq, exists_eq_right, List.mem_iff_getElem?, List.getElem?_take]
    exact exists_congr fun j => by split <;> simp_all
  unfold presenceOf
  split
  · rename_i h
    obtain ⟨j, hj, hl⟩ := high.mp h
    split <;> simpa using ⟨j, hj, hl⟩
  · rename_i h
    simpa using fun j hj hl => h (high.mpr ⟨j, hj, hl⟩)

/-- Presence is shown exactly where the line is high within the first slot time and low at a later sample in the window. -/
theorem presenceOf_shown_iff (n : Nat) (levels : List Bool) :
    presenceOf n levels = .shown ↔
      ∃ j k, j < n ∧ j < k ∧ k < windowSlots * n ∧ levels[j]? = some true ∧ levels[k]? = some false := by
  have held := presenceOf_heldLow_iff n levels
  have low := low_after_high_iff (levels.take (windowSlots * n))
  simp only [List.getElem?_take] at low
  constructor
  · intro h
    obtain ⟨j, hj, hl⟩ : ∃ j, j < n ∧ levels[j]? = some true := by
      by_contra none
      exact absurd (held.mpr fun j hj hl => none ⟨j, hj, hl⟩) (by simp [h])
    obtain ⟨i, k, hik, hi, hk⟩ := low.mp (by
      unfold presenceOf at h
      split at h <;> [skip; cases h]
      split at h <;> [cases h; simp_all])
    have hkw : k < windowSlots * n := by by_contra h'; simp [h'] at hk
    have hiw : i < windowSlots * n := by omega
    rw [if_pos hiw] at hi
    rw [if_pos hkw] at hk
    by_cases hjk : j < k
    · exact ⟨j, k, hj, hjk, hkw, hl, hk⟩
    · exact ⟨i, k, by omega, hik, hkw, hi, hk⟩
  · rintro ⟨j, k, hj, hjk, hkw, hl, hk⟩
    have some_high : presenceOf n levels ≠ .heldLow := fun h => held.mp h j hj hl
    have again := low.mpr ⟨j, k, hjk, by rw [if_pos (by omega)]; exact hl, by rw [if_pos hkw]; exact hk⟩
    unfold presenceOf at some_high ⊢
    split <;> simp_all

/-- The level of the line at a moment of the window. -/
theorem levelsAfterRelease_getElem? (n : Nat) (holds : List Hold) (moment : Nat) (h : moment < windowSlots * n) :
    (levelsAfterRelease n holds)[moment]? = some (holds.all fun x => !x.low moment) := by
  simp [levelsAfterRelease, h]

/-- A line that nothing holds shows no presence. -/
theorem presenceOf_free_line (n : Nat) (hn : 0 < n) : presenceOf n (levelsAfterRelease n []) = .absent := by
  have level := fun m h => levelsAfterRelease_getElem? n [] m h
  have held : presenceOf n (levelsAfterRelease n []) ≠ .heldLow := fun h =>
    (presenceOf_heldLow_iff n _).mp h 0 hn (by rw [level 0 (by simp [windowSlots]; omega)]; rfl)
  have shown : presenceOf n (levelsAfterRelease n []) ≠ .shown := fun h => by
    obtain ⟨_, k, _, _, hk, _, hl⟩ := (presenceOf_shown_iff n _).mp h
    simp [level k hk] at hl
  cases h : presenceOf n (levelsAfterRelease n []) <;> simp_all

/-- A line held low through the first slot time from outside gives NO_PRESENCE, whatever the units do. -/
theorem resetAndPresence_held (n : Nat) (units : List (OutletUnit × Hold)) (others : List Hold) (x : Hold)
    (hx : x ∈ others) (hf : x.first = 0) (hl : n ≤ x.length) : (resetAndPresence n units others).2 = .heldLow := by
  refine (presenceOf_heldLow_iff n _).mpr fun j hj => ?_
  rw [levelsAfterRelease_getElem? n _ j (by simp [windowSlots]; omega)]
  simp only [ne_eq, Option.some.injEq, List.all_eq_true, not_forall]
  exact ⟨x, by simp [hx], by simp [Hold.low, hf]; omega⟩

/-- After the pulse every unit waits for a selector; with one unit or more, each answering within the window, and nothing else
on the line, presence is shown. -/
theorem resetAndPresence_answered (n : Nat) (u : OutletUnit × Hold) (units : List (OutletUnit × Hold))
    (h : ∀ v ∈ u :: units, v.2.inWindow n = true) (hn : 0 < n) :
    (resetAndPresence n (u :: units) []).2 = .shown ∧
    ∀ k ∈ (resetAndPresence n (u :: units) []).1, k.line = .waiting := by
  have answers : ∀ v ∈ u :: units, 0 < v.2.first ∧ 0 < v.2.length ∧ v.2.first + v.2.length ≤ windowSlots * n :=
    fun v hv => by simpa [Hold.inWindow, and_assoc] using h v hv
  have holds : ((u :: units).map fun v => (v.1.resetPulse, v.2)).filterMap (fun v => v.1.presence v.2) =
      (u :: units).map Prod.snd := by
    simp [List.filterMap_map, OutletUnit.presence, OutletUnit.resetPulse, List.filterMap_eq_map']
  refine ⟨?_, by simp only [resetAndPresence, List.map_map, List.mem_map]; rintro _ ⟨v, -, rfl⟩; rfl⟩
  have hu := answers u (by simp)
  have moments := fun m hm => levelsAfterRelease_getElem? n ((u :: units).map Prod.snd) m hm
  refine (presenceOf_shown_iff n _).mpr ⟨0, u.2.first, hn, hu.1, by omega, ?_, ?_⟩ <;>
    simp only [holds, List.append_nil]
  · rw [moments 0 (by omega)]
    simpa [Hold.low] using ⟨by omega, fun a b hab => by have := answers (a, b) (by simp [hab]); simp at this; omega⟩
  · rw [moments _ (by omega)]
    simp [Hold.low]
    omega

/-! ## The I2C bus (R180, R183) -/

/-- A run of conditions in two parts. -/
theorem busRun_append (s : State) (p : BusPhase) (xs ys : List BusMark) :
    s.busRun p (xs ++ ys) =
      ((s.busRun (s.busRun p xs).1 ys).1, (s.busRun p xs).2 ++ (s.busRun (s.busRun p xs).1 ys).2) := by
  induction xs generalizing p with
  | nil => rfl
  | cons x xs ih => simp [State.busRun, ih]

/-- A byte the host writes is taken, and the part holds the data line low at its ninth clock, a request in execution or
not. -/
theorem busRun_writes_byte {s : State} (h : s.listens .i2c = true) (bytes : List Byte) (b : Byte) :
    s.busRun (.write bytes []) ((bitsOf [b]).map .bit) = (.writeAck (bytes ++ [b]), []) ∧
    s.busDrives (.writeAck (bytes ++ [b])) = some false := by
  refine ⟨?_, by simp [State.busDrives, h]⟩
  simp [bits_of_byte, State.busRun, State.busStep, State.busBit, byte_of_bits, h]

/-- The bytes of a write transaction are taken one after the other. -/
theorem busRun_writes {s : State} (h : s.listens .i2c = true) (bytes taken : List Byte) :
    s.busRun (.write taken []) (writeBits bytes) = (.write (taken ++ bytes) [], []) := by
  induction bytes generalizing taken with
  | nil => simp [writeBits, State.busRun]
  | cons b bytes ih =>
    have split : writeBits (b :: bytes) = (bitsOf [b]).map .bit ++ (.bit false :: writeBits bytes) := by
      simp [writeBits]
    rw [split, busRun_append, (busRun_writes_byte h taken b).1]
    simp [State.busRun, State.busStep, State.busBit, ih, h]

/-- The address byte after a start: the part's own address is acknowledged, any other leaves the part silent. -/
theorem busRun_address {s : State} (h : s.listens .i2c = true) (b : Byte) :
    s.busRun (.address []) ((bitsOf [b]).map .bit) =
      (if s.answers b then (if b.getLsbD 0 then .readAck else .writeAck []) else .silent, []) := by
  simp [bits_of_byte, State.busRun, State.busStep, State.busBit, byte_of_bits, h]

/-- A port that does not listen, in reset or strapped for SPI, takes no frame and drops a transaction that was open (R178,
R190). -/
theorem busRun_of_not_listening {s : State} (h : s.listens .i2c = false) (p : BusPhase) (m : BusMark) (ms : List BusMark) :
    s.busRun p (m :: ms) = (.free, []) ∧ s.busDrives p = none := by
  refine ⟨?_, by simp [State.busDrives, h]⟩
  induction ms generalizing p m with
  | nil => simp [State.busRun, State.busStep, h]
  | cons m' ms ih =>
    rw [State.busRun]
    simp [State.busStep, h, ih]

/-- A write transaction to the part's own address brings its frame whole, unless it is empty; one to another address, or
while a reset lasts, brings none. -/
theorem busRun_writeTransaction (s : State) (address : BitVec 7) (bytes : List Byte) :
    s.busRun .free (writeTransaction address bytes) =
      (.free, if s.answers (addressByte address false) ∧ bytes ≠ [] then [bytes] else []) := by
  by_cases hl : s.listens .i2c = true
  case neg =>
    have h : s.listens .i2c = false := by simpa using hl
    have ha : s.answers (addressByte address false) = false := by simp [State.answers, h]
    simp [writeTransaction, (busRun_of_not_listening h _ _ _).1, ha]
  have low : (addressByte address false).getLsbD 0 = false := by
    revert address; decide
  have silent : ∀ xs : List Bool, s.busRun .silent (xs.map .bit) = (.silent, []) := by
    intro xs
    induction xs with
    | nil => rfl
    | cons x xs ih => simp [State.busRun, State.busStep, State.busBit, ih, hl]
  have bits : ∀ bytes, ∃ xs : List Bool, writeBits bytes = xs.map BusMark.bit := fun bytes =>
    ⟨bytes.flatMap fun b => bitsOf [b] ++ [false], by simp [writeBits, List.map_flatMap]⟩
  have split : writeTransaction address bytes =
      .start :: ((bitsOf [addressByte address false]).map .bit ++ (.bit false :: (writeBits bytes ++ [.stop]))) := by
    simp [writeTransaction, writeBits]
  rw [split]
  simp only [State.busRun, State.busStep, hl, if_true, busRun_append, busRun_address hl, low]
  by_cases ha : s.answers (addressByte address false) = true
  · simp [ha, State.busBit, BusPhase.frame, busRun_writes hl]
    by_cases hb : bytes = [] <;> simp [hb]
  · obtain ⟨xs, hx⟩ := bits bytes
    simp [ha, State.busBit, BusPhase.frame, hx, silent]

/-! ## The SPI form (R179) -/

/-- A run of marks in two parts. -/
theorem spiRun_append (s : State) (f : Option SpiFrame) (xs ys : List SpiMark) :
    s.spiRun f (xs ++ ys) =
      ((s.spiRun (s.spiRun f xs).1 ys).1, (s.spiRun f xs).2 ++ (s.spiRun (s.spiRun f xs).1 ys).2) := by
  induction xs generalizing f with
  | nil => rfl
  | cons x xs ih => simp [State.spiRun, ih]

/-- The bits clocked in a frame are sampled in order, and no frame is taken before it ends. -/
theorem spiRun_bits {s : State} (h : s.listens .spi = true) (bits : List Bool) (f : SpiFrame) :
    s.spiRun (some f) (bits.flatMap fun b => [.sample b, .shift]) =
      (some { f with bits := f.bits ++ bits, shifted := f.shifted + bits.length }, []) := by
  induction bits generalizing f with
  | nil => simp [State.spiRun]
  | cons b bits ih => simp [State.spiRun, State.spiStep, h, ih]; omega

/-- A frame brings its complete bytes when it is a write frame, an incomplete last byte discarded; a read frame and a frame
without a complete byte bring nothing. -/
theorem spiRun_frame {s : State} (h : s.listens .spi = true) (bytes : List Byte) (rest : List Bool) (hr : rest.length < 8) :
    s.spiRun none (spiFrame (bitsOf bytes ++ rest)) = (none, if isWriteFrame .spi bytes then [bytes] else []) := by
  have whole : bytesOf (8 * bytes.length + rest.length) (bitsOf bytes ++ rest) = bytes :=
    bytesOf_bitsOf _ bytes rest (by omega) hr
  rw [spiFrame, List.cons_append, State.spiRun]
  simp only [State.spiStep, h, if_true]
  rw [spiRun_append, spiRun_bits h]
  simp [State.spiRun, State.spiStep, h, SpiFrame.bytes, spiBytes, whole]
  cases isWriteFrame .spi bytes <;> simp

/-- A port that does not listen, in reset or strapped for I2C, has no frame in progress (R178, R190). -/
theorem spiStep_of_not_listening {s : State} (h : s.listens .spi = false) (f : Option SpiFrame) (m : SpiMark) :
    s.spiStep f m = (none, none) ∧ s.spiDrives f = none := by
  simp [State.spiStep, State.spiDrives, h]

end Sys2Proof.Machine
end

