-- ==== Sys2Proof/Tests/Slice0.lean ====
section
/-! SUPPORT. The model's own tests: the shapes WellFormed refuses, frames written out byte by byte, and single steps whose
expected values stand in the manual's worked examples and tables. -/

namespace Sys2Proof.Machine.Tests

-- the kernel evaluates one theorem at a time, so that few threads are needed
set_option Elab.async false

/-! ## Helpers -/

/-- The state a command answers. -/
def nextOf : Host.Outcome State Fault Refusal → State
  | .next s => s
  | .fault _ | .refused _ => State.reset

/-- The answer in execution. -/
def answerOf (o : Host.Outcome State Fault Refusal) : Option Answer := (nextOf o).rqp.exec

/-- The mill office heater of 1.11.1, as posted in slot 3. -/
def heater : Allotment :=
  { state := .idle, reason := none, kind := .ordinary, target := .relay 2, claim := 1200, idle := 0, priority := 8
    quota := 0, used := 0, residue := 0, tag := 101, wanted := false, locked := false, trimmed := false, starve := 0 }

/-- The immersion heater of 8.9 on unit 6, outlet 0. -/
def immersion : Allotment :=
  { heater with target := .field 6 0, claim := 900, tag := 0, wanted := true, priority := 4 }

/-- The cottage lamps of 8.9 on unit 6, outlet 1. -/
def lamps : Allotment := { immersion with target := .field 6 1, claim := 150, state := .live, reason := some .confirmed }

/-- The saw allotment of 1.11.3: claim 7500, idle claim 1800. -/
def sawRec : Allotment :=
  { heater with kind := .saw, target := .clutch, claim := 7500, idle := 1800, tag := 0, trimmed := true, wanted := true }

/-- A machine with a record in a slot. -/
def put (i : Slot) (r : Allotment) (s : State := State.reset) : State := s.setRecord i (some r)

/-- A machine with a channel's debounced level active, its pin high. -/
def withActive (c : Channel) (s : State) : State := s.setChan c { s.chan c with pin := true, level := true }

/-- A machine with a candidate on a channel, its pin high. -/
def withRising (c : Channel) (s : State) : State := s.setChan c { s.chan c with pin := true, candidate := some s.now }

/-- A machine with a candidate on a channel that is active, its pin low. -/
def withFalling (c : Channel) (s : State) : State :=
  s.setChan c { s.chan c with pin := false, level := true, candidate := some s.now }

/-- The governing case of 4.3.1: B_cap 6000. -/
def banked (s : State := State.reset) : State := s.onParams fun v => v.put .bCap 6000

/-- Regulating as 4.3.1 begins. -/
def regulating (s : State := State.reset) : State :=
  (banked s).onGov fun g => { g with st := .regulating, bAcc := 40000, fPrev := some 5004, trimTimer := some 0 }

/-- The head order of 9.10.1. -/
def order : CutOrder := { number := 7, thickness := 250, stroke := 2400, ceiling := 120 }

/-- The sequencer in a state with the order of 9.10.1 at the head, the carriage homed at count 0. -/
def sawIn (st : SawState) (s : State) : State :=
  (s.onSaw fun w => { w with st, cuts := [order] }).onInu fun u => { u with homed := true }

/-- The cottage unit of 7.5.1: two outlets, serial 5. -/
def cottage : Identity := 0x0200000537

/-- Unit 6 of 8.9, PRESENT with its plate read. -/
def unitSix : UnitEntry :=
  { identity := cottage, plate := some { maker := 1, outlets := 2, ratings := #v[120, 30, 0, 0] }, plateOwed := false
    reach := .present, failures := 0, meters := #v[some 65530, some 0, none, none], reported := some 2
    unitFault := false, mark := none, owed := none }

/-- A machine with unit 6 in the table. -/
def withUnit (e : UnitEntry) (s : State := State.reset) : State := s.onFlc fun f => { f with units := f.units.set 6 (some e) }

/-- A visit to unit 6 of class CLOSE that waits for the end of a block. -/
def visitSix (b : Block) : Visit :=
  { unit := 6, identity := cottage, cls := .closing, dropped := false, outlets := 2, block := b, begun := false
    asked := false, cut := false, before := none, after := none }

/-- A machine with a transaction in flight. -/
def withTx (t : Transaction) (s : State) : State := s.onFlc fun f => { f with tx := some t }

/-! ## WellFormed refuses what cannot arrive -/

theorem test_frame_of_no_byte_is_ill_formed :
    (Instr.writeFrameDiscarded []).wellFormed = false ∧ (Instr.requestDecodeFail []).wellFormed = false := by decide +kernel

theorem test_amend_with_an_unsent_field_is_ill_formed :
    (Instr.amend 3 0 1 0 0 0 0 0).wellFormed = false ∧ (Instr.amend 3 0 0 1 0 0 0 0).wellFormed = false ∧
    (Instr.amend 3 0 0 0 1 0 0 0).wellFormed = false ∧ (Instr.amend 3 0 0 0 0 1 0 0).wellFormed = false ∧
    (Instr.amend 3 0 0 0 0 0 1 0).wellFormed = false ∧ (Instr.amend 3 0 0 0 0 0 0 1).wellFormed = false ∧
    (Instr.amend 3 63 1 1 1 1 1 1).wellFormed = true := by decide +kernel

theorem test_reply_of_a_wrong_length_is_ill_formed :
    (Instr.readStatusReply [0]).wellFormed = false ∧ (Instr.setOutletsReply [0]).wellFormed = false ∧
    (Instr.ackDemandReply [0, 0, 0]).wellFormed = false ∧ (Instr.readPlateReply []).wellFormed = false := by decide +kernel

theorem test_seek_of_a_wrong_shape_is_ill_formed :
    (Instr.seekEnd []).wellFormed = false ∧ (Instr.seekEnd [⟨true, true⟩, ⟨false, true⟩]).wellFormed = false ∧
    (Instr.seekEnd (List.replicate 41 ⟨false, true⟩)).wellFormed = false ∧
    (Instr.seekEnd [⟨true, true⟩]).wellFormed = true := by decide +kernel

/-! ## Frames, byte by byte (Table 11-2) -/

/-- POST: 10h, length 14, kind 1, target LOCAL relay 2, claim 1200, idle 0, priority 8, quota 0, tag 101, locked 0. -/
theorem test_decode_post :
    decodeFrame [0x10, 14, 1, 2, 2, 0, 0x04, 0xB0, 0, 0, 8, 0, 0, 0, 101, 0] =
      .ok (.post 1 ⟨2, 2, 0⟩ 1200 0 8 0 101 0) := by decide +kernel

/-- AMEND: 11h, slot 3; flags 01h send claim 1500 alone, flags 09h send claim 1500 and quota 40. -/
theorem test_decode_amend :
    decodeFrame [0x11, 4, 3, 0x01, 0x05, 0xDC] = .ok (.amend 3 1 1500 0 0 0 0 0) ∧
    decodeFrame [0x11, 6, 3, 0x09, 0x05, 0xDC, 0, 40] = .ok (.amend 3 9 1500 0 0 40 0 0) := by decide +kernel

theorem test_decode_requests_of_each_family :
    decodeFrame [0x18, 1, 3] = .ok (.want 3) ∧ decodeFrame [0x23, 0] = .ok .gateHome ∧
    decodeFrame [0x28, 3, 9, 1, 3] = .ok (.inputSetup 9 1 3) ∧
    decodeFrame [0x31, 5, 2, 0, 0, 5, 55] = .ok (.adopt 0x0200000537) ∧
    decodeFrame [0x40, 6, 0, 250, 0x09, 0x60, 0, 120] = .ok (.cutAdd 250 2400 120) ∧
    decodeFrame [0x50, 3, 1, 0x13, 0xEC] = .ok (.setParam 1 5100) ∧ decodeFrame [0x55, 1, 8] = .ok (.attnAck 8) := by
  decide +kernel

theorem test_decode_refuses_in_order :
    decodeFrame [0x18] = .error .badLength ∧ decodeFrame [0x60, 9] = .error .unknownRequest ∧
    decodeFrame [0x18, 2, 3] = .error .badLength ∧ decodeFrame [0x18, 2, 3, 3] = .error .badLength ∧
    decodeFrame (0x18 :: 33 :: List.replicate 33 0) = .error .badLength := by decide +kernel

theorem test_no_word_spells_a_command : decodeTableWord 8 0x10 = none := rfl

/-! ## The port (10.2, 10.7) -/

/-- 10.7: a START in execution, a SET_PARAM discarded, the act's end. -/
theorem test_write_frame_discarded_sets_overrun :
    let s := nextOf (exec (.writeFrameDiscarded [0x50, 3, 1, 0x13, 0xEC]) (State.reset.answered .accepted []))
    s.rqp.overrun = true ∧ s.stateByte = 0x02 := by decide +kernel

theorem test_request_act_end_stores_the_result :
    let s := nextOf (exec .requestActEnd (State.reset.answered .accepted []))
    s.rqp.stored = ⟨.accepted, []⟩ ∧ s.stateByte = 0x01 := by decide +kernel

theorem test_request_decode_fail_answers :
    answerOf (exec (.requestDecodeFail [0x60, 0]) State.reset) = some ⟨.unknownRequest, []⟩ := by decide +kernel

theorem test_identify :
    answerOf (exec .identify State.reset) = some ⟨.done, [0x42, 0x4B, 0x34, 0x01, 48, 24, 8, 16, 0, 0]⟩ := by decide +kernel

theorem test_pin_reset_then_reset_end :
    let s := nextOf (exec .pinReset (put 3 heater))
    s.inReset = true ∧ s.record 3 = none ∧ (nextOf (exec (.resetEnd true false) s)).rqp.form = .i2c := by decide +kernel

theorem test_power_on_reset_gives_the_defaults :
    let s := nextOf (exec .powerOnReset (regulating))
    s.gov.duty = 1023 ∧ s.param .bCap = 0 := by decide +kernel

theorem test_restart_homes_nothing :
    let s := nextOf (exec .restart (sawIn .setting State.reset))
    s.inu.homed = false ∧ s.saw.st = .idle ∧ s.saw.cuts = [] := by decide +kernel

/-! ## Parameters and attention -/

/-- 10.7: f_set 5100 moves nothing; f_set 5700 raises f_trip to 5800. -/
theorem test_set_param_f_set :
    answerOf (exec (.setParam 1 5100) State.reset) = some ⟨.done, [1, 0x13, 0xEC]⟩ ∧
    answerOf (exec (.setParam 1 5700) State.reset) = some ⟨.clamped, [1, 0x16, 0x44, 2, 0x16, 0xA8]⟩ := by decide +kernel

theorem test_get_param_default : answerOf (exec (.getParam 32) State.reset) = some ⟨.done, [32, 0x0F, 0xA0]⟩ := by decide +kernel

theorem test_attn_mask_set_asserts_the_line :
    let s := State.reset.raise .govState
    (nextOf (exec (.attnMaskSet 0x08) s)).attention = true ∧
    (nextOf (exec (.attnMaskClear 0x08) (nextOf (exec .requestActEnd (nextOf (exec (.attnMaskSet 0x0A) s)))))).rqp.mask =
      0x02 := by decide +kernel

theorem test_attn_ack_clears_a_latched_cause :
    answerOf (exec (.attnAck 0x08) ((State.reset.raise .govState).raise .input)) = some ⟨.done, [0x40]⟩ := by decide +kernel

theorem test_attn_read : answerOf (exec .attnRead (State.reset.raise .input)) = some ⟨.done, [0x40, 0, 0]⟩ := by decide +kernel

/-! ## Allotments -/

/-- 1.11.1: the heater posted while slots 0 to 2 are occupied lands in slot 3. -/
theorem test_post_takes_the_lowest_vacant_slot :
    let s := put 0 immersion (put 1 lamps (put 2 sawRec))
    answerOf (exec (.post 1 ⟨2, 2, 0⟩ 1200 0 8 0 101 0) s) = some ⟨.done, [3]⟩ ∧
    (nextOf (exec (.post 1 ⟨2, 2, 0⟩ 1200 0 8 0 101 0) s)).record 3 = some heater := by decide +kernel

theorem test_post_of_a_taken_target_is_in_use :
    answerOf (exec (.post 1 ⟨2, 2, 0⟩ 1200 0 8 0 0 0) (put 9 heater)) = some ⟨.inUse, []⟩ := by decide +kernel

theorem test_amend_of_a_live_claim_steps_down :
    let s := put 3 { heater with state := .live, wanted := true } regulating
    (nextOf (exec (.amend 3 1 1500 0 0 0 0 0) s)).gov.bAcc = 40000 - 16 * 300 := by decide +kernel

theorem test_retire_empties_the_slot : (nextOf (exec (.retire 3) (put 3 heater))).record 3 = none := by decide +kernel

theorem test_want_makes_pending :
    (nextOf (exec (.want 3) (put 3 heater))).record 3 =
      some { heater with wanted := true, state := .pending, reason := some .demandOn } := by decide +kernel

theorem test_drop_of_a_live_relay_opens_it :
    let s := nextOf (exec (.drop 3) (put 3 { heater with state := .live, wanted := true }
      (regulating.onAlt fun a => { a with relays := a.relays.set 2 true })))
    s.alt.relays.get 2 = false ∧ s.gov.bAcc = 40000 + 16 * 1200 ∧
    (s.record 3).map Allotment.state = some .idle := by decide +kernel

theorem test_hold_and_free :
    (nextOf (exec (.hold 3) (put 3 { heater with state := .pending }))).record 3 =
      some { heater with state := .held .host } ∧
    (nextOf (exec (.free 3) (put 3 { heater with state := .held .host, wanted := true }))).record 3 =
      some { heater with state := .pending, wanted := true } := by decide +kernel

theorem test_lookup_find_and_tag_agree :
    answerOf (exec (.lookup 3) (put 3 heater)) = answerOf (exec (.find ⟨2, 2, 0⟩) (put 3 heater)) ∧
    answerOf (exec (.lookup 3) (put 3 heater)) = answerOf (exec (.findTag 101) (put 3 heater)) ∧
    answerOf (exec (.lookup 3) (put 3 heater)) = some ⟨.done, [3, 1, 0, 0, 0, 1, 2, 2, 0, 0x04, 0xB0, 0, 0, 8, 0, 0, 0, 0,
      0, 0, 0, 0, 0, 101, 0, 0]⟩ := by decide +kernel

theorem test_walk_goes_round :
    (nextOf (exec (.walkFrom 47) State.reset)).alt.walk = 47 ∧
    (nextOf (exec .walkNext ((put 3 heater).onAlt fun a => { a with walk := 47 }))).alt.walk = 4 := by decide +kernel

theorem test_next_changed_takes_the_lowest :
    let s := nextOf (exec .nextChanged ((put 3 heater).onAlt fun a =>
      { a with changed := (a.changed.set 3 true).set 9 true }))
    s.alt.changed.get 3 = false ∧ s.alt.changed.get 9 = true ∧ s.rawSet = 0x01 := by decide +kernel

/-- 6.5.1: slots 3, 20 and 24 are lifted, 8 and 2 stay. -/
theorem test_day_turn :
    let s := put 3 { heater with state := .held .quota, quota := 40, used := 40, wanted := true }
      (put 24 { immersion with state := .releasing (.held .quota), quota := 250, used := 251, wanted := false }
      (put 8 { heater with state := .held .host, target := .relay 3, used := 9, wanted := true }))
    let t := nextOf (exec .dayTurn s)
    t.rqp.exec = some ⟨.done, [2]⟩ ∧ (t.record 3).map Allotment.state = some .pending ∧
    (t.record 24).map Allotment.state = some (.releasing .idle) ∧
    (t.record 8).map Allotment.state = some (.held .host) ∧ t.alt.changed.get 8 = false := by decide +kernel

/-! ## Admission, accrual, sheds -/

/-- 2.7.1: slot 5 is passed over, slot 12 admitted, slot 17 not examined. -/
def firstFit : State :=
  (put 5 { immersion with target := .field 2 0, claim := 2500, priority := 9, state := .pending }
    (put 12 { immersion with target := .field 1 3, claim := 800, priority := 6, state := .pending }
      (put 17 { heater with target := .relay 5, claim := 400, priority := 2, state := .pending, tag := 0 }))).onAlt
    fun a => { a with headroom := 1780, gOut := 600 }

theorem test_first_fit :
    let t := firstFit.admissionPass
    t.alt.headroom = 980 ∧ t.alt.gOut = 1400 ∧ (t.record 5).map Allotment.starve = some 1 ∧
    (t.record 12).map Allotment.state = some .granted ∧ (t.record 17).map Allotment.starve = some 0 := by decide +kernel

/-- 6.2.1: the publication k+2 fills the 40th watt-hour and holds the record for its quota. -/
theorem test_local_accrual :
    let r := { heater with claim := 1500, quota := 40, used := 39, residue := 3599970000, state := .live, wanted := true }
    let t := (put 3 r regulating).accrueSlot 19960 3
    (t.record 3).map Allotment.used = some 40 ∧ (t.record 3).map Allotment.residue = some 29910000 ∧
    (t.record 3).map Allotment.state = some (.held .quota) ∧ t.gov.bAcc = 40000 + 16 * 1500 := by decide +kernel

/-! ## The governor -/

/-- 4.3.1. -/
theorem test_worked_interval :
    let g := (regulating.interval 19960).gov
    g.fMeas = 5010 ∧ g.bAcc = 41280 ∧ g.duty = 440 ∧ g.spare = 2380 ∧ g.fPrev = some 5010 := by decide +kernel

/-- 4.5.1: the interval that ends the hold. -/
theorem test_worked_hold :
    let s := (banked).onGov fun g => { g with st := .hold, bAcc := 55680, duty := 440, holdTimer := some 900000 }
    let g := (s.interval 20020).gov
    g.st = .regulating ∧ g.bAcc = 55520 ∧ g.duty = 592 ∧ g.spare = 3270 ∧ g.holdTimer = none := by decide +kernel

/-- 3.4.1: the second edge hands 19,960 µs. -/
theorem test_tach_edge_hands_the_period :
    let s := withRising .tach { regulating.onInu fun u => { u with lastStamp := some 1000000 } with now := 1019960 }
    let t := nextOf (exec (.debounceAccept .tach) s)
    t.inu.lastPeriod = 19960 ∧ t.gov.fMeas = 5010 ∧ t.inu.lossTimer = some 60000 := by decide +kernel

theorem test_tach_loss_enters_hold :
    let t := nextOf (exec .tachLossTimer (regulating.onInu fun u => { u with lastStamp := some 7, lossTimer := some 0 }))
    t.gov.st = .hold ∧ t.gov.holdTimer = some 2000000 ∧ t.inu.lastStamp = none := by decide +kernel

theorem test_hold_timer_trips :
    let t := nextOf (exec .holdTimerExpiry (banked.onGov fun g => { g with st := .hold, holdTimer := some 0 }))
    t.gov.st = .tripped ∧ t.gov.cause = .tachLost ∧ t.gov.duty = 1023 := by decide +kernel

/-- 5.4.1: 70,000 closes, 67,200 does nothing, 16,000 opens, with LOW_WATER 16,000 closes. -/
theorem test_trim_decisions :
    let s := regulating.onGov fun g => { g with gatePos := 860 }
    let at' (b : Nat) := ((nextOf (exec .trimTimerExpiry (s.onGov fun g => { g with bAcc := b }))).gov.move).map Move.dir
    at' 41280 = none ∧ at' 70000 = some .closing ∧ at' 67200 = none ∧ at' 16000 = some .opening ∧
    ((nextOf (exec .trimTimerExpiry (withActive .lowWater (s.onGov fun g => { g with bAcc := 16000 })))).gov.move).map
      Move.dir = some .closing := by decide +kernel

theorem test_start_runs_up :
    let t := nextOf (exec .start (banked.onGov fun g => { g with gateValid := true }))
    t.gov.st = .runUp ∧ t.gov.move.map Move.asked = some 40 ∧ t.rqp.exec = some ⟨.accepted, []⟩ := by decide +kernel

theorem test_stop_closes :
    let t := nextOf (exec .stop (regulating.onGov fun g => { g with gatePos := 860, gateValid := true }))
    t.gov.st = .stopping ∧ t.gov.move.map Move.asked = some 960 := by decide +kernel

theorem test_clear_trip_needs_a_shut_gate :
    let s := State.reset.onGov fun g => { g with st := .tripped, cause := .estop }
    answerOf (exec .clearTrip s) = some ⟨.wrongState, []⟩ ∧
    (nextOf (exec .clearTrip (withActive .gateShut s))).gov.st = .stopped := by decide +kernel

theorem test_gate_home_counts_the_span :
    (nextOf (exec .gateHome State.reset)).gov.move.map Move.asked = some 2100 := by decide +kernel

theorem test_gov_status_shows_the_state :
    ((answerOf (exec .govStatus regulating)).map fun a => (a.payload.length, a.payload.head?)) = some (19, some 2) := by
  decide +kernel

theorem test_gate_step_opens :
    let s := State.reset.onGov fun g =>
      { g with st := .runUp, gateValid := true, stepTimer := some 0, runupTimer := some 9
               move := some { purpose := .runUp, dir := .opening, asked := 40, issued := 39 } }
    (nextOf (exec .gateStepTimer s)).gov.gatePos = 1 ∧ (nextOf (exec .gateStepTimer s)).gov.move = none := by decide +kernel

theorem test_runup_timer_at_the_span_trips :
    let s := State.reset.onGov fun g =>
      { g with st := .runUp, gateValid := true, gatePos := 2000, runupTimer := some 0 }
    (nextOf (exec .runupTimerExpiry s)).gov.cause = .runupFail := by decide +kernel

theorem test_pwm_period_takes_the_duty :
    (nextOf (exec .ballastPwmPeriod (regulating.onGov fun g => { g with duty := 440 }))).gov.pwmDuty = 440 := by decide +kernel

/-! ## The inputs -/

theorem test_raw_change_begins_a_candidate :
    ((nextOf (exec (.inputRawChange .guard true) State.reset)).chan .guard).candidate = some 0 := by decide +kernel

theorem test_input_setup_clamps_tach :
    answerOf (exec (.inputSetup 0 0 3) State.reset) = some ⟨.clamped, [0, 0, 1]⟩ := by decide +kernel

theorem test_input_clear_of_an_active_estop_is_latched :
    answerOf (exec (.inputClear 8) (withActive .estop State.reset)) = some ⟨.latched, []⟩ ∧
    answerOf (exec (.inputClear 7) State.reset) = some ⟨.done, []⟩ := by decide +kernel

theorem test_input_read_has_19_bytes :
    ((answerOf (exec .inputRead State.reset)).map fun a => a.payload.length) = some 19 := by decide +kernel

theorem test_estop_trips_and_faults :
    let t := nextOf (exec (.debounceAccept .estop) (withRising .estop regulating))
    t.gov.cause = .estop ∧ t.saw.cause = .estop ∧ t.inu.estopLatch = true := by decide +kernel

/-- 3.6.3: a forward edge counts up, a double move clears the homed flag. -/
theorem test_encoder_counts :
    (nextOf (exec (.encoderChange true false false) State.reset)).inu.count = 1 ∧
    (nextOf (exec (.encoderChange false true false) State.reset)).inu.count = 0xFFFFFFFF ∧
    (nextOf (exec (.encoderChange true true false) (sawIn .idle State.reset))).inu.homed = false := by decide +kernel

theorem test_home_mark_ends_a_return :
    let s := (sawIn .returning (put 12 { sawRec with state := .live })).onSaw fun w =>
      { w with ret := some { kind := .stroke, stepsPerMm := 40, countsPerMm := 20, reference := 48000, issued := 96000
                             allowance := 116000 } }
    let t := nextOf (exec (.encoderChange false true true) (withActive .clutchIn s))
    t.saw.st = .releasing ∧ t.saw.cuts = [] ∧ t.inu.count = 0 ∧ t.inu.homed = true := by decide +kernel

/-! ## The field line -/

/-- 7.5.1: the register after each byte is 14, 42, 214, 55, and 0 after the check byte. -/
theorem test_worked_check :
    crc8 [2] = 14 ∧ crc8 [2, 0] = 42 ∧ crc8 [2, 0, 0] = 214 ∧ crc8 [2, 0, 0, 5] = 55 ∧ crc8 [2, 0, 0, 5, 55] = 0 := by
  decide +kernel

theorem test_adopt_takes_the_lowest_place :
    answerOf (exec (.adopt cottage) State.reset) = some ⟨.done, [0]⟩ ∧
    answerOf (exec (.adopt 0x0200000538) State.reset) = some ⟨.badField, []⟩ := by decide +kernel

theorem test_drop_unit_in_use :
    answerOf (exec (.dropUnit 6) (put 20 immersion (withUnit unitSix))) = some ⟨.inUse, []⟩ ∧
    answerOf (exec (.dropUnit 6) (withUnit unitSix)) = some ⟨.done, []⟩ := by decide +kernel

theorem test_unit_info_has_32_bytes :
    ((answerOf (exec (.unitInfo 6) (withUnit unitSix))).map fun a => a.payload.length) = some 32 := by decide +kernel

theorem test_enrol_and_take_found :
    (nextOf (exec .enrol State.reset)).flc.tx = some (.seek .enrolment) ∧
    answerOf (exec .takeFound (State.reset.onFlc fun f => { f with found := [cottage] })) =
      some ⟨.done, [2, 0, 0, 5, 55, 0, 0]⟩ := by decide +kernel

theorem test_poll_timer_begins_a_routine_visit :
    ((nextOf (exec .pollTimerExpiry (withUnit unitSix))).flc.visit.map Visit.cls) = some .routine := by decide +kernel

theorem test_sweep_timer_begins_a_seek :
    (nextOf (exec .sweepTimerExpiry State.reset)).flc.tx = some (.seek .sweep) := by decide +kernel

theorem test_no_presence_counts_a_failure :
    let t := nextOf (exec .noPresence (withTx (.visit { visitSix .readStatus with dropped := false })
      (withUnit { unitSix with failures := 2 })))
    (t.flc.units.get 6).map UnitEntry.reach = some .missing ∧ t.rqp.latched = Cause.unitReach.bit := by decide +kernel

theorem test_broadcast_end_frees_the_line : (nextOf (exec .broadcastEnd (withTx .broadcast State.reset))).flc.tx = none := by
  decide +kernel

/-- 8.9: the READ_STATUS reply drops slot 21 and asks SET_OUTLETS with outlet 0 alone. -/
theorem test_worked_visit_read_status :
    let s := withTx (.visit (visitSix .readStatus))
      (put 20 { immersion with state := .granted } (put 21 lamps (withUnit unitSix)))
    let t := nextOf (exec (.readStatusReply (withCheck [0x12, 0x01, 0xFF, 0xFA, 0, 0, 0, 0, 0, 0])) s)
    (t.record 21).map Allotment.state = some (.releasing .idle) ∧
    (t.record 20).map Allotment.state = some .granted ∧
    (t.flc.visit.map Visit.block) = some (.setOutlets 1) := by decide +kernel

/-- 8.9: the SET_OUTLETS reply makes slot 20 LIVE and completes slot 21. -/
theorem test_worked_visit_set_outlets :
    let s := withTx (.visit { visitSix (.setOutlets 1) with asked := true, cut := true, begun := true })
      (put 20 { immersion with state := .granted }
        (put 21 { lamps with state := .releasing .idle, wanted := false } (withUnit unitSix regulating)))
    let t := nextOf (exec (.setOutletsReply (withCheck [0x01])) (s.onAlt fun a => { a with gOut := 900 }))
    (t.record 20).map Allotment.state = some .live ∧ (t.record 21).map Allotment.state = some .idle ∧ t.alt.gOut = 0 ∧
    t.gov.bAcc = 40000 - 16 * 900 + 16 * 150 ∧ (t.flc.visit.map Visit.block) = some .ackDemand := by decide +kernel

theorem test_ack_demand_ends_the_visit :
    let t := nextOf (exec (.ackDemandReply (withCheck [0x01])) (withTx (.visit (visitSix .ackDemand)) (withUnit unitSix)))
    t.flc.tx = none ∧ (t.flc.units.get 6).map UnitEntry.failures = some 0 := by decide +kernel

theorem test_read_plate_stores_the_ratings :
    let t := nextOf (exec (.readPlateReply
      (withCheck [0x42, 0x4B, 1, 9, 2, 2, 0, 120, 0, 30, 0, 0, 0, 0, 16]))
      (withTx (.visit (visitSix .readPlate)) (withUnit { unitSix with plate := none, plateOwed := true })))
    ((t.flc.units.get 6).bind UnitEntry.plate).map Plate.outlets = some 2 ∧
    (t.flc.visit.map Visit.block) = some .readStatus := by decide +kernel

/-- The units A, B and C of 7.7.3. -/
def units3 : List Identity := [0x31000000BF, 0x390000000F, 0x6100000043]

/-- 7.7.3: the first seek finds A with the fork at 4, the second B with 1, the third C with none. -/
theorem test_worked_seek :
    seekOver Series.fresh units3 = .ok 0x31000000BF (some 4) ∧
    seekOver ⟨some 0x31000000BF, some 4⟩ units3 = .ok 0x390000000F (some 1) ∧
    seekOver ⟨some 0x390000000F, some 1⟩ units3 = .ok 0x6100000043 none := by decide +kernel

/-- 7.7.3: had B lost power, seek 2 finds A again with the fork at 1. -/
theorem test_worked_seek_after_a_loss :
    seekOver ⟨some 0x31000000BF, some 4⟩ [0x31000000BF, 0x6100000043] = .ok 0x31000000BF (some 1) := by decide +kernel

theorem test_seek_end_places_the_identity :
    let s := withTx (.seek .enrolment) (State.reset.onFlc fun f => { f with enrol := { f.enrol with running := true } })
    (nextOf (exec (.seekEnd (lineReadings Series.fresh 40 0 units3)) s)).flc.found = [0x31000000BF] := by decide +kernel

/-! ## The saw -/

theorem test_cut_add_clamps_the_ceiling :
    answerOf (exec (.cutAdd 250 2400 500) State.reset) = some ⟨.clamped, [0, 0, 250, 0x09, 0x60, 0x01, 0x90, 1]⟩ := by
  decide +kernel

theorem test_cut_clear_and_list :
    (nextOf (exec .cutClear (sawIn .idle State.reset))).saw.cuts = [] ∧
    answerOf (exec .cutList (sawIn .setting State.reset)) =
      some ⟨.done, [1, 7, 0, 250, 0x09, 0x60, 0, 120, 0, 0, 0, 0, 0, 0, 0, 0]⟩ := by decide +kernel

/-- 9.10.1: SAW_START makes slot 12 PENDING. -/
theorem test_saw_start_claims :
    let t := nextOf (exec .sawStart (sawIn .idle (put 12 { sawRec with wanted := false })))
    t.saw.st = .claiming ∧ (t.record 12).map Allotment.state = some .pending ∧ t.rqp.exec = some ⟨.accepted, []⟩ := by
  decide +kernel

theorem test_saw_stop_sets_the_flag : (nextOf (exec .sawStop (sawIn .feeding State.reset))).saw.stopFlag = true := by decide +kernel

theorem test_saw_abort_at_home_ends_the_work :
    (nextOf (exec .sawAbort (sawIn .spinup (put 12 sawRec)))).saw.st = .idle := by decide +kernel

theorem test_saw_reset_leaves_fault :
    (nextOf (exec .sawReset (sawIn .fault State.reset))).saw.st = .idle ∧
    answerOf (exec .sawReset (sawIn .idle State.reset)) = some ⟨.wrongState, []⟩ := by decide +kernel

theorem test_saw_status_has_22_bytes :
    ((answerOf (exec .sawStatus (sawIn .idle State.reset))).map fun a => a.payload.length) = some 22 := by decide +kernel

/-- 9.10.1: the spin-up ends in a setting of 2,500 steps. -/
theorem test_spinup_begins_the_setting :
    let s := (sawIn .spinup (put 12 { sawRec with state := .live })).onSaw fun w => { w with spinTimer := some 0 }
    (nextOf (exec .spinupTimerExpiry s)).saw.setting = some { remaining := 2500, stage := .move } := by decide +kernel

/-- 9.4: the last step starts the wait of 1,008 ms. -/
theorem test_last_setworks_step_begins_the_wait :
    let s := (sawIn .setting State.reset).onSaw fun w =>
      { w with setting := some { remaining := 1, stage := .move }, setworks := .stepping true 2000 0 }
    (nextOf (exec .setworksStep s)).saw.waitTimer = some 1008000 := by decide +kernel

theorem test_setworks_wait_expiry_faults :
    let s := (sawIn .setting State.reset).onSaw fun w =>
      { w with setting := some { remaining := 0, stage := .wait }, waitTimer := some 0 }
    (nextOf (exec .setworksWaitExpiry s)).saw.cause = .setTimeout := by decide +kernel

theorem test_settle_expiry_waits_for_feed :
    let s := (sawIn .setting (put 12 { sawRec with state := .live })).onSaw fun w =>
      { w with setting := some { remaining := 0, stage := .settle }, settleTimer := some 0 }
    (nextOf (exec .settleTimerExpiry s)).saw.st = .feedWait ∧
    (nextOf (exec .settleTimerExpiry s)).saw.cutWanted = true := by decide +kernel

/-- A stroke of 9.10.1 with some steps done, the saw LIVE and untrimmed, the encoder at a count. -/
def stroke (done : Nat) (count : BitVec 32) : State :=
  ((sawIn .feeding (put 12 { sawRec with state := .live, trimmed := false })).onSaw fun w =>
    { w with
      stroke := some { steps := 96000, stepsPerMm := 40, countsPerMm := 20, reference := 0, done }
      feedRate := 4800, feed := .stepping true 4800 0 }).onInu fun u => { u with count }

/-- 9.5.2: the rates at 5010, 4960, 4902 and 4900 cHz. -/
theorem test_worked_feed_scaling :
    ((stroke 0 0).sawPublication true 5010).saw.feedRate = 4800 ∧ ((stroke 0 0).sawPublication true 4960).saw.scale = 153 ∧
    ((stroke 0 0).sawPublication true 4960).saw.feedRate = 2840 ∧ ((stroke 0 0).sawPublication true 4902).saw.feedRate = 400 ∧
    ((stroke 0 0).sawPublication true 4900).saw.feed = .idle := by decide +kernel

/-- 9.6.1: at 30,000 steps counts from 14,800 to 15,200 pass. -/
theorem test_worked_stall_check :
    ((stroke 30000 14800).sawPublication true 5000).saw.st = .feeding ∧
    ((stroke 30000 15200).sawPublication true 5000).saw.st = .feeding ∧
    ((stroke 30000 14799).sawPublication true 5000).saw.cause = .stall := by decide +kernel

/-- 9.10.1: the stroke's end at a count of 47,950 passes, trims back and returns with an allowance of 116,000. -/
theorem test_stroke_end_returns :
    let t := nextOf (exec .feedStep (stroke 95999 47950))
    t.saw.st = .returning ∧ t.saw.feedRate = 12000 ∧ t.saw.ret.map ReturnRec.allowance = some 116000 ∧
    (t.record 12).map Allotment.trimmed = some true := by decide +kernel

theorem test_feed_step_counts : ((nextOf (exec .feedStep (stroke 40000 20000))).saw.stroke.map StrokeRec.done) = some 40001 := by
  decide +kernel

theorem test_return_step_at_the_allowance_faults :
    let s := (sawIn .returning State.reset).onSaw fun w =>
      { w with feed := .stepping false 12000 0
               ret := some { kind := .stroke, stepsPerMm := 40, countsPerMm := 20, reference := 0, issued := 115999
                             allowance := 116000 } }
    (nextOf (exec .returnStep s)).saw.cause = .noHome := by decide +kernel

theorem test_clutch_engage_timeout :
    let s := (sawIn .claiming (put 12 { sawRec with state := .granted })).onAlt fun a =>
      { a with wait := some (.engage 0), clutch := true, gOut := 1800 }
    let t := nextOf (exec .clutchEngageTimeout s)
    t.saw.cause = .clutchFail ∧ t.alt.clutch = false ∧ t.alt.gOut = 0 ∧
    (t.record 12).map Allotment.state = some (.held .refused) := by decide +kernel

theorem test_clutch_release_timeout :
    let s := (sawIn .releasing (put 12 { sawRec with state := .releasing .idle, wanted := false } regulating)).onAlt fun a =>
      { a with wait := some (.release 0) }
    let t := nextOf (exec .clutchReleaseTimeout s)
    t.saw.cause = .clutchStuck ∧ t.gov.bAcc = 40000 ∧ (t.record 12).map Allotment.state = some .idle := by decide +kernel

/-! ## The queue -/

theorem test_step_takes_the_front : step { put 3 heater with pending := [.want 3, .dayTurn] } =
    exec (.want 3) { put 3 heater with pending := [.dayTurn] } := by rfl

theorem test_idle_step_runs_a_due_timer :
    step (State.reset.answered .done []) = exec .requestActEnd (State.reset.answered .done []) := by rfl

theorem test_idle_step_lets_time_pass : (nextOf (step State.reset)).now = 1 := by decide +kernel

/-! ## The wire sides -/

/-- The part strapped for I2C at 0x2C. -/
def onI2c (s : State := State.reset) : State := { s with inReset := false, rqp := { s.rqp with form := .i2c, addrBit := false } }

/-- R180, R183: IDENTIFY written to 0x2C is taken whole, with a request in execution too; to 0x2D it is not. -/
theorem test_i2c_write_is_taken_whole :
    onI2c.busRun .free (writeTransaction 0x2C [0x57, 0]) = (.free, [[0x57, 0]]) ∧
    ((onI2c.answered .done []).busRun .free (writeTransaction 0x2C [0x57, 0])).2 = [[0x57, 0]] ∧
    (onI2c.busRun .free (writeTransaction 0x2D [0x57, 0])).2 = [] := by decide +kernel

/-- R180: the data line moving while the clock is high is a start or a stop; a rising clock is a bit. -/
theorem test_i2c_conditions :
    busMarks ⟨true, true⟩ [⟨true, false⟩, ⟨false, false⟩, ⟨false, true⟩, ⟨true, true⟩, ⟨false, true⟩, ⟨false, false⟩,
      ⟨true, false⟩, ⟨true, true⟩] = [.start, .bit true, .bit false, .stop] := by decide +kernel

/-- R180: a read's first byte is the state byte, and a byte the host does not acknowledge ends the read. -/
theorem test_i2c_read_ends_unacknowledged :
    let byte := List.replicate 9 (BusMark.bit true)
    let p := (onI2c.busRun .free (.start :: (bitsOf [0x59]).map .bit)).1
    p = .readAck ∧ onI2c.busDrives (.read 0 7) = some true ∧ (onI2c.busRun p (.bit false :: byte)).1 = .silent := by
  decide +kernel

/-- R116: 0x42 is written most significant bit first. -/
theorem test_byte_goes_out_high_bit_first :
    writeSlots [0x42] = [.write0, .write1, .write0, .write0, .write0, .write0, .write1, .write0] := by decide +kernel

/-- A unit of one outlet, closed, asking and rebooted. -/
def oneOutlet (line : LineState) : OutletUnit :=
  { identity := cottage, maker := 1, count := 1, ratings := Vector.replicate 4 0, line, closed := 1, demand := 0
    asking := true, rebooted := true, fault := false, meters := Vector.replicate 4 0, allowed := 0xF, shown := none
    again := false }

/-- R124: a switch operated after the status reply keeps asking through the ACK_DEMAND that follows (33h, flag clear). -/
theorem test_ack_demand_keeps_a_later_switch :
    let k := ((oneOutlet (.selected false)).block [0x91]).1
    ((k.block [0x33]).1.asking, ((k.operate 0 true).block [0x33]).1.asking) = (false, true) := by decide +kernel

/-- R126: a unit taking part in the broadcast opens its outlets, sends no reply and is out. -/
theorem test_broadcast_has_no_reply :
    let k := ((oneOutlet .waiting).select 0xC3 0).block broadcastBytes
    (k.1.closed, k.1.line, k.2) = (0, .out, []) ∧ broadcastBytes = [0x22, 0x00, 0xFF] := by decide +kernel

/-- R119, R120, R129: an unknown selector, an unknown function code and the end of the last seek position leave a unit
out. -/
theorem test_unit_goes_out :
    ((oneOutlet .waiting).select 0x00 0).line = .out ∧
    ((oneOutlet (.selected false)).block [0xD5]).1.line = .out ∧ ((oneOutlet (.selected false)).block [0xD5]).2 = [] ∧
    ((oneOutlet .inSeek).seekBit 38 (identityBit cottage 38)).line = .inSeek ∧
    ((oneOutlet .inSeek).seekBit 39 (identityBit cottage 39)).line = .out := by decide +kernel

/-- R118, Table 7-2: with two moments in each slot time, a unit that holds the line in the window's third slot shows presence;
no unit, or a line held low for one slot time after the pulse, ends the transaction NO_PRESENCE with no further slot. -/
theorem test_presence_is_read_from_the_line :
    let x := Transaction.seek .sweep
    let shown := resetAndPresence 2 [(oneOutlet .inSeek, ⟨4, 2⟩)] []
    (shown.1.map OutletUnit.line, shown.2, shown.2.command) = ([.waiting], .shown, none) ∧
    (x.slotsAfterReset shown.2).length = 8 ∧
    (resetAndPresence 2 [] []).2 = .absent ∧ (resetAndPresence 2 [(oneOutlet .out, ⟨4, 2⟩)] [⟨0, 2⟩]).2 = .heldLow ∧
    (Presence.absent.command, x.slotsAfterReset .heldLow) = (some .noPresence, []) ∧
    ((PhaseReached.first).pulls, (⟨.presence, some 2000⟩ : PhaseReached).pulls) = (true, false) := by decide +kernel

/-- R180, log 44: the clock of a stop after seven bits is the eighth bit. -/
theorem test_stop_clock_is_a_bit :
    (onI2c.busRun (.write [] (List.replicate 7 true)) [.bit false, .stop]).2 = [[0xFE]] := by decide +kernel

/-- R179: 57h 00h and three more bits in one frame are the write frame 57h 00h; 00h is a read frame; the state byte (READY)
goes out first, its lowest bit after seven falling edges. -/
theorem test_spi_frames :
    (State.reset.spiRun none (spiFrame (bitsOf [0x57, 0x00] ++ [true, false, true]))).2 = [[0x57, 0x00]] ∧
    (State.reset.spiRun none (spiFrame (bitsOf [0x00, 0x57]))).2 = [] ∧
    (let f := (State.reset.spiRun none (.opens :: List.replicate 7 .shift)).1
     State.reset.spiDrives f = some true ∧ f.map SpiFrame.shifted = some 7) := by decide +kernel

/-- R179: in mode 0 the rising clock edge samples and the falling one shifts, and only with the select input low. -/
theorem test_spi_marks :
    spiMarks ⟨true, false, false⟩ [⟨true, true, true⟩, ⟨true, false, true⟩, ⟨false, false, true⟩, ⟨false, true, true⟩,
      ⟨false, false, false⟩, ⟨true, false, false⟩] = [.opens, .sample true, .shift, .closes] := by decide +kernel

/-- R190: a transaction open when a reset begins is dropped, and nothing is acknowledged. -/
theorem test_reset_drops_the_transaction :
    let s := { onI2c with inReset := true }
    s.busDrives (.writeAck [0x57]) = none ∧ s.busRun (.writeAck [0x57, 0x00]) [.stop] = (.free, []) := by decide +kernel

/-- R7: an idle claim of 0 given for an ORDINARY record is refused. -/
theorem test_amend_refuses_an_idle_claim :
    answerOf (exec (.amend 3 2 0 0 0 0 0 0) (put 3 heater)) = some ⟨.badField, []⟩ := by decide +kernel

/-- R133: the series that completes keeps the identity found as its previous identity. -/
theorem test_completed_series_keeps_its_identity :
    let s := withTx (.seek .enrolment) (State.reset.onFlc fun f => { f with enrol := { f.enrol with running := true } })
    let t := nextOf (exec (.seekEnd (lineReadings Series.fresh 40 0 [cottage])) s)
    (t.flc.enrol.running, t.flc.enrol.series.previous) = (false, some cottage) := by decide +kernel

/-- R117, Table 7-2: the presence slot over, the selector's eight slots begin. -/
theorem test_phase_follows_the_table :
    (nextOf (step { onI2c with flc := { onI2c.flc with tx := some (.seek .sweep ⟨.presence, some 1⟩) } })).flc.tx =
      some (.seek .sweep ⟨.selector, some 4000⟩) := by decide +kernel

end Sys2Proof.Machine.Tests
end

