-- ==== Sys2Proof/Tests/Witnesses.lean ====
section
/-! SUPPORT. For each statement with hypotheses, a concrete state and operands that meet them together, clause by clause
and at the ends of the ranges. A hypothesis that only names a value (`x = …`, `∀ r', put r' = …`) is met by that value and
is not repeated; what follows `∃` in a hypothesis is given. -/

namespace Sys2Proof.Machine.Tests

-- the kernel evaluates one theorem at a time, so that few threads are needed
set_option Elab.async false

/-! ## Helpers -/

/-- A field record of unit 6, outlet 0, in a state. -/
def fieldIn (st : RecState) : Allotment := { immersion with state := st }

/-- A relay record in a state, wanted. -/
def relayIn (st : RecState) : Allotment := { heater with state := st, wanted := true }

/-- A saw record in a state, wanted. -/
def sawAt (st : RecState) (trimmed : Bool := true) : Allotment := { sawRec with state := st, trimmed }

/-- A machine in a governor state. -/
def govIn (st : GovState) (s : State := regulating) : State := s.onGov fun g => { g with st }

/-- A machine with a request in execution. -/
def inExecution : State := State.reset.answered .accepted []

/-- A machine held in reset. -/
def heldInReset : State := { State.reset with inReset := true }

/-- A machine with the line free or in use. -/
def withLine (tx : Option Transaction) (s : State := withUnit unitSix) : State := s.onFlc fun f => { f with tx }

/-- A machine homed at count 0 with the carriage record of a stroke's return, the saw sequencer in RETURNING. -/
def returning (kind : ReturnKind) (issued : Nat) : State :=
  (sawIn .returning (put 12 (sawAt .live))).onSaw fun w =>
    { w with feed := .stepping false 12000 0, feedRate := 12000
             ret := some { kind, stepsPerMm := 40, countsPerMm := 20, reference := 0, issued, allowance := 116000 } }

/-- The gate's move in a governor state, with a number of its steps issued. -/
def moving (st : GovState) (purpose : MovePurpose) (dir : GateDir) (issued : Nat) (gatePos : Nat) : State :=
  (govIn st).onGov fun g =>
    { g with gatePos, stepTimer := some 0, runupTimer := some 5, move := some { purpose, dir, asked := 40, issued } }

/-- A saw machine with its stage of a setting. -/
def stageOf (remaining : Nat) (stage : SetStage) (setSettle : Nat := 50) : State :=
  ((sawIn .setting (put 12 (sawAt .live))).onSaw fun w =>
    { w with setting := some { remaining, stage }, setworks := .stepping true 2000 0, waitTimer := some 5
             settleTimer := some 5 }).onParams fun v => v.put .setSettle setSettle

/-- A machine whose spin-up is about to end, with a phase remembered. -/
def spunUp (remembered : Option Phase) (setting : Option SettingRec) : State :=
  (sawIn .spinup (put 12 (sawAt .live))).onSaw fun w => { w with spinTimer := some 0, remembered, setting }

/-- A machine whose saw sequencer has aborted to FAULT. -/
def faulted (s : State := put 12 sawRec) : State := (sawIn .fault s).onSaw fun w => { w with cause := .stall }

/-- A machine homed nowhere. -/
def unhomed (s : State) : State := s.onInu fun u => { u with homed := false }

/-- A machine with a latch set. -/
def latched (s : State := State.reset) : State := s.onInu fun u => { u with estopLatch := true, guardLatch := true }

/-- What ALT makes of a READ_STATUS reply for a visit to unit 6 with a record in slot 20. -/
def afterStatus (r : Allotment) (reply : List Byte) : State :=
  ((withLine (some (.visit (visitSix .readStatus))) (put 20 r (withUnit unitSix))).onFlc fun f =>
    { f with units := f.units.set 6 (some
      { unitSix with reported := some (statusReport reply).closed, unitFault := (statusReport reply).fault }) }).altStatus
    6 2 (statusReport reply)

/-- A cut list of a length. -/
def cutsOf (n : Nat) (s : State := sawIn .idle (put 12 { sawRec with wanted := false })) : State :=
  s.onSaw fun w => { w with cuts := List.replicate n order }

/-! ## The queue, the port and resets -/

theorem witness_StepRunsTheFrontCommand :
    ({ put 3 heater with pending := [.want 3, .dayTurn] } : State).pending = .want 3 :: [.dayTurn] := rfl

theorem witness_EmptyQueueRunsTheClocks :
    inExecution.pending = [] ∧ inExecution.due = some .requestActEnd ∧ State.reset.pending = [] ∧ State.reset.due = none := by
  decide +kernel

/-- The part held in reset and running, transactions of each kind at a slot's end, and what counts a timer down. -/
theorem witness_EmptyQueueRunsTheClocks_clocks :
    heldInReset.inReset = true ∧ inExecution.inReset = false ∧
    (∀ p ∈ [(⟨.presence, some 1⟩ : PhaseReached), ⟨.selector, some 1⟩, ⟨.blocks, none⟩],
      (withLine (some (.broadcast p))).flc.tx = some (.broadcast p) ∧
      (withLine (some (.seek .sweep p))).flc.tx = some (.seek .sweep p)) ∧
    (withLine (some (.visit (visitSix .readStatus)))).flc.tx = some (.visit (visitSix .readStatus)) ∧ inExecution.flc.tx = none ∧
    (∀ n, (some n : Timer).map (· - 1) = some (n - 1)) ∧ (none : Timer).map (· - 1) = none := by
  refine ⟨?_, ?_, ?_, ?_, ?_, fun _ => rfl, rfl⟩ <;> decide +kernel

theorem witness_PortHoldsOneRequest :
    (State.reset.Ready ∧ isRequest .identify = true) ∧
    (inExecution.inReset = false ∧ inExecution.rqp.exec = some ⟨.accepted, []⟩) ∧
    (inExecution.inReset = false ∧ inExecution.rqp.exec ≠ none ∧ isRequest (.setParam 1 5100) = true ∧
      isWriteFrame inExecution.rqp.form [0x50, 3, 1, 0x13, 0xEC] = true) := by
  decide +kernel

theorem witness_RefusedFramesAnswerByTheFirstCheck :
    State.reset.Ready ∧
    (isWriteFrame State.reset.rqp.form [0x18] = true ∧ [(0x18 : Byte)].length < 2) ∧
    (isWriteFrame State.reset.rqp.form [0x60, 9] = true ∧ (0x60 : Byte) ∉ requestCodes) ∧
    (isWriteFrame State.reset.rqp.form [0x18, 2, 3] = true ∧ (0x18 : Byte) ∈ requestCodes ∧
      (2 : Byte).toNat ≠ [(3 : Byte)].length) ∧
    (isWriteFrame State.reset.rqp.form (0x18 :: 33 :: List.replicate 33 0) = true ∧ 32 < (33 : Byte).toNat) ∧
    (isWriteFrame State.reset.rqp.form [0x18, 2, 3, 3] = true ∧ decodeRequest 0x18 [3, 3] = none) := by
  decide +kernel

theorem witness_RefusalsChangeNothing :
    (State.reset.Ready ∧ isRequest (.want 3) = true ∧
      exec (.want 3) State.reset = .next (nextOf (exec (.want 3) State.reset)) ∧
      (nextOf (exec (.want 3) State.reset)).rqp.exec = some ⟨.noSuch, []⟩ ∧ ResultCode.noSuch.carriedOut = false) ∧
    (isRequest .takeFound = true ∧
      exec .takeFound State.reset = .next (nextOf (exec .takeFound State.reset)) ∧
      (nextOf (exec .takeFound State.reset)).rqp.exec = some ⟨.noSuch, [0, 0, 0, 0, 0, 0, 0]⟩) :=
  ⟨⟨by decide, rfl, rfl, by decide +kernel, rfl⟩, rfl, rfl, by decide +kernel⟩

theorem witness_FramesAndRequestsCorrespond :
    ((Instr.want 3).wellFormed = true ∧ encodeFrame (.want 3) = some [0x18, 1, 3]) ∧
    decodeFrame [0x18, 1, 3] = .ok (.want 3) := by
  decide +kernel

theorem witness_HardResetRestoresEveryBlock :
    (heldInReset.inReset = true ∧ isRequest .identify = true) ∧
    ((heldInReset.chan .estop).level = false ∧ (heldInReset.chan .estop).candidate = none) := by
  decide +kernel

theorem witness_SoftRestartKeepsAndClears :
    (withUnit unitSix).Ready ∧ (withUnit unitSix).flc.units.get 6 = some unitSix ∧ (withUnit unitSix).sawSwitched = false := by
  decide +kernel

/-- A strict slot with a candidate, a LIVE saw record, and unit 6 with a releasing, a granted and a live record. -/
theorem witness_SoftRestartKeepsAndClears_records :
    (let s := (put 3 (relayIn .pending) (put 12 (sawAt .live))).onAlt fun a => { a with strict := some 3 }
     s.Ready ∧ s.record 3 = some (relayIn .pending) ∧ (relayIn .pending).kind ≠ .saw ∧ s.alt.strict = some 3 ∧
       s.isCandidate 3 = true ∧ s.sawSlot = some 12 ∧ s.record 12 = some (sawAt .live) ∧ (sawAt .live).target = .clutch) ∧
    (State.reset.sawSlot = none ∧ State.reset.alt.strict = none) ∧
    (∀ st ∈ [RecState.releasing .idle, .granted, .live],
      let s := put 20 (fieldIn st) (withUnit unitSix)
      s.Ready ∧ s.flc.units.get 6 = some unitSix ∧ s.flc.units.get 0 = none ∧ s.record 20 = some (fieldIn st) ∧
      (fieldIn st).target = .field 6 0 ∧ (st ≠ .releasing .idle → ∀ i, ∀ r ∈ s.record i, r.isReleasing = false) ∧
      (st = .live → ∀ i, ∀ r ∈ s.record i, r.state ≠ .granted) ∧
      (∀ i j, ∀ r ∈ s.record i, ∀ r' ∈ s.record j, r.target = r'.target → i = j) ∧
      (∀ i, ∀ r ∈ s.record i, (r.kind = .saw ↔ r.target = .clutch))) := by
  decide +kernel

/-! ## Requests on allotments -/

/-- The record of a POST at both ends of its ranges: a relay with claim 10 and priority 0, the saw with claim 20000 and
priority 15; slot 0 is occupied. -/
theorem witness_PostPlacesAnIdleRecord :
    (let s := put 0 immersion
     let r : Allotment := { heater with claim := 10, priority := 0, tag := 0 }
     s.Ready ∧ kindOf 1 = some .ordinary ∧ targetOf ⟨2, 2, 0⟩ = some (.relay 2) ∧ boolOf 0 = some false ∧
       10 ≤ (10 : Half).toNat ∧ (10 : Half).toNat ≤ 20000 ∧ (0 : Byte).toNat ≤ 15 ∧ s.constraints r = true ∧
       s.slotOf (.relay 2) = none ∧ s.record 1 = none ∧ ∀ j : Slot, j < 1 → s.record j ≠ none) ∧
    (let s := put 0 immersion
     let r : Allotment := { sawRec with claim := 20000, idle := 20000, priority := 15, tag := 7, wanted := false }
     s.Ready ∧ kindOf 3 = some .saw ∧ targetOf ⟨3, 0, 0⟩ = some .clutch ∧ boolOf 0 = some false ∧
       (20000 : Half).toNat ≤ 20000 ∧ (15 : Byte).toNat ≤ 15 ∧ s.constraints r = true ∧ s.slotOf .clutch = none ∧
       (∀ j, ∀ r' ∈ s.record j, r'.tag ≠ (7 : Half).toNat) ∧ s.sawSlot = none ∧ s.record 1 = none ∧
       ∀ j : Slot, j < 1 → s.record j ≠ none) := by
  decide +kernel

/-- A machine with a record in every slot, on two outlets of each unit. -/
def fullTable : State :=
  let outlet (i : Slot) : Target := .field (Fin.ofNat 24 i.val) (if i.val < 24 then 0 else 1)
  State.reset.onAlt fun a =>
    { a with slots := Vector.ofFn fun i => some { immersion with target := outlet i, tag := i.val + 200 } }

/-- Each refusal: bytes out of range, claims and priorities one past their ends, a broken constraint; the target, the tag
and the saw's place taken; every slot occupied. -/
theorem witness_PostPlacesAnIdleRecord_refusals :
    (State.reset.Ready ∧ kindOf 4 = none ∧ targetOf ⟨4, 0, 0⟩ = none ∧ 1 < (2 : Byte).toNat) ∧
    (kindOf 1 = some .ordinary ∧ targetOf ⟨2, 2, 0⟩ = some (.relay 2) ∧ boolOf 1 = some true ∧ (9 : Half).toNat < 10 ∧
      20000 < (20001 : Half).toNat ∧ 15 < (16 : Byte).toNat ∧ State.reset.constraints { heater with idle := 1 } = false) ∧
    (let s := put 3 heater (put 12 sawRec)
     s.Ready ∧ s.constraints { heater with claim := 10, tag := 0 } = true ∧
       s.record 3 = some heater ∧ heater.target = .relay 2 ∧
       s.constraints { heater with target := .relay 7, claim := 10 } = true ∧ (101 : Half) ≠ 0 ∧
       heater.tag = (101 : Half).toNat ∧ s.constraints { sawRec with wanted := false } = true ∧
       s.record 12 = some sawRec ∧ sawRec.kind = .saw) ∧
    (fullTable.Ready ∧ fullTable.constraints { heater with claim := 10 } = true ∧
      ∀ j, ∃ r' ∈ fullTable.record j, r'.target ≠ .relay 2 ∧ r'.tag ≠ (101 : Half).toNat ∧ r'.kind ≠ .saw) := by
  decide +kernel

theorem witness_AmendBalancesAndFollowsTheQuota :
    (∀ st ∈ [RecState.granted, .live, .idle],
      let s := put 3 (relayIn st) regulating
      s.Ready ∧ slotNumber 3 = some 3 ∧ s.record 3 = some (relayIn st) ∧ (0x25 : Byte).toNat < 64 ∧
      (0x25 : Byte).getLsbD 1 = false ∧ (0x25 : Byte).getLsbD 3 = false ∧ (0x25 : Byte).getLsbD 4 = false ∧ (relayIn st).isReleasing = false ∧
      { relayIn st with claim := 1500, priority := 0, tag := 5 }.inRange = true ∧
      s.constraints { relayIn st with claim := 1500, priority := 0, tag := 5 } = true ∧
      (0x25 : Byte).getLsbD 5 = true ∧ s.tagTaken 5 (some 3) = false) ∧
    (∀ st ∈ [RecState.granted, .live],
      let s := put 12 (sawAt st) regulating
      s.Ready ∧ slotNumber 12 = some 12 ∧ s.record 12 = some (sawAt st) ∧ (0x12 : Byte).getLsbD 3 = false ∧
      (0x12 : Byte).getLsbD 4 = true ∧ (1 : Byte).toNat ≤ 1 ∧ (sawAt st).isReleasing = false ∧
      { sawAt st with idle := 900, locked := true }.inRange = true ∧
      s.constraints { sawAt st with idle := 900, locked := true } = true ∧ (sawAt st).trimmed = true ∧ (sawAt st).kind = .saw) ∧
    (let s := put 3 heater
     s.Ready ∧ s.record 3 = some heater ∧ heater.isReleasing = false ∧ (0x02 : Byte).getLsbD 1 = true ∧ heater.kind ≠ .saw) ∧
    (let r := { heater with state := .pending, wanted := true, used := 40 }
     let s := put 3 r
     s.Ready ∧ slotNumber 3 = some 3 ∧ s.record 3 = some r ∧ r.kind = .ordinary ∧ r.inRange = true ∧
       s.constraints r = true ∧ s.alt.strict = none ∧ (40 : Half).toNat ≠ r.quota ∧ 0 < (40 : Half).toNat ∧
       (40 : Half).toNat ≤ r.used) ∧
    (let r := { heater with state := .held .quota, wanted := true, used := 40, quota := 40 }
     let s := put 3 r
     s.Ready ∧ s.record 3 = some r ∧ r.inRange = true ∧ s.constraints r = true ∧ s.alt.strict = none ∧
       (41 : Half).toNat ≠ r.quota ∧ r.used < (41 : Half).toNat ∧ (0 : Half).toNat ≠ r.quota) := by
  decide +kernel

theorem witness_RetireEmptiesTheSlot :
    (∀ st ∈ [RecState.idle, .pending, .shed, .held .host, .releasing .idle],
      (put 3 (relayIn st)).Ready ∧ slotNumber 3 = some 3 ∧ (put 3 (relayIn st)).record 3 = some (relayIn st) ∧
      (relayIn st).kind ≠ .saw) ∧
    ((faulted (put 12 sawRec)).record 12 = some sawRec ∧ (faulted (put 12 sawRec)).saw.st = .fault) := by
  decide +kernel

theorem witness_HostDemandFollowsTheTable :
    ((put 12 sawRec).Ready ∧ slotNumber 12 = some 12 ∧ (put 12 sawRec).record 12 = some sawRec ∧ sawRec.kind = .saw) ∧
    ((put 47 heater).Ready ∧ slotNumber 47 = some 47 ∧ (put 47 heater).record 47 = some heater ∧ heater.kind ≠ .saw) ∧
    (∀ st ∈ [RecState.pending, .shed, .idle, .releasing .shed, .held .quota],
      (put 0 (relayIn st)).Ready ∧ slotNumber 0 = some 0 ∧ (put 0 (relayIn st)).record 0 = some (relayIn st) ∧
      (relayIn st).kind ≠ .saw ∧ (relayIn st).wanted = true) := by
  decide +kernel

theorem witness_ReleaseOpensTheSwitch :
    ((put 3 (relayIn .live) regulating).Ready ∧ slotNumber 3 = some 3 ∧
      (put 3 (relayIn .live) regulating).record 3 = some (relayIn .live) ∧ (relayIn .live).kind ≠ .saw ∧
      (relayIn .live).target = .relay 2 ∧ (relayIn .live).wanted = true) ∧
    (∀ st ∈ [RecState.granted, .live],
      (put 20 (fieldIn st) (withUnit unitSix)).Ready ∧ slotNumber 20 = some 20 ∧
      (put 20 (fieldIn st) (withUnit unitSix)).record 20 = some (fieldIn st) ∧ (fieldIn st).kind = .ordinary ∧
      (fieldIn st).target = .field 6 0 ∧ (fieldIn st).wanted = true) := by
  decide +kernel

theorem witness_HoldAndFreeMoveRecords :
    (∀ st ∈ [RecState.pending, .shed, .releasing .idle, .releasing .shed, .held .host, .releasing (.held .host), .idle,
        .releasing .vacant, .held .quota, .releasing (.held .fault), .held .refused, .held .fault],
      (put 3 (relayIn st)).Ready ∧ slotNumber 3 = some 3 ∧ (put 3 (relayIn st)).record 3 = some (relayIn st) ∧
      (put 3 (relayIn st)).saw.st ≠ .fault) ∧
    ((faulted (put 12 (sawAt (.held .fault)))).record 12 = some (sawAt (.held .fault)) ∧
      (faulted (put 12 (sawAt (.held .fault)))).saw.st = .fault) ∧
    (let s := withActive .clutchIn (stroke 40000 20000)
     let r := sawAt .live false
     s.Ready ∧ slotNumber 12 = some 12 ∧ s.record 12 = some r ∧ s.sawSlot = some 12 ∧ r.kind = .saw ∧ r.target = .clutch ∧
       r.state = .live ∧ s.active .clutchIn = true ∧ s.saw.st = .feeding ∧ s.saw.cutWanted = false ∧
       s.alt.strict = none) := by
  decide +kernel

theorem witness_StrictSlotTotalAndQuotasHold_check :
    State.reset.alt.strict = none ∧
    (let s := (put 47 (relayIn .pending)).onAlt fun a => { a with strict := some 47 }
     s.alt.strict = some 47 ∧ s.isCandidate 47 = true ∧ s.record 47 = some (relayIn .pending)) ∧
    (let s := (put 0 (relayIn .live)).onAlt fun a => { a with strict := some 0 }
     s.alt.strict = some 0 ∧ s.isCandidate 0 = false) := by
  decide +kernel

theorem witness_LookupReturnsTheRecord :
    (put 47 heater).Ready ∧ (47 : Slot).val = (47 : Byte).toNat ∧ (put 47 heater).record 47 = some heater ∧
    (0 : Slot).val = (0 : Byte).toNat ∧ (put 47 heater).record 0 = none := by
  decide +kernel

theorem witness_RecordPayloadLayout :
    let r := { heater with used := 65535, residue := 4294967295, priority := 15, starve := 255 }
    (16, 65535) ∈ [(9, r.claim), (11, r.idle), (14, r.quota), (16, r.used), (22, r.tag)] ∧ 65535 < 65536 ∧
    r.residue < 4294967296 ∧ r.priority < 256 ∧ r.starve < 256 := by
  decide +kernel

theorem witness_FindAndWalkReturnRecords :
    (let s := put 3 heater (put 0 immersion)
     s.Ready ∧ s.record 3 = some heater ∧ targetOf ⟨2, 2, 0⟩ = some heater.target ∧
       (∀ j, ∀ r' ∈ s.record j, r'.target = heater.target → j = 3) ∧ (101 : Half) ≠ 0 ∧ heater.tag = (101 : Half).toNat ∧
       (∀ j, ∀ r' ∈ s.record j, r'.tag = heater.tag → j = 3)) ∧
    (47 : Slot).val = (47 : Byte).toNat ∧
    (let s := (put 3 heater (put 0 immersion)).onAlt fun a => { a with walk := 4 }
     s.Ready ∧ s.record 0 = some immersion ∧
       ∀ j : Slot, (j.val + 48 - s.alt.walk.val) % 48 < ((0 : Slot).val + 48 - s.alt.walk.val) % 48 → s.record j = none) ∧
    ∀ i, State.reset.record i = none := by
  decide +kernel

theorem witness_NextChangedTakesTheLowest :
    (let s := (put 47 heater).onAlt fun a => { a with changed := a.changed.set 47 true }
     s.Ready ∧ s.alt.changed.get 47 = true ∧ ∀ j : Slot, j < 47 → s.alt.changed.get j = false) ∧
    (State.reset.Ready ∧ ∀ i, State.reset.alt.changed.get i = false) := by
  decide +kernel

theorem witness_DayTurnLiftsQuotaHolds :
    let s := put 3 (relayIn (.held .quota)) (put 20 (fieldIn (.releasing (.held .quota))))
    s.Ready ∧ s.record 3 = some (relayIn (.held .quota)) ∧ s.record 20 = some (fieldIn (.releasing (.held .quota))) ∧
    s.record 0 = none := by
  decide +kernel

theorem witness_ReadingRequestsChangeNothing :
    (withUnit unitSix).Ready ∧ Param.ofNumber (1 : Byte).toNat = some .fSet ∧
    Param.ofNumber (34 : Byte).toNat ≠ none ∧ (6 : UnitIx).val = (6 : Byte).toNat ∧
    (withUnit unitSix).flc.units.get 6 = some unitSix := by
  decide +kernel

/-! ## Admission, shedding and the governor -/

theorem witness_CandidatesComeByPriorityThenSlot :
    (put 3 (relayIn .pending) (put 20 (fieldIn .shed))).candidates = [3, 20] := by
  decide +kernel

/-- A claim equal to the headroom fits, one watt more does not; a starve count at the limit makes a record starved. -/
theorem witness_PublicationShedsAndAdmitsInOrder :
    (let s := (put 3 { relayIn .pending with claim := 901, priority := 15 } (put 20 (fieldIn .shed)
        (withUnit unitSix))).onAlt fun a => { a with headroom := 900 }
     s.alt.strict = none ∧ s.starved = none ∧ s.candidates = [3] ++ 20 :: [] ∧ s.record 20 = some (fieldIn .shed) ∧
       (fieldIn .shed).kind ≠ .saw ∧ (fieldIn .shed).target ≠ .clutch ∧ (fieldIn .shed).claim ≤ s.alt.headroom ∧
       (∀ j ∈ [(3 : Slot)], ∀ r' ∈ s.record j, s.alt.headroom < r'.need) ∧ (fieldIn .shed).target = .field 6 0) ∧
    (let r := { relayIn .pending with starve := State.reset.param .starveLimit }
     let s := put 3 r (put 20 { fieldIn .shed with priority := 15 })
     (s.record 3 = some r ∧ s.alt.strict = none ∧ s.candidates = [20] ++ 3 :: [] ∧ s.param .starveLimit ≤ r.starve ∧
       (∀ j ∈ [(20 : Slot)], ∀ r' ∈ s.record j, r'.starve < s.param .starveLimit) ∧ s.alt.headroom < r.need)) ∧
    (let s := (put 3 (relayIn .pending)).onAlt fun a => { a with strict := some 3 }
     s.alt.strict = some 3 ∧ s.record 3 = some (relayIn .pending) ∧ s.alt.headroom < (relayIn .pending).need) := by
  decide +kernel

/-- No candidate fits; a strict and a starved candidate whose claim is the headroom. -/
theorem witness_PublicationShedsAndAdmitsInOrder_fits :
    (let s := (put 3 { relayIn .pending with claim := 10 }).onAlt fun a => { a with headroom := 9 }
     s.alt.strict = none ∧ s.starved = none ∧ s.isCandidate 3 = true ∧
       ∀ j, ∀ r ∈ s.record j, s.isCandidate j = true → s.alt.headroom < r.need) ∧
    (let s := (put 3 (relayIn .pending)).onAlt fun a => { a with headroom := 1200, strict := some 3 }
     s.record 3 = some (relayIn .pending) ∧ (relayIn .pending).need ≤ s.alt.headroom ∧ s.alt.strict = some 3) ∧
    (let r := { relayIn .pending with starve := State.reset.param .starveLimit }
     let s := (put 3 r).onAlt fun a => { a with headroom := 1200 }
     s.record 3 = some r ∧ r.need ≤ s.alt.headroom ∧ s.alt.strict = none ∧ s.candidates = [] ++ 3 :: [] ∧
       s.param .starveLimit ≤ r.starve) := by
  decide +kernel

/-- A field record and the saw record to be served, PENDING and SHED, CLUTCH_IN active and inactive; an untrim with and
without a stroke record kept. -/
theorem witness_PublicationShedsAndAdmitsInOrder_serves :
    (∀ st ∈ [RecState.pending, .shed],
      let s := put 20 (fieldIn st) (put 12 (sawAt st))
      s.record 20 = some (fieldIn st) ∧ (fieldIn st).kind ≠ .saw ∧ (fieldIn st).target = .field 6 0 ∧
      s.record 12 = some (sawAt st) ∧ (sawAt st).kind = .saw ∧ (sawAt st).target = .clutch ∧ s.sawSlot = some 12 ∧
      s.active .clutchIn = false ∧ (withActive .clutchIn s).active .clutchIn = true ∧ s.saw.st = .idle ∧
      (sawIn .claiming s).saw.st = .claiming ∧ (sawIn .halted s).saw.st = .halted) ∧
    (∀ scale ∈ [0, 1, 256],
      let s := (sawIn .feedWait (put 12 (sawAt .live))).onSaw fun w => { w with cutWanted := true, scale }
      s.record 12 = some (sawAt .live) ∧ s.sawSlot = some 12 ∧ (sawAt .live).trimmed = true ∧ s.alt.strict = none ∧
      s.saw.st = .feedWait ∧ s.saw.cutWanted = true ∧ s.saw.feed = .idle ∧ s.active .fwdLimit = false ∧
      s.saw.cuts = order :: [] ∧ s.saw.stroke = none) ∧
    (((stroke 9 9).onSaw fun w => { w with st := .feedWait }).saw.stroke.map StrokeRec.done) = some 9 := by
  decide +kernel

/-- A LIVE relay record one watt-microsecond below the watt-hour and at it, its quota unspent, spent or absent. -/
theorem witness_PublicationShedsAndAdmitsInOrder_accrues :
    (put 3 (relayIn .pending)).record 3 = some (relayIn .pending) ∧ (relayIn .pending).state ≠ .live ∧
    (∀ residue ∈ [3575999999, 3576000000], ∀ quota ∈ [0, 5, 6],
      let r := { relayIn .live with residue, quota, used := 4 }
      let s := put 3 r
      s.record 3 = some r ∧ r.state = .live ∧ r.target = .relay 2 ∧ r.kind ≠ .saw ∧ s.alt.strict = none ∧
      (3600000000 ≤ r.residue + r.claim * 20000 ↔ residue = 3576000000) ∧
      (r.quota ≤ min 65535 (r.used + 1) ↔ quota ≠ 6)) := by
  decide +kernel

/-- The judgement one interval before its delay and at it, for a relay, a field and the saw record, trimmed or not. -/
theorem witness_PublicationShedsAndAdmitsInOrder_sheds :
    (∀ r ∈ [relayIn .live, fieldIn .live, sawAt .live false, sawAt .live],
      let s := withActive .clutchIn ((sawIn .feedWait (put 12 r)).onAlt fun a => { a with lowCount := 9 })
      s.shedChoice = some 12 ∧ s.record 12 = some r ∧ s.alt.settle = 0 ∧ s.alt.strict = none ∧
      s.param .shedDelay ≤ min 255 (s.alt.lowCount + 1) ∧ s.active .clutchIn = true ∧ s.saw.st = .feedWait ∧
      (r.kind = .saw → s.sawSlot = some 12 ∧ r.target = .clutch)) ∧
    ((sawIn .feeding (put 12 (sawAt .live false))).saw.st = .feeding ∧ (8 + 1 : Nat) < State.reset.param .shedDelay ∧
      State.reset.shedChoice = none ∧ (put 3 (relayIn .live)).shedChoice = some 3) := by
  decide +kernel

theorem witness_LocalAdmissionEndsLive :
    ∀ st ∈ [RecState.pending, .shed],
      (put 3 (relayIn st) regulating).record 3 = some (relayIn st) ∧ (relayIn st).kind ≠ .saw ∧
      (relayIn st).target = .relay 2 := by
  decide +kernel

theorem witness_ShedAllSparesOnlyCritical :
    (let s := put 3 { relayIn .live with kind := .critical } (put 9 (relayIn .idle) (put 10 (relayIn .pending)))
     s.record 3 = some { relayIn .live with kind := .critical } ∧ s.record 9 = some (relayIn .idle) ∧
       s.record 10 = some (relayIn .pending) ∧ s.alt.strict = none) ∧
    (∀ st ∈ [RecState.granted, .live],
      (put 3 (relayIn st)).record 3 = some (relayIn st) ∧ (relayIn st).kind = .ordinary ∧
      (relayIn st).target = .relay 2) ∧
    (let s := put 20 (fieldIn .live) (withUnit unitSix)
     s.record 20 = some (fieldIn .live) ∧ (fieldIn .live).target = .field 6 0 ∧ s.flc.units.get 6 = some unitSix ∧
       unitSix.reach ≠ .missing ∧ s.flc.visitTo 6 = none) ∧
    (let s := (put 10 (relayIn .pending)).onAlt fun a => { a with strict := some 10 }
     s.record 10 = some (relayIn .pending) ∧ s.alt.strict = some 10 ∧ s.isCandidate 10 = true) ∧
    ((put 12 (sawAt .live)).record 12 = some (sawAt .live) ∧ (sawAt .live).kind = .saw ∧
      (sawAt .live).target = .clutch) := by
  decide +kernel

/-- A machine with a live relay record, an engaged clutch, a granted outlet and a strict candidate, whose next command
sheds. -/
def runningMill : State :=
  { (put 3 (relayIn .live) (put 9 { relayIn .pending with target := .relay 5 } (put 12 (sawAt .live)
      (put 20 (fieldIn .granted) (withUnit unitSix regulating))))).onAlt
      fun a => { a with relays := a.relays.set 2 true, clutch := true, gOut := 900, strict := some 9 }
    with pending := [.stop] }

theorem witness_RecordsStayDistinctAndCriticalKept :
    step runningMill = .next (nextOf (step runningMill)) ∧ runningMill.TargetsOk ∧ runningMill.CriticalOk := by
  have distinct : ∀ i j, ∀ r ∈ runningMill.record i, ∀ r' ∈ runningMill.record j, r.target = r'.target → i = j := by
    decide +kernel
  have ordinary : ∀ i, ∀ r ∈ runningMill.record i, r.kind ≠ .critical := by decide +kernel
  exact ⟨rfl, fun i j r r' h h' => distinct i j r h r' h', fun i r h hc => absurd hc (ordinary i r h)⟩

theorem witness_TachEdgeGivesAnInterval :
    (let s := (withRising .tach regulating).onInu fun u => { u with lastStamp := some 5 }
     s.inReset = false ∧ (s.chan .tach).candidate = some 0 ∧ (s.chan .tach).raw = true ∧ s.inu.lastStamp = some 5) ∧
    ((withRising .tach regulating).inu.lastStamp = none ∧ ((withFalling .tach regulating).chan .tach).raw = false ∧
      ((withFalling .tach regulating).chan .tach).candidate = some 0) ∧
    (∀ st ∈ [GovState.stopped, .stopping, .tripped, .runUp, .regulating, .hold], (govIn st).gov.st = st) ∧
    (State.reset.param .fSet - 50 ≤ 100000000 / max 12500 (min 50000 20202) ∧
      100000000 / max 12500 (min 50000 20204) < State.reset.param .fSet - 50) ∧
    (let s := (govIn .runUp).onGov fun g => { g with overspeed := 2 }
     s.gov.st = .runUp ∧ s.param .fTrip ≤ 100000000 / max 12500 (min 50000 12500) ∧ s.gov.overspeed + 1 = 3) := by
  decide +kernel

/-- The entry into REGULATING with no record but an IDLE and a HELD one. -/
theorem witness_TachEdgeGivesAnInterval_enters :
    let s := govIn .runUp (put 3 heater (put 20 (fieldIn (.held .host)) regulating))
    let f := 100000000 / max 12500 (min 50000 20202)
    s.gov.st = .runUp ∧ f < s.param .fTrip ∧ s.param .fSet - 50 ≤ f ∧ s.alt.strict = none ∧
    ∀ i, ∀ r ∈ s.record i, r.state = .idle ∨ r.state = .held .host := by
  decide +kernel

theorem witness_BallastFollowsItsLaw :
    (regulating.gov.st = .regulating ∧ 1 ≠ 0) ∧ (govIn .hold).gov.st = .hold ∧
    ((govIn .stopped).gov.st ≠ .regulating ∧ (govIn .stopped).gov.st ≠ .hold) := by
  decide +kernel

theorem witness_BallastSpareGateAndCutsStayInRange :
    step runningMill = .next (nextOf (step runningMill)) ∧ runningMill.BallastOk ∧ runningMill.SpareOk ∧
    runningMill.GateOk ∧ runningMill.CutsOk := by
  refine ⟨rfl, ⟨by decide +kernel, fun h => absurd (Or.inl rfl) h⟩, fun h => absurd rfl h, ?_, ?_⟩ <;> show _ ≤ _ <;>
    decide +kernel

theorem witness_TripClosesTheGateAndSheds :
    let t := runningMill.trip .estop
    t.record 3 = some { relayIn .live with state := .shed, reason := some .tripped } ∧ (relayIn .live).kind ≠ .critical := by
  decide +kernel

theorem witness_StartClearTripAndGateHome :
    (let s := banked.onGov fun g => { g with gateValid := true }
     (s.Ready ∧ s.gov.st = .stopped ∧ s.param .bCap ≠ 0 ∧ s.gov.gateValid = true ∧ s.inu.estopLatch = false ∧
       s.active .lowWater = false ∧ s.active .gateFull = false ∧ s.saw.st ≠ .feeding) ∧
     ((latched s).Ready ∧ (latched s).gov.st = .stopped ∧ (latched s).inu.estopLatch = true) ∧
     ((withActive .lowWater s).Ready ∧ (withActive .lowWater s).inu.estopLatch = false ∧
       (withActive .lowWater s).active .lowWater = true)) ∧
    (State.reset.Ready ∧ State.reset.param .bCap = 0 ∧ State.reset.gov.gateValid = false ∧ regulating.gov.st ≠ .stopped) ∧
    (let s := withActive .gateShut (govIn .tripped)
     s.Ready ∧ s.saw.st ≠ .feeding ∧ s.gov.st = .tripped ∧ s.inu.estopLatch = false ∧ s.active .gateShut = true) ∧
    ((govIn .tripped).gov.cause ≠ .gateFault ∧ (govIn .tripped).active .gateShut = false) ∧
    (let s := (govIn .tripped).onGov fun g => { g with cause := .gateFault }
     s.Ready ∧ s.gov.st = .tripped ∧ s.gov.cause = .gateFault) ∧
    (State.reset.gov.st = .stopped ∧ State.reset.gov.move = none ∧ State.reset.active .gateShut = false) ∧
    ((withActive .gateShut State.reset).gov.move = none ∧ (withActive .gateShut State.reset).active .gateShut = true) ∧
    ((moving .stopped .shut .closing 0 9).gov.st = .stopped ∧ (moving .stopped .shut .closing 0 9).gov.move ≠ none) := by
  decide +kernel

theorem witness_StopShedsAndCloses :
    (∀ st ∈ [GovState.stopped, .stopping, .tripped, .runUp, .regulating, .hold],
      (govIn st).Ready ∧ (govIn st).gov.st = st) ∧
    (let t := nextOf (exec .stop { runningMill with pending := [] })
     t.record 3 = some { relayIn .live with state := .shed, reason := some .stopped } ∧
       (relayIn .live).kind ≠ .critical) := by
  decide +kernel

theorem witness_GovernorTimersRunOut :
    (∀ st ∈ [GovState.stopped, .regulating],
      let s := (govIn st).onInu fun u => { u with lossTimer := some 0 }
      s.inReset = false ∧ s.inu.lossTimer ≠ none ∧ s.gov.st = st ∧ s.saw.st ≠ .feeding) ∧
    (let s := (govIn .hold).onGov fun g => { g with holdTimer := some 0 }
     s.inReset = false ∧ s.gov.st = .hold ∧ s.gov.holdTimer ≠ none) ∧
    (let s := moving .runUp .runUp .opening 9 9
     s.gov.st = .runUp ∧ s.gov.runupTimer ≠ none ∧ s.gov.move ≠ none) ∧
    (∀ pos ∈ [1999, 2000],
      let s := (govIn .runUp).onGov fun g => { g with gatePos := pos, runupTimer := some 0 }
      s.gov.st = .runUp ∧ s.gov.runupTimer ≠ none ∧ s.gov.move = none ∧ s.active .gateFull = false ∧
      (s.gov.gatePos < s.param .gateSpan ↔ pos = 1999)) ∧
    ((moving .regulating .trim .closing 0 9).gov.st = .regulating ∧
      (regulating.onGov fun g => { g with trimTimer := some 0 }).gov.trimTimer ≠ none) ∧
    (∀ b ∈ [16 * 1199, 16 * 1200, 16 * 4200, 16 * 4201],
      let s := regulating.onGov fun g => { g with bAcc := b, gatePos := 1999 }
      s.inReset = false ∧ s.gov.st = .regulating ∧ s.gov.trimTimer ≠ none ∧ s.gov.move = none ∧
      s.active .lowWater = false ∧ s.active .gateShut = false ∧ s.active .gateFull = false ∧
      s.gov.gatePos < s.param .gateSpan ∧
      (s.param .bCap * s.param .trimHighPct / 100 < s.gov.bAcc / 16 ↔ b = 16 * 4201) ∧
      (s.gov.bAcc / 16 < s.param .bCap * s.param .trimLowPct / 100 ↔ b = 16 * 1199)) := by
  decide +kernel

theorem witness_GateStepFollowsTheMove :
    (∀ issued ∈ [38, 39],
      let s := moving .runUp .runUp .opening issued 1999
      s.inReset = false ∧ s.gov.stepTimer = some 0 ∧
      s.gov.move = some { purpose := .runUp, dir := .opening, asked := 40, issued } ∧ s.gov.gatePos < s.param .gateSpan ∧
      s.gov.runupTimer ≠ none ∧ (issued + 1 < 40 ↔ issued = 38)) ∧
    (∀ st ∈ [GovState.stopping, .tripped],
      let s := moving st .shut .closing 39 0
      s.inReset = false ∧ s.gov.stepTimer = some 0 ∧ s.gov.st = st ∧
      s.gov.move = some { purpose := .shut, dir := .closing, asked := 40, issued := 39 }) ∧
    (let s := moving .regulating .trim .closing 39 1
     s.gov.move = some { purpose := .trim, dir := .closing, asked := 40, issued := 39 } ∧ 0 < s.gov.gatePos) ∧
    (let s := moving .regulating .trim .closing 9 0
     s.gov.move = some { purpose := .trim, dir := .closing, asked := 40, issued := 9 } ∧ s.gov.gatePos = 0) ∧
    (let s := moving .regulating .trim .opening 9 2000
     s.gov.move = some { purpose := .trim, dir := .opening, asked := 40, issued := 9 } ∧
       s.param .gateSpan ≤ s.gov.gatePos) := by
  decide +kernel

/-- The homing move completed in STOPPED; a run-up move completed with its timer run out one step below gate_span and at
it, GATE_FULL inactive and active. -/
theorem witness_GateStepFollowsTheMove_ends :
    (let s := moving .stopped .shut .closing 39 0
     s.inReset = false ∧ s.gov.stepTimer = some 0 ∧ s.gov.st = .stopped ∧
       s.gov.move = some { purpose := .shut, dir := .closing, asked := 40, issued := 39 }) ∧
    (∀ pos ∈ [1998, 1999],
      let s := (moving .runUp .runUp .opening 39 pos).onGov fun g => { g with runupTimer := none }
      s.inReset = false ∧ s.gov.stepTimer = some 0 ∧ s.gov.st = .runUp ∧ s.gov.runupTimer = none ∧
      s.gov.move = some { purpose := .runUp, dir := .opening, asked := 40, issued := 39 } ∧
      s.gov.gatePos < s.param .gateSpan ∧ (s.param .gateSpan ≤ s.gov.gatePos + 1 ↔ pos = 1999) ∧
      s.active .gateFull = false ∧ (withActive .gateFull s).active .gateFull = true) := by
  decide +kernel

/-! ## The inputs and the field line -/

theorem witness_InputChangesAreDebounced :
    (State.reset.inReset = false ∧ heldInReset.inReset = true) ∧
    (State.reset.chan .guard).candidate = none ∧
    ((withRising .lowWater State.reset).inReset = false ∧ ((withRising .lowWater State.reset).chan .lowWater).candidate ≠ none) ∧
    (((withFalling .guard State.reset).chan .guard).candidate ≠ none ∧
      ((withFalling .guard State.reset).chan .guard).raw = false) ∧
    (let s := withRising .gateShut (moving .stopping .shut .closing 9 9)
     s.inReset = false ∧ (s.chan .gateShut).candidate ≠ none ∧ (s.chan .gateShut).raw = true ∧ s.gov.st = .stopping ∧
       s.gov.move = some { purpose := .shut, dir := .closing, asked := 40, issued := 9 } ∧ s.saw.st ≠ .feeding) := by
  decide +kernel

/-- The gate limits accepted: without a move toward them, and ending the moves of each purpose. -/
theorem witness_InputChangesAreDebounced_limits :
    (∀ purpose ∈ [MovePurpose.trim, .runUp],
      let s := withRising .gateFull (moving .runUp purpose .opening 9 9)
      s.inReset = false ∧ (s.chan .gateFull).candidate ≠ none ∧ (s.chan .gateFull).raw = true ∧ s.gov.st = .runUp ∧
      s.gov.move = some { purpose, dir := .opening, asked := 40, issued := 9 } ∧ s.gov.runupTimer ≠ none ∧
      (s.onGov fun g => { g with runupTimer := none }).gov.runupTimer = none) ∧
    (∀ st ∈ [GovState.regulating, .stopped, .tripped], ∀ purpose ∈ [MovePurpose.trim, .shut],
      let s := withRising .gateShut (moving st purpose .closing 9 9)
      (s.chan .gateShut).candidate ≠ none ∧ (s.chan .gateShut).raw = true ∧ s.gov.st = st ∧
      s.gov.move = some { purpose, dir := .closing, asked := 40, issued := 9 }) ∧
    (let s := withRising .gateFull regulating
     (s.chan .gateFull).candidate ≠ none ∧ (s.chan .gateFull).raw = true ∧ s.gov.move = none) := by
  decide +kernel

theorem witness_EmergencyStopLatches :
    ∀ c ∈ [Channel.estop, .guard],
      (∀ s ∈ [regulating, State.reset, govIn .tripped, sawIn .feeding State.reset, faulted],
        (withRising c s).inReset = false ∧ ((withRising c s).chan c).candidate ≠ none ∧
        ((withRising c s).chan c).raw = true ∧ (withRising c s).inu.estopLatch = false ∧
        (withRising c s).inu.guardLatch = false) ∧
      (((withRising c (latched)).chan c).candidate ≠ none ∧ ((withRising c (latched)).chan c).raw = true ∧
        (withRising c (latched)).inu.estopLatch = true ∧ (withRising c (latched)).inu.guardLatch = true) := by
  decide +kernel

/-- Channel 0 with a filter code that is clamped, channel 9 made active low, its candidate 49,999 us old. -/
theorem witness_InputRequests :
    (State.reset.Ready ∧ 9 < (10 : Byte).toNat ∧ 1 < (2 : Byte).toNat ∧ 3 < (4 : Byte).toNat) ∧
    ((channelNumber .tach).val = (0 : Byte).toNat ∧ (0 : Byte).toNat ≤ 1 ∧ (3 : Byte).toNat ≤ 3 ∧
      (State.reset.chan .tach).activeLow ≠ ((1 : Byte) == 1)) ∧
    (let s := { withRising .lowWater State.reset with now := 49999 }
     s.Ready ∧ (channelNumber .lowWater).val = (9 : Byte).toNat ∧ (s.chan .lowWater).filter ≠ 3 ∧
       (s.chan .lowWater).candidate = some 0 ∧ s.now < 0 + 50000) ∧
    (State.reset.active .guard = false ∧ State.reset.active .estop = false) ∧
    ((withActive .guard State.reset).Ready ∧ (withActive .guard State.reset).active .guard = true) ∧
    ((withActive .estop State.reset).Ready ∧ (withActive .estop State.reset).active .estop = true) ∧
    ((6 : Byte).toNat ≠ 7 ∧ (6 : Byte).toNat ≠ 8 ∧ (9 : Byte).toNat ≠ 8) := by
  decide +kernel

theorem witness_EncoderCountsByDirection :
    State.reset.inReset = false ∧ State.reset.inu.quadA = false ∧ State.reset.inu.quadB = false ∧
    (true, false) = (!State.reset.inu.quadB, State.reset.inu.quadA) ∧
    (false, true) = (State.reset.inu.quadB, !State.reset.inu.quadA) ∧ State.reset.saw.st ≠ .returning ∧
    (true, true) = (!State.reset.inu.quadA, !State.reset.inu.quadB) := by
  decide +kernel

theorem witness_MarksRiseAndKeepTheirTime :
    (State.reset.flc.units.get 6 = none) ∧
    (let f := (withUnit unitSix).flc
     f.units.get 6 = some unitSix ∧ f.visitTo 6 = none ∧ unitSix.reach ≠ .missing) ∧
    (let e := { unitSix with reach := .missing, mark := some ⟨.routine, 0⟩ }
     (withUnit e).flc.units.get 6 = some e ∧ (withUnit e).flc.visitTo 6 = none ∧ e.reach = .missing) ∧
    (∀ cut ∈ [false, true],
      let v := { visitSix .readStatus with cut }
      let f := (withLine (some (.visit v))).flc
      f.units.get 6 = some unitSix ∧ f.tx = some (.visit v) ∧ v.unit = 6 ∧ v.dropped = false ∧ v.cut = cut ∧
      v.before = none ∧ v.after = none) := by
  decide +kernel

/-- Unit 6 marked, with a sweep open and an enrolment series running; and the two seeks' own cases. -/
theorem witness_LineGoesToTheMostUrgentWork :
    (let f := (withLine (some .broadcast)).flc
     f.tx ≠ none) ∧
    (let f := { (withUnit unitSix).flc with allOpenOwed := true }
     f.tx = none ∧ f.allOpenOwed = true) ∧
    (∀ cls ∈ [MarkClass.closing, .demand, .routine],
      let e := { unitSix with mark := some ⟨cls, 5⟩ }
      let f := { (withUnit e).flc with
        sweep := { Sweep.closed with isOpen := cls = MarkClass.closing }
        enrol := { (withUnit e).flc.enrol with running := decide (cls ≠ MarkClass.routine) } }
      f.tx = none ∧ f.allOpenOwed = false ∧ f.units.get 6 = some e ∧ e.mark = some ⟨cls, 5⟩ ∧
      (∀ v : UnitIx, ∀ e' ∈ f.units.get v, ∀ m' ∈ e'.mark, m'.cls.rank ≤ cls.rank ∧
        (m'.cls = cls → 5 < m'.time ∨ (5 = m'.time ∧ 6 ≤ v))) ∧
      (f.sweep.isOpen = true → 2 ≤ cls.rank) ∧ (f.enrol.running = true → 1 ≤ cls.rank)) ∧
    (let f := { (withUnit { unitSix with mark := some ⟨.demand, 5⟩ }).flc with
       sweep := { Sweep.closed with isOpen := true } }
     f.tx = none ∧ f.allOpenOwed = false ∧
       (∀ v : UnitIx, ∀ e' ∈ f.units.get v, ∀ m' ∈ e'.mark, m'.cls.rank < 2) ∧ f.sweep.isOpen = true) ∧
    (let f := { (withUnit { unitSix with mark := some ⟨.routine, 5⟩ }).flc with
       enrol := { State.reset.flc.enrol with running := true } }
     f.tx = none ∧ f.allOpenOwed = false ∧
       (∀ v : UnitIx, ∀ e' ∈ f.units.get v, ∀ m' ∈ e'.mark, m'.cls.rank < 1) ∧ f.sweep.isOpen = false ∧
       f.enrol.running = true) ∧
    (let f := (withUnit unitSix).flc
     f.tx = none ∧ f.allOpenOwed = false ∧ (∀ v : UnitIx, ∀ e' ∈ f.units.get v, e'.mark = none) ∧ f.sweep.isOpen = false ∧
       f.enrol.running = false) := by
  decide +kernel

theorem witness_UnitRequests :
    (State.reset.Ready ∧ State.reset.flc.enrol.running = false ∧ State.reset.flc.found = []) ∧
    (let s := State.reset.onFlc fun f => { f with enrol := { f.enrol with running := true } }
     s.Ready ∧ s.flc.enrol.running = true) ∧
    (let s := State.reset.onFlc fun f => { f with units := f.units.set 0 (some unitSix) }
     s.Ready ∧ validIdentity 0x31000000BF = true ∧
       (∀ v : UnitIx, ∀ e ∈ s.flc.units.get v, e.identity ≠ 0x31000000BF) ∧ s.flc.units.get 1 = none ∧
       ∀ v : UnitIx, v < 1 → s.flc.units.get v ≠ none) ∧
    (let s := put 20 immersion (withUnit unitSix)
     s.Ready ∧ (6 : UnitIx).val = (6 : Byte).toNat ∧ s.flc.units.get 6 = some unitSix ∧ s.record 20 = some immersion ∧
       immersion.target = .field 6 0) ∧
    (let s := withUnit unitSix
     s.Ready ∧ (∀ i, ∀ r ∈ s.record i, ∀ o, r.target ≠ .field 6 o) ∧ s.flc.visitTo 6 = none) ∧
    (State.reset.onFlc fun f => { f with found := [cottage] }).flc.found = cottage :: [] := by
  decide +kernel

/-- A visit's end at a failure count of 1 and of 2, and of a unit that is PRESENT, UNSEEN or MISSING. -/
theorem witness_LineEventsAndVisitOutcomes :
    (let s := withLine (some .broadcast)
     s.inReset = false ∧ s.flc.pollTimer ≠ none ∧ s.flc.tx ≠ none ∧ s.flc.visitTo 6 = none ∧ s.flc.sweepTimer ≠ none ∧
       s.flc.tx = some .broadcast) ∧
    (∀ owner ∈ [SeekOwner.sweep, .enrolment], (withLine (some (.seek owner))).flc.tx = some (.seek owner)) ∧
    (let s := withLine (some (.visit (visitSix .readStatus)))
     s.inReset = false ∧ s.flc.tx = some (.visit (visitSix .readStatus)) ∧ (visitSix .readStatus).begun = false) ∧
    (∀ e ∈ [{ unitSix with failures := 1 }, { unitSix with failures := 2 }, { unitSix with reach := .unseen },
        { unitSix with reach := .missing, failures := 3 }],
      let v := visitSix .readStatus
      v.dropped = false ∧ (withUnit e).flc.units.get v.unit = some e ∧ v.before = none ∧ v.after = none) ∧
    (let v := { visitSix .readStatus with before := some ⟨.opening, 0⟩ }
     v.before = some ⟨.opening, 0⟩ ∧ v.after = none ∧ v.dropped = false ∧ unitSix.reach ≠ .missing ∧
       unitSix.failures < 2) := by
  decide +kernel

/-- The reply of 8.9 for a granted outlet, one that asks and one that does not for an idle record; a SET_OUTLETS, an
ACK_DEMAND and a plate; a check that fails in each length, and a plate of five outlets. -/
theorem witness_BlocksFollowTheirReplies :
    (let v := visitSix .readStatus
     let s := withLine (some (.visit v)) (put 20 (fieldIn .granted) (withUnit unitSix))
     let bad := [0x12, 0x01, 0xFF, 0xFA, 0, 0, 0, 0, 0, 0, 0]
     s.inReset = false ∧ s.flc.tx = some (.visit v) ∧ v.dropped = false ∧ s.flc.units.get v.unit = some unitSix ∧
       bad.length = 11 ∧ v.block = .readStatus ∧ checksGood bad = false) ∧
    (∀ n ∈ [0, 1, 2],
      let r := fieldIn (if n = 0 then .granted else .idle)
      let reply := withCheck [if n = 0 then 0x12 else 0, if n = 2 then 0 else 1, 0xFF, 0xFA, 0, 0, 0, 0, 0, 0]
      reply.length = 11 ∧ checksGood reply = true ∧ (afterStatus r reply).flc.tx.isSome = true ∧
      (((afterStatus r reply).desired 6 2 &&& outletMask 2) ≠ ((statusReport reply).closed &&& outletMask 2) ↔ n = 0) ∧
      (((statusReport reply).asking || (statusReport reply).rebooted) = true ↔ n ≠ 2)) ∧
    (let v := visitSix (.setOutlets 1)
     let s := withLine (some (.visit v))
     s.flc.tx = some (.visit v) ∧ [(0 : Byte), 0].length = 2 ∧ checksGood [1, 0] = false ∧
       (withCheck [1]).length = 2 ∧ checksGood (withCheck [1]) = true ∧
       (s.altApplied v.unit v.outlets 1 1).flc.tx = some (.visit v)) ∧
    (let v := visitSix .ackDemand
     (withLine (some (.visit v))).flc.tx = some (.visit v) ∧ v.block = .ackDemand ∧ (withCheck [1]).length = 2) ∧
    (let v := visitSix .readPlate
     let good := withCheck [0x42, 0x4B, 1, 9, 2, 4, 0, 120, 0, 30, 0, 0, 0, 0, 16]
     let other := withCheck [0x42, 0x4B, 1, 9, 2, 5, 0, 120, 0, 30, 0, 0, 0, 0, 16]
     (withLine (some (.visit v))).flc.tx = some (.visit v) ∧ v.block = .readPlate ∧ good.length = 16 ∧
       checksGood good = true ∧ byteAt good 0 = 0x42 ∧ byteAt good 1 = 0x4B ∧ byteAt good 2 = 1 ∧
       byteAt good 4 = v.identity.extractLsb' 32 8 ∧ 1 ≤ (byteAt good 5).toNat ∧ (byteAt good 5).toNat ≤ 4 ∧
       byteAt good 14 = 16 ∧ other.length = 16 ∧ 4 < (byteAt other 5).toNat) := by
  decide +kernel

theorem witness_ReportsReconcileTheRecords :
    (∀ st ∈ [RecState.granted, .live, .releasing .shed, .releasing (.held .host), .idle, .pending, .shed, .held .quota],
      let s := put 20 (fieldIn st) (withUnit unitSix regulating)
      s.slotOf (.field 6 0) = some 20 ∧ s.record 20 = some (fieldIn st) ∧ (fieldIn st).target = .field 6 0 ∧
      (fieldIn st).kind = .ordinary ∧ s.alt.strict = none ∧ s.flc.units.get 6 = some unitSix ∧
      unitSix.meters.get 0 = some 65530 ∧ (fieldIn st).quota = 0) ∧
    { fieldIn .live with locked := true }.locked = true := by
  decide +kernel

/-- A quota of 5 with 4 watt-hours used, a meter count one on, in each state; an unlocked record's demand bit, wanted and
not; RELEASING toward VACANT. -/
theorem witness_ReportsReconcileTheRecords_demand :
    (∀ st ∈ [RecState.granted, .live, .pending, .idle, .shed, .releasing .idle, .held .host], ∀ quota ∈ [5, 6],
      let r := { fieldIn st with quota, used := 4 }
      let s := put 20 r (withUnit unitSix regulating)
      s.slotOf (.field 6 0) = some 20 ∧ s.record 20 = some r ∧ r.target = .field 6 0 ∧ r.kind = .ordinary ∧
      s.alt.strict = none ∧ s.flc.units.get 6 = some unitSix ∧ unitSix.meters.get 0 = some 65530 ∧ 0 < r.quota ∧
      (r.quota ≤ min 65535 (r.used + ((65531 : Half) - 65530).toNat) ↔ quota = 5) ∧ unitSix.mark = none ∧
      unitSix.reach ≠ .missing ∧ s.flc.visitTo 6 = none ∧ r.locked = false ∧ r.wanted = true ∧
      { r with wanted := false }.wanted = false) ∧
    (let s := put 20 (fieldIn (.releasing .vacant)) (withUnit unitSix regulating)
     s.slotOf (.field 6 0) = some 20 ∧ s.record 20 = some (fieldIn (.releasing .vacant)) ∧ s.alt.strict = none) := by
  decide +kernel

theorem witness_SeekEndUpdatesItsSeries :
    (let s := withTx (.seek .enrolment) State.reset
     s.inReset = false ∧ s.flc.tx = some (.seek .enrolment) ∧
       seek s.flc.enrol.series (lineReadings Series.fresh 40 0 units3) = .ok 0x31000000BF (some 4) ∧
       (∀ u : UnitIx, ∀ e ∈ s.flc.units.get u, e.identity ≠ 0x31000000BF) ∧ (0x31000000BF : Identity) ∉ s.flc.found ∧
       s.flc.found.length < 8) ∧
    (let s := withTx (.seek .enrolment) (State.reset.onFlc fun f =>
       { f with enrol := { f.enrol with series := ⟨some 0x390000000F, some 1⟩ }
                found := [1, 2, 3, 4, 5, 6, 7, 8] })
     seek s.flc.enrol.series (lineReadings ⟨some 0x390000000F, some 1⟩ 40 0 units3) = .ok 0x6100000043 none ∧
       (0x6100000043 : Identity) ∉ s.flc.found ∧ 8 ≤ s.flc.found.length) ∧
    (let w : Sweep := { isOpen := true, series := Series.fresh, found := 30 }
     let s := withTx (.seek .sweep) (State.reset.onFlc fun f => { f with sweep := w })
     s.flc.tx = some (.seek .sweep) ∧ s.flc.sweep = w ∧
       seek w.series (lineReadings Series.fresh 40 0 units3) = .ok 0x31000000BF (some 4) ∧ w.found < 31) := by
  decide +kernel

/-- A found identity that has an entry or stands in the list; a seek that none survives and one that no valid identity
ends; the sweep's known unit, its last fork, its 32nd seek and its line error. -/
theorem witness_SeekEndUpdatesItsSeries_ends :
    (let s := withTx (.seek .enrolment) (withUnit { unitSix with identity := 0x31000000BF })
     s.flc.tx = some (.seek .enrolment) ∧
       seek s.flc.enrol.series (lineReadings Series.fresh 40 0 units3) = .ok 0x31000000BF (some 4) ∧
       ∃ e ∈ s.flc.units.get 6, e.identity = 0x31000000BF) ∧
    (let s := withTx (.seek .enrolment) (State.reset.onFlc fun f => { f with found := [0x6100000043] })
     seek s.flc.enrol.series (lineReadings Series.fresh 40 0 [0x6100000043]) = .ok 0x6100000043 none ∧
       (0x6100000043 : Identity) ∈ s.flc.found) ∧
    (let s := withTx (.seek .enrolment) State.reset
     seek s.flc.enrol.series [⟨true, true⟩] = .none ∧
       seek s.flc.enrol.series [⟨false, true⟩, ⟨true, true⟩] = .lineError) ∧
    (∀ found ∈ [30, 31],
      let w : Sweep := { isOpen := true, series := Series.fresh, found }
      let s := withTx (.seek .sweep) ((withUnit { unitSix with identity := 0x31000000BF }).onFlc fun f =>
        { f with sweep := w })
      s.flc.tx = some (.seek .sweep) ∧ s.flc.sweep = w ∧
      seek w.series (lineReadings Series.fresh 40 0 units3) = .ok 0x31000000BF (some 4) ∧
      seek w.series (lineReadings Series.fresh 40 0 [0x6100000043]) = .ok 0x6100000043 none ∧
      seek w.series [⟨false, true⟩, ⟨true, true⟩] = .lineError ∧ (31 ≤ w.found ↔ found = 31) ∧
      (∀ u : UnitIx, ∀ e ∈ s.flc.units.get u, e.identity = 0x31000000BF → u = 6) ∧
      (∀ u : UnitIx, ∀ e ∈ s.flc.units.get u, e.identity ≠ 0x6100000043)) := by
  decide +kernel

theorem witness_SeekSeriesFindsEveryIdentityInOrder :
    [0x390000000F, 0x31000000BF, 0x6100000043].Perm units3 ∧ units3 ≠ [] ∧ (∀ x ∈ units3, validIdentity x = true) ∧
    units3.Pairwise (fun a b => a.toNat < b.toNat) :=
  ⟨List.Perm.swap _ _ _, List.cons_ne_nil _ _, List.all_eq_true.mp (by decide +kernel), by simp [units3]⟩

theorem witness_IdentitiesStayDistinct :
    let s := (withUnit unitSix).onFlc fun f => { f with found := [0x31000000BF, 0x390000000F] }
    s.IdentitiesOk ∧ step { s with pending := [.takeFound] } = .next (nextOf (step { s with pending := [.takeFound] })) := by
  have one : ∀ u v : UnitIx, ∀ e ∈ (withUnit unitSix).flc.units.get u, ∀ e' ∈ (withUnit unitSix).flc.units.get v,
      e.identity = e'.identity → u = v := by decide +kernel
  have none' : ∀ u : UnitIx, ∀ e ∈ (withUnit unitSix).flc.units.get u,
      e.identity ∉ ([0x31000000BF, 0x390000000F] : List Identity) := by decide +kernel
  exact ⟨⟨fun u v e e' h h' => one u v e h e' h', by decide, by decide, fun u e h => none' u e h⟩, rfl⟩

/-! ## The saw -/

theorem witness_SawRequests :
    ((cutsOf 15).Ready ∧ 3000 < (3001 : Half).toNat ∧ (199 : Half).toNat < 200 ∧ 8000 < (8001 : Half).toNat ∧
      (3000 : Half).toNat ≤ 3000 ∧ 200 ≤ (200 : Half).toNat ∧ (8000 : Half).toNat ≤ 8000 ∧
      (cutsOf 15).saw.cuts.length < 16 ∧ 16 ≤ (cutsOf 16).saw.cuts.length ∧ (cutsOf 16).Ready ∧
      (cutsOf 15).saw.st = .idle) ∧
    ((sawIn .claiming State.reset).Ready ∧ (sawIn .claiming State.reset).saw.st ≠ .idle ∧
      (sawIn .claiming State.reset).saw.st ≠ .fault ∧ State.reset.sawSlot = none) ∧
    (∀ r ∈ [{ sawRec with wanted := false }, sawRec, sawAt (.held .host), { sawAt (.releasing .idle) with wanted := false }],
      let s := sawIn .idle (put 12 r)
      s.Ready ∧ s.sawSlot = some 12 ∧ s.record 12 = some r ∧ s.saw.cuts ≠ [] ∧ s.saw.st = .idle ∧
      s.inu.guardLatch = false ∧ s.inu.estopLatch = false ∧ r.quota = 0) ∧
    ((latched (cutsOf 1)).Ready ∧ (latched (cutsOf 1)).sawSlot = some 12 ∧ (latched (cutsOf 1)).saw.cuts ≠ [] ∧
      (latched (cutsOf 1)).saw.st = .idle ∧ (latched (cutsOf 1)).inu.estopLatch = true) ∧
    ((cutsOf 0).sawSlot = some 12 ∧ (cutsOf 0).saw.cuts = []) ∧
    ((latched faulted).Ready ∧ (latched faulted).saw.st = .fault ∧ (latched faulted).inu.guardLatch = true) ∧
    (∀ st ∈ [RecState.idle, .held .fault, .releasing .idle],
      let s := faulted (put 12 (sawAt st))
      s.Ready ∧ s.saw.st = .fault ∧ s.inu.guardLatch = false ∧ s.inu.estopLatch = false ∧ s.sawSlot = some 12 ∧
      s.record 12 = some (sawAt st)) := by
  decide +kernel

theorem witness_SawAbortReturnsHome :
    (∀ st ∈ [SawState.idle, .fault, .releasing, .spinup],
      let s := sawIn st (put 12 { sawAt .idle with wanted := false })
      s.Ready ∧ s.sawSlot = some 12 ∧ s.record 12 = some { sawAt .idle with wanted := false } ∧ s.alt.strict = none ∧
      s.saw.st = st ∧ s.inu.homed = true ∧ s.inu.count = 0) ∧
    (∀ kind ∈ [ReturnKind.abort, .stroke],
      (returning kind 0).Ready ∧ (returning kind 0).saw.st = .returning ∧
      (returning kind 0).saw.ret.map ReturnRec.kind = some kind ∧ (returning kind 0).sawSlot = some 12) ∧
    (let s := unhomed (sawIn .setting (put 12 { sawAt (.releasing .idle) with wanted := false }))
     s.Ready ∧ s.saw.st ≠ .returning ∧ ¬ (s.inu.homed = true ∧ s.inu.count = 0) ∧ s.active .revLimit = false ∧
       s.sawSlot = some 12 ∧ s.alt.strict = none) ∧
    (let s := withActive .clutchIn (sawIn .feedWait (put 12 (sawAt .live)))
     s.Ready ∧ s.record 12 = some (sawAt .live) ∧ (sawAt .live).wanted = true ∧ (sawAt .live).target = .clutch ∧
       s.active .clutchIn = true ∧ s.inu.homed = true ∧ s.inu.count = 0) := by
  decide +kernel

/-- The saw record wanted in each state, at home and away, CLUTCH_IN active and inactive, the strict slot its own or
absent. -/
theorem witness_SawAbortReturnsHome_wanted :
    (∀ st ∈ [RecState.pending, .shed, .granted, .live, .idle, .releasing .shed, .held .host],
      let s := sawIn .feedWait (put 12 (sawAt st))
      s.Ready ∧ s.sawSlot = some 12 ∧ s.record 12 = some (sawAt st) ∧ (sawAt st).kind = .saw ∧
      (sawAt st).target = .clutch ∧ (sawAt st).wanted = true ∧ s.alt.strict = none ∧ s.saw.st = .feedWait ∧
      s.active .clutchIn = false ∧ (withActive .clutchIn s).active .clutchIn = true ∧ s.inu.homed = true ∧
      s.inu.count = 0 ∧ ¬ ((unhomed s).inu.homed = true ∧ (unhomed s).inu.count = 0) ∧ s.active .revLimit = false ∧
      (withActive .revLimit s).active .revLimit = true) ∧
    (let s := (sawIn .claiming (put 12 (sawAt .pending))).onAlt fun a => { a with strict := some 12 }
     s.Ready ∧ s.alt.strict = some 12 ∧ s.isCandidate 12 = true) ∧
    ((returning .stroke 0).saw.st = .returning ∧ (returning .stroke 0).record 12 = some (sawAt .live) ∧
      (returning .stroke 0).saw.ret.map ReturnRec.kind ≠ some .abort) := by
  decide +kernel

theorem witness_SpinupAndSettingStages :
    (∀ phase ∈ [none, some Phase.feedWait, some (.returning .stroke), some .setting],
      let s := spunUp phase none
      s.inReset = false ∧ s.saw.st = .spinup ∧ s.saw.spinTimer ≠ none ∧ s.alt.strict = none ∧ s.sawSlot = some 12 ∧
      s.record 12 = some (sawAt .live) ∧ (sawAt .live).trimmed = true ∧ s.saw.remembered = phase) ∧
    ((spunUp none none).inu.homed = true ∧ (spunUp none none).inu.count = 0 ∧ (spunUp none none).saw.cuts = [order] ∧
      order.thickness ≠ 0 ∧ order.thickness * (spunUp none none).param .setStepsPerMm / 10 ≠ 0) ∧
    (let s := (spunUp none none).onSaw fun w => { w with cuts := [{ order with thickness := 0 }] }
     s.saw.remembered = none ∧ s.saw.cuts = { order with thickness := 0 } :: [] ∧ s.inu.homed = true) ∧
    (∀ phase ∈ [none, some (Phase.returning .stroke)],
      let s := unhomed (spunUp phase none)
      ¬ (s.inu.homed = true ∧ s.inu.count = 0) ∧ s.active .revLimit = false ∧ s.saw.remembered = phase) ∧
    (∀ k ∈ [⟨9, SetStage.move⟩, ⟨0, .wait⟩, (⟨0, .settle⟩ : SettingRec)],
      let s := (spunUp (some .setting) (some k)).onParams fun v => v.put .setSettle 50
      s.saw.remembered = some .setting ∧ s.saw.setting = some k ∧ (k.stage = .move → k.remaining ≠ 0) ∧
      s.active .setDone = false ∧ s.param .setSettle ≠ 0 ∧ s.saw.st = .spinup) ∧
    (∀ remaining ∈ [1, 2], ∀ s ∈ [withActive .setDone (stageOf remaining .move), stageOf remaining .move],
      s.inReset = false ∧ s.saw.st = .setting ∧ s.saw.setting = some ⟨remaining, .move⟩ ∧
      s.saw.setworks = .stepping true 2000 0 ∧ s.param .setSettle ≠ 0) ∧
    ((withActive .setDone (stageOf 1 .move)).active .setDone = true ∧ (stageOf 1 .move).active .setDone = false) ∧
    (let s := withRising .setDone (stageOf 0 .wait)
     s.saw.setting = some ⟨0, .wait⟩ ∧ s.saw.waitTimer ≠ none ∧ (s.chan .setDone).candidate ≠ none ∧
       (s.chan .setDone).raw = true ∧ s.param .setSettle ≠ 0) ∧
    (let s := stageOf 0 .settle
     s.saw.st = .setting ∧ s.saw.settleTimer ≠ none ∧ s.alt.strict = none ∧
       ∀ i, ∀ r ∈ s.record i, r.kind = .saw → r.trimmed = true) := by
  refine ⟨?_, ?_, ?_, ?_, ?_, ?_, ?_, ?_, ?_⟩ <;> decide +kernel

theorem witness_SawFaultsAndClutchWaits :
    (faulted.saw.st = .fault ∧ State.reset.saw.st ≠ .fault ∧ State.reset.sawSlot = none ∧
      State.reset.alt.strict = none) ∧
    (∀ r ∈ [sawAt .live, sawAt .live false, sawRec, sawAt .pending, sawAt .shed, sawAt (.releasing .idle), sawAt (.held .host)],
      let s := sawIn .setting (put 12 r)
      s.saw.st ≠ .fault ∧ s.sawSlot = some 12 ∧ s.record 12 = some r ∧ r.target = .clutch ∧ r.kind = .saw ∧
      r.wanted = true ∧ s.alt.strict = none ∧ s.active .clutchIn = false ∧
      (withActive .clutchIn s).active .clutchIn = true) ∧
    (∀ st ∈ [SawState.claiming, .halted],
      let s := withRising .clutchIn ((sawIn st (put 12 (sawAt .granted))).onAlt fun a => { a with wait := some (.engage 0) })
      s.inReset = false ∧ s.alt.strict = none ∧ s.sawSlot = some 12 ∧ s.record 12 = some (sawAt .granted) ∧
      s.alt.wait = some (.engage 0) ∧ (s.chan .clutchIn).candidate ≠ none ∧ (s.chan .clutchIn).raw = true ∧
      s.saw.st = st) ∧
    (∀ d ∈ [Dest.idle, .shed, .held .fault],
      let r := { sawAt (.releasing d) false with wanted := false }
      let s := withFalling .clutchIn ((sawIn .releasing (put 12 r)).onAlt fun a => { a with wait := some (.release 0) })
      s.inReset = false ∧ s.sawSlot = some 12 ∧ s.record 12 = some r ∧ s.alt.wait = some (.release 0) ∧ d ≠ .vacant ∧
      (s.chan .clutchIn).candidate ≠ none ∧ (s.chan .clutchIn).raw = false ∧ s.saw.st = .releasing ∧
      r.wanted = false) := by
  decide +kernel

/-- The scale at the four points of 9.5.2 and the two ends of the band; counts at and past the stall tolerance. -/
theorem witness_PublicationScalesTheFeed :
    (State.reset.param .feedBand ≤ State.reset.param .fSet ∧ State.reset.param .feedBand ≠ 0) ∧
    (State.reset.param .fSet ≤ 5000 ∧ 4900 ≤ State.reset.param .fSet - State.reset.param .feedBand ∧
      State.reset.param .fSet - State.reset.param .feedBand < 4901 ∧ 4999 < State.reset.param .fSet) ∧
    (∀ count ∈ [15200, 15201],
      let s := stroke 30000 (BitVec.ofNat 32 count)
      s.saw.st = .feeding ∧
      s.saw.stroke = some { steps := 96000, stepsPerMm := 40, countsPerMm := 20, reference := 0, done := 30000 } ∧
      s.saw.cuts = [order] ∧
      ((s.count - ((0 : BitVec 32).toInt + (30000 * 20 / 40 : Nat))).natAbs ≤ s.param .stallTol ↔ count = 15200)) ∧
    (∀ issued ∈ [400, 401],
      let s := returning .stroke issued
      s.saw.st = .returning ∧ s.saw.ret.map ReturnRec.issued = some issued ∧
      ((s.count - ((0 : BitVec 32).toInt - (issued * 20 / 40 : Nat))).natAbs ≤ s.param .stallTol)) ∧
    (let s := returning .stroke 402
     s.param .stallTol < (s.count - ((0 : BitVec 32).toInt - (402 * 20 / 40 : Nat))).natAbs) ∧
    (State.reset.saw.st ≠ .feeding ∧ State.reset.saw.st ≠ .returning) := by
  decide +kernel

theorem witness_CarriageStepsAndArrivesHome :
    (∀ done ∈ [95998, 95999],
      let s := stroke done 47950
      s.inReset = false ∧ s.saw.st = .feeding ∧ s.saw.feed = .stepping true 4800 0 ∧ s.sawSlot = some 12 ∧
      s.record 12 = some (sawAt .live false) ∧ s.alt.strict = none ∧ s.saw.cutWanted = false ∧
      s.saw.stroke.map StrokeRec.done = some done ∧
      (s.count - ((0 : BitVec 32).toInt + ((95999 + 1) * 20 / 40 : Nat))).natAbs ≤ s.param .stallTol ∧
      ¬ (s.inu.homed = true ∧ s.inu.count = 0) ∧ s.active .revLimit = false) ∧
    (let s := stroke 95999 47799
     s.param .stallTol < (s.count - ((0 : BitVec 32).toInt + ((95999 + 1) * 20 / 40 : Nat))).natAbs) ∧
    (let s := stroke 9 9
     (s.setRecord 12 (some (sawAt .live))).record 12 = some (sawAt .live) ∧ (sawAt .live).trimmed = true) ∧
    (∀ issued ∈ [115998, 115999],
      (returning .stroke issued).saw.st = .returning ∧ (returning .stroke issued).saw.feed = .stepping false 12000 0 ∧
      (returning .stroke issued).saw.ret.map ReturnRec.issued = some issued) ∧
    (let s := returning .stroke 9
     (false, true) = (s.inu.quadB, !s.inu.quadA) ∧ s.alt.strict = none ∧ s.saw.cuts.tail = [] ∧
       (withActive .clutchIn s).active .clutchIn = true ∧ s.sawSlot = some 12 ∧ s.record 12 = some (sawAt .live) ∧
       (sawAt .live).wanted = true ∧ (sawAt .live).target = .clutch) ∧
    (let s := (returning .homing 9).onSaw fun w => { w with cuts := [{ order with thickness := 0 }] }
     s.saw.stopFlag = false ∧ s.saw.cuts = { order with thickness := 0 } :: [] ∧
       ∀ i, ∀ r ∈ s.record i, r.kind = .saw → r.trimmed = true) ∧
    (let s := returning .homing 9
     s.saw.cuts = order :: [] ∧ order.thickness ≠ 0 ∧ order.thickness * s.param .setStepsPerMm / 10 ≠ 0) ∧
    (let s := (returning .abort 9).setRecord 12 none
     ∀ i, ∀ r ∈ s.record i, r.kind ≠ .saw) ∧
    (let s := (returning .abort 9).setRecord 12 (some (sawAt (.releasing .idle)))
     s.sawSlot = some 12 ∧ s.record 12 = some (sawAt (.releasing .idle))) := by
  decide +kernel

/-- The stroke's end at home, with one order, with a next order of thickness 0 and of 10 steps; the travel limits in and
out of the states they fault; an abort return of a record that is not releasing. -/
theorem witness_CarriageStepsAndArrivesHome_limits :
    (∀ next ∈ [[], [{ order with thickness := 0 }], [{ order with thickness := 1 }]],
      let s := (stroke 95999 0).onInu fun u => { u with homed := true }
      let s := s.onSaw fun w => { w with
        cuts := order :: next
        stroke := some { steps := 96000, stepsPerMm := 40, countsPerMm := 20, reference := -48000, done := 95999 } }
      s.inReset = false ∧ s.saw.st = .feeding ∧ s.alt.strict = none ∧ s.inu.homed = true ∧ s.inu.count = 0 ∧
      s.saw.cuts.tail = next ∧ s.saw.stopFlag = false ∧ 1 ≤ 1 * s.param .setStepsPerMm / 10 ∧
      (s.count - ((-48000 : BitVec 32).toInt + ((95999 + 1) * 20 / 40 : Nat))).natAbs ≤ s.param .stallTol) ∧
    (let s := withActive .revLimit (stroke 95999 47950)
     s.active .revLimit = true ∧ ¬ (s.inu.homed = true ∧ s.inu.count = 0) ∧ s.saw.st ≠ .fault) ∧
    (∀ c ∈ [Channel.fwdLimit, .revLimit], ∀ st ∈ [SawState.feeding, .returning],
      let s := withRising c (sawIn st (put 12 (sawAt .live false)))
      s.inReset = false ∧ (s.chan c).candidate ≠ none ∧ (s.chan c).raw = true ∧ s.saw.st = st) ∧
    ((withActive .fwdLimit (sawIn .feedWait State.reset)).active .fwdLimit = true ∧
      (sawIn .feedWait State.reset).saw.st ≠ .fault) ∧
    (let s := (returning .abort 9).setRecord 12 (some { sawAt .idle with wanted := false })
     s.sawSlot = some 12 ∧ s.record 12 = some { sawAt .idle with wanted := false }) := by
  decide +kernel

theorem runningMill_meets_SwitchesOk : runningMill.SwitchesOk := by
  have distinct : ∀ i j, ∀ r ∈ runningMill.record i, ∀ r' ∈ runningMill.record j, r.target = r'.target → i = j := by
    decide +kernel
  have kinds : ∀ i, ∀ r ∈ runningMill.record i, (r.kind = .saw ↔ r.target = .clutch) := by decide +kernel
  have relays : ∀ n, runningMill.alt.relays.get n = true ↔
      ∃ i, ∃ r ∈ runningMill.record i, r.target = .relay n ∧ (r.state = .granted ∨ r.state = .live) := by decide +kernel
  refine ⟨fun i j r r' h h' => distinct i j r h r' h', fun i r h => kinds i r h, fun n => relays n,
    ⟨⟨fun _ => ⟨12, sawAt .live, rfl, rfl, Or.inr rfl⟩, fun _ => rfl⟩, fun _ h => ?_, fun _ h => ?_⟩,
    fun _ _ h => ?_, fun h => ?_⟩
  · exact absurd (show none = some _ from h) (by simp)
  · exact absurd (show none = some _ from h) (by simp)
  · exact absurd (show Stepper.idle = _ from h) (by simp)
  · exact absurd (show SawState.idle = .feeding from h) (by decide)

theorem runningMill_meets_StrictOk : runningMill.StrictOk := by
  intro i h
  have hi : i = 9 := (Option.some.inj (show some 9 = some i from h)).symm
  subst hi
  decide +kernel

theorem witness_SwitchesFollowTheirRecords :
    step runningMill = .next (nextOf (step runningMill)) ∧ runningMill.SwitchesOk ∧ runningMill.StrictOk :=
  ⟨rfl, runningMill_meets_SwitchesOk, runningMill_meets_StrictOk⟩

theorem witness_StrictSlotTotalAndQuotasHold :
    step runningMill = .next (nextOf (step runningMill)) ∧ runningMill.SwitchesOk ∧ runningMill.StrictOk ∧
    runningMill.GrantedOk ∧ runningMill.SpentOk := by
  have unlimited : ∀ i, ∀ r ∈ runningMill.record i, r.quota = 0 := by decide +kernel
  refine ⟨rfl, runningMill_meets_SwitchesOk, runningMill_meets_StrictOk, ?_, fun i r h hq => ?_⟩
  · unfold State.GrantedOk
    decide +kernel
  · exact absurd (unlimited i r h) (by omega)

/-! ## Parameters and attention -/

theorem banked_meets_ParamsOk : (banked runningMill).ParamsOk := by
  refine ⟨fun p => ?_, ?_⟩
  · cases p <;> decide +kernel
  · exact ⟨by decide +kernel, by decide +kernel, by decide +kernel⟩

/-- Parameter numbers at both ends of their range and outside it. -/
theorem witness_SetParamClampsAndLimits :
    (banked runningMill).Ready ∧ (0 : Byte).toNat = 0 ∧ 34 < (35 : Byte).toNat ∧ (banked runningMill).ParamsOk ∧
    Param.ofNumber 1 = some .fSet ∧ Param.fSet.number = (1 : Byte).toNat ∧ (Param.ofNumber 34).map Param.number = some 34 ∧
    (banked runningMill).gov.gatePos ≤ 2000 :=
  ⟨by decide +kernel, by decide, by decide, banked_meets_ParamsOk, by decide, by decide, by decide, by decide +kernel⟩

/-- The first and the last row of the parameter table. -/
theorem witness_SetParamClampsAndLimits_table :
    (1, Param.fSet, 4500, 6000, 5000) ∈ [(1, Param.fSet, 4500, 6000, 5000), (34, .stallTol, 4, 4000, 200)] ∧
    (34, Param.stallTol, 4, 4000, 200) ∈ [(1, Param.fSet, 4500, 6000, 5000), (34, .stallTol, 4, 4000, 200)] := by
  decide +kernel

theorem witness_ParametersStayInRange :
    (banked runningMill).ParamsOk ∧ step (banked runningMill) = .next (nextOf (step (banked runningMill))) :=
  ⟨banked_meets_ParamsOk, rfl⟩

theorem witness_AttentionFollowsTheMaskedSet :
    State.reset.Ready ∧ (0x80 : Byte).getLsbD 7 = true ∧ (0x7F : Byte).getLsbD 7 = false ∧
    ((put 3 heater).onAlt fun a => { a with changed := a.changed.set 3 true }).alt.changed.get 3 = true ∧
    (State.reset.onFlc fun f => { f with found := [cottage] }).flc.found ≠ [] := by
  decide +kernel

end Sys2Proof.Machine.Tests
end

section
/-! SUPPORT. Requests that only read or take from the table: what their acts answer at a ready port, and the lowest slot
that passes a search (R5, R10, R29). -/

namespace Sys2Proof.Machine

/-! ## Answers at a ready port -/

/-- A request carried out at a ready port: its act, run with OVERRUN clear, leads to `t` with OVERRUN clear and answers
DONE (R181). -/
theorem request_done {s t : State} (h : s.Ready) {act : Act} {p : List Byte}
    (e : act (s.onRqp fun q => { q with overrun := false }) = done (t.onRqp fun q => { q with overrun := false }) p) :
    s.request act = .next (t.answered .done p) := by
  rw [request_of_ready h, e]
  rfl

/-- A request that its act refuses at a ready port, where `request_refused` asks the refusal of every state (R182). -/
theorem request_refused_here {s : State} (h : s.Ready) {act : Act} {c : ResultCode}
    (e : act (s.onRqp fun q => { q with overrun := false }) = refuse (s.onRqp fun q => { q with overrun := false }) c) :
    s.request act = .next (s.answered c []) := by
  rw [request_of_ready h, e]
  rfl

/-! ## Slots -/

/-- A byte that holds a slot's number names the slot (R5). -/
theorem slotNumber_of_val {slot : Byte} {i : Slot} (h : i.val = slot.toNat) : slotNumber slot = some i := by
  have hlt : slot.toNat < Config.slots := h ▸ i.isLt
  exact (dif_pos hlt).trans (congrArg some (Fin.ext h.symm))

/-- A slot search answers the lowest slot that passes. -/
theorem slotSearch_eq_some_iff {p : Slot → Bool} {i : Slot} :
    allSlots.find? p = some i ↔ p i = true ∧ ∀ j, j < i → p j = false := by
  rw [allSlots, ← Fin.find?_eq_find?_finRange, Fin.find?_eq_some_iff]

/-- A slot search answers nothing exactly when no slot passes. -/
theorem slotSearch_eq_none_iff {p : Slot → Bool} : allSlots.find? p = none ↔ ∀ i, p i = false := by
  rw [allSlots, ← Fin.find?_eq_find?_finRange, Fin.find?_eq_none_iff]

/-- A request on a slot that holds a record is the act on that record (R5). -/
theorem onRecord_of_record {s : State} {slot : Byte} {i : Slot} {r : Allotment} (hi : i.val = slot.toNat)
    (hr : s.record i = some r) (act : State → Slot → Allotment → State × Answer) : onRecord slot act s = act s i r := by
  simp only [onRecord, slotNumber_of_val hi, hr]

/-- A request on a VACANT slot is NO_SUCH (R5). -/
theorem onRecord_of_vacant {s : State} {slot : Byte} {i : Slot} (hi : i.val = slot.toNat) (hr : s.record i = none)
    (act : State → Slot → Allotment → State × Answer) : onRecord slot act s = refuse s .noSuch := by
  simp only [onRecord, slotNumber_of_val hi, hr]

/-! ## LOOKUP (R10) -/

/-- LOOKUP of a slot that holds a record, at a ready port. -/
theorem exec_lookup_of_record {s : State} {slot : Byte} {i : Slot} {r : Allotment} (hready : s.Ready)
    (hi : i.val = slot.toNat) (hr : s.record i = some r) :
    exec (.lookup slot) s = .next (s.answered .done (recordBytes i (some r))) := by
  refine request_done hready ?_
  rw [onRecord_of_record hi ((record_onRqp ..).trans hr)]

/-- LOOKUP of a VACANT slot, at a ready port. -/
theorem exec_lookup_of_vacant {s : State} {slot : Byte} {i : Slot} (hready : s.Ready) (hi : i.val = slot.toNat)
    (hr : s.record i = none) : exec (.lookup slot) s = .next (s.answered .noSuch []) := by
  refine request_refused_here hready ?_
  rw [onRecord_of_vacant hi ((record_onRqp ..).trans hr)]

/-- Settles O16: by whether the slot holds a record. -/
theorem lookupReturnsTheRecord : Obligations.LookupReturnsTheRecord := by
  intro s slot i hready hi
  exact ⟨fun r hr => exec_lookup_of_record hready hi hr, fun hr => exec_lookup_of_vacant hready hi hr⟩

/-! ## The change set (R28, R29) -/

/-- The first slot of the change set is its lowest. -/
theorem firstChanged_eq_some_iff {s : State} {i : Slot} :
    s.firstChanged = some i ↔ s.alt.changed.get i = true ∧ ∀ j, j < i → s.alt.changed.get j = false :=
  slotSearch_eq_some_iff

/-- The change set has no first slot exactly when it is empty. -/
theorem firstChanged_eq_none_iff {s : State} : s.firstChanged = none ↔ ∀ i, s.alt.changed.get i = false :=
  slotSearch_eq_none_iff

/-- The change set is non-empty exactly when some slot stands in it. -/
theorem anyChanged_iff {s : State} : s.anyChanged = true ↔ ∃ i, s.alt.changed.get i = true := by
  simp [State.anyChanged, allSlots]

/-- Bit 0 of the raw set, CHANGED, is no latched cause: it follows the change set (R187). -/
theorem rawSet_changed (s : State) : s.rawSet.getLsbD 0 = s.anyChanged := by
  have hlatched : latchedCauses.getLsbD 0 = false := by decide
  have hfound : (if s.flc.found.isEmpty then (0 : CauseSet) else Cause.found.bit).getLsbD 0 = false := by
    split <;> decide
  have hchanged : (if s.anyChanged then Cause.changed.bit else (0 : CauseSet)).getLsbD 0 = s.anyChanged := by
    cases s.anyChanged <;> decide
  rw [State.rawSet, State.levelCauses, BitVec.getLsbD_or, BitVec.getLsbD_and, BitVec.getLsbD_or, hlatched, hfound, hchanged,
    Bool.and_false, Bool.false_or, Bool.or_false]

/-- The change set is ALT's: an update of RQP leaves its lowest slot. -/
@[simp] theorem firstChanged_onRqp (s : State) (f : Rqp → Rqp) : (s.onRqp f).firstChanged = s.firstChanged := rfl

/-- A slot leaves the change set whatever RQP holds. -/
@[simp] theorem forgetChange_onRqp (s : State) (f : Rqp → Rqp) (i : Slot) :
    (s.onRqp f).forgetChange i = (s.forgetChange i).onRqp f := rfl

/-- NEXT_CHANGED at a ready port, `i` the lowest slot of the change set (R29). -/
theorem exec_nextChanged_of_some {s : State} {i : Slot} (hready : s.Ready) (hi : s.firstChanged = some i) :
    exec .nextChanged s = .next ((s.forgetChange i).answered .done (recordBytes i (s.record i))) := by
  refine request_done hready ?_
  simp only [firstChanged_onRqp, hi, forgetChange_onRqp, record_onRqp]

/-- NEXT_CHANGED at a ready port with the change set empty (R29). -/
theorem exec_nextChanged_of_none {s : State} (hready : s.Ready) (hi : s.firstChanged = none) :
    exec .nextChanged s = .next (s.answered .noSuch []) := by
  refine request_refused_here hready ?_
  simp only [firstChanged_onRqp, hi]

/-- Settles O19: the lowest slot of the change set by the slot search, and the cause by the bits of the raw set. -/
theorem nextChangedTakesTheLowest : Obligations.NextChangedTakesTheLowest := by
  intro s
  refine ⟨fun i hready hi hlow => ?_, fun hready hnone => ?_, ?_⟩
  · refine (exec_nextChanged_of_some hready (firstChanged_eq_some_iff.mpr ⟨hi, hlow⟩)).trans ?_
    cases s.record i <;> rfl
  · exact exec_nextChanged_of_none hready (firstChanged_eq_none_iff.mpr hnone)
  · rw [rawSet_changed]
    exact anyChanged_iff

end Sys2Proof.Machine
end

section
/-! SUPPORT. The admission of a record on a relay (R21, R44). -/

namespace Sys2Proof.Machine

/-- A record that is not the saw's counts for its whole claim. -/
theorem Allotment.share_of_ne_saw {r : Allotment} (h : r.kind ≠ .saw) : r.share = r.claim := if_neg h

/-- A record not yet LIVE needs its share of the headroom (Table 2-3). -/
theorem Allotment.need_of_ne_live {r : Allotment} (h : r.state ≠ .live) : r.need = r.share := if_neg h

/-- A record not yet LIVE is served by its admission (R44). -/
theorem serve_of_ne_live (s : State) (i : Slot) {r : Allotment} (h : r.state ≠ .live) : s.serve i r = s.grant i r :=
  if_neg h

/-- A relay ordered closed confirms at once (R21). -/
theorem orderClosed_relay (s : State) (i : Slot) {r : Allotment} {n : Fin Config.relays} (h : r.target = .relay n) :
    s.orderClosed i r =
      (((s.onAlt fun a => { a with relays := a.relays.set n true }).setRecord i
        (some { r with state := .live, reason := some .confirmed })).subGranted r.share).ballastStep .down r.claim := by
  simp only [State.orderClosed, h]

/-- The admission of a record on a relay: it passes through GRANTED within the act, so that its slot is written twice and
G_out raised and lowered by the same share (R21). -/
theorem grant_relay (s : State) (i : Slot) {r : Allotment} {n : Fin Config.relays} (h : r.target = .relay n) :
    s.grant i r = { s with
      alt := { s.alt with
        slots := s.alt.slots.set i (some { r with state := .live, reason := some .confirmed, starve := 0 })
        changed := s.alt.changed.set i true
        relays := s.alt.relays.set n true
        headroom := s.alt.headroom - r.need
        strict := if s.alt.strict = some i then none else s.alt.strict }
      gov := s.gov.ballastStep s.params .down r.claim } := by
  unfold State.grant
  refine (orderClosed_relay (n := n) _ i ?_).trans ?_
  · exact h
  · simp only [State.setRecord, State.noteChange, State.addGranted, State.spendHeadroom, State.subGranted,
      State.ballastStep, State.onAlt, State.onGov, Allotment.share, if_true, Nat.add_sub_cancel, Vector.set_set]

/-- Settles O25: the admission of a record on a relay, where the need and the share are the claim. -/
theorem localAdmissionEndsLive : Obligations.LocalAdmissionEndsLive := by
  intro s i r n _ hstate hkind htarget
  have hlive : r.state ≠ .live := by
    rcases hstate with h | h <;> rw [h] <;> decide
  have hneed : r.need = r.claim := (Allotment.need_of_ne_live hlive).trans (Allotment.share_of_ne_saw hkind)
  rw [serve_of_ne_live s i hlive, grant_relay s i htarget, hneed]

end Sys2Proof.Machine
end

section
/-! SUPPORT. The two orders of shedding and admission: the shed judgement's choice is the least of the sheddable records
(R35), and the candidates are sorted by rank, the lower slot first among equals (R42). -/

namespace Sys2Proof.Machine

/-- The list of all slots ascends. -/
theorem allSlots_ascending : allSlots.Pairwise (· < ·) := List.pairwise_lt_finRange _

/-- The list of all slots holds each. -/
@[simp] theorem mem_allSlots (i : Slot) : i ∈ allSlots := List.mem_finRange i

/-! ## The shed judgement's choice (R35) -/

/-- R35 in words: the sheddable records are the LIVE ones of kind ORDINARY or SAW. -/
theorem Allotment.sheddable_iff {r : Allotment} :
    r.sheddable = true ↔ r.state = .live ∧ (r.kind = .ordinary ∨ r.kind = .saw) := by
  cases hk : r.kind <;> simp [Allotment.sheddable, hk]

/-- The record in slot `i` is sheddable, and of the sheddable records in the slots `l` each has a higher priority, or the
same and a slot not above `i`. -/
def State.ShedFirst (s : State) (l : List Slot) (i : Slot) (r : Allotment) : Prop :=
  s.record i = some r ∧ r.sheddable = true ∧ ∀ j ∈ l, ∀ r', s.record j = some r' → r'.sheddable = true →
    r.priority < r'.priority ∨ (r.priority = r'.priority ∧ j ≤ i)

/-- What the search for the record to shed holds after the slots `l`: nothing when none of them is sheddable, else the slot
and the priority of the first to shed. -/
def State.ShedBest (s : State) (l : List Slot) : Option (Slot × Nat) → Prop
  | none => ∀ j ∈ l, ∀ r, s.record j = some r → r.sheddable = false
  | some (i, p) => ∃ r, s.ShedFirst l i r ∧ r.priority = p

/-- One slot of the search: a sheddable record of a priority not above the best one's takes its place. -/
def State.shedStep (s : State) (best : Option (Slot × Nat)) (i : Slot) : Option (Slot × Nat) :=
  match s.record i with
  | none => best
  | some r =>
    if r.sheddable then
      match best with
      | none => some (i, r.priority)
      | some (_, p) => if r.priority ≤ p then some (i, r.priority) else best
    else best

/-- The model's search is the fold of this step. -/
theorem shedChoice_eq_foldl (s : State) : s.shedChoice = (allSlots.foldl s.shedStep none).map Prod.fst := rfl

/-- A slot with no sheddable record leaves the best. -/
theorem shedStep_of_not_sheddable {s : State} {k : Slot} (h : ∀ r, s.record k = some r → r.sheddable = false)
    (best : Option (Slot × Nat)) : s.shedStep best k = best := by
  unfold State.shedStep
  split
  · rfl
  · next r hr => rw [h r hr, if_neg Bool.false_ne_true]

/-- A slot with a sheddable record takes the place of a best whose priority is not below its own. -/
theorem shedStep_of_sheddable {s : State} {k : Slot} {r : Allotment} (hr : s.record k = some r)
    (hshed : r.sheddable = true) (best : Option (Slot × Nat)) :
    s.shedStep best k = if ∀ b ∈ best, r.priority ≤ b.2 then some (k, r.priority) else best := by
  rcases best with _ | ⟨i, p⟩ <;> simp [State.shedStep, hr, hshed]

/-- The best of `l` stays so with a slot whose record, if it is sheddable, comes after. -/
theorem State.ShedFirst.concat {s : State} {l : List Slot} {i k : Slot} {r : Allotment} (h : s.ShedFirst l i r)
    (hk : ∀ r', s.record k = some r' → r'.sheddable = true → r.priority < r'.priority) :
    s.ShedFirst (l ++ [k]) i r := by
  obtain ⟨hr, hshed, hmin⟩ := h
  refine ⟨hr, hshed, fun j hj r' hj' hshed' => ?_⟩
  rcases List.mem_append.mp hj with hl | hkj
  · exact hmin j hl r' hj' hshed'
  · obtain rfl := List.mem_singleton.mp hkj
    exact .inl (hk r' hj' hshed')

/-- A sheddable record in a slot above all of `l`, of a priority not above any sheddable one of `l`, is the first to shed:
it wins the tie by its slot. -/
theorem shedFirst_concat_self {s : State} {l : List Slot} {k : Slot} {r : Allotment} (hr : s.record k = some r)
    (hshed : r.sheddable = true) (hup : ∀ j ∈ l, j < k)
    (hle : ∀ j ∈ l, ∀ r', s.record j = some r' → r'.sheddable = true → r.priority ≤ r'.priority) :
    s.ShedFirst (l ++ [k]) k r := by
  refine ⟨hr, hshed, fun j hj r' hj' hshed' => ?_⟩
  rcases List.mem_append.mp hj with hl | hkj
  · exact (hle j hl r' hj' hshed').lt_or_eq.imp_right fun h => ⟨h, (hup j hl).le⟩
  · obtain rfl := List.mem_singleton.mp hkj
    obtain rfl : r = r' := Option.some.inj (hr.symm.trans hj')
    exact .inr ⟨rfl, le_rfl⟩

/-- The step keeps what the search holds, from the slots `l` to a slot above them all. -/
theorem shedBest_shedStep {s : State} {l : List Slot} {best : Option (Slot × Nat)} {k : Slot} (h : s.ShedBest l best)
    (hup : ∀ j ∈ l, j < k) : s.ShedBest (l ++ [k]) (s.shedStep best k) := by
  by_cases hk : ∃ r, s.record k = some r ∧ r.sheddable = true
  · obtain ⟨r, hr, hshed⟩ := hk
    rw [shedStep_of_sheddable hr hshed]
    split
    · next hle =>
      refine ⟨r, shedFirst_concat_self hr hshed hup fun j hj r' hj' hshed' => ?_, rfl⟩
      rcases best with _ | ⟨i, p⟩
      · exact absurd hshed' (Bool.eq_false_iff.mp (h j hj r' hj'))
      · obtain ⟨ri, ⟨-, -, hmin⟩, rfl⟩ := h
        have hri : r.priority ≤ ri.priority := hle _ rfl
        rcases hmin j hj r' hj' hshed' with hlt | ⟨heq, -⟩ <;> omega
    · next hgt =>
      rcases best with _ | ⟨i, p⟩
      · exact absurd (fun _ hb => nomatch hb) hgt
      · obtain ⟨ri, hfirst, rfl⟩ := h
        refine ⟨ri, hfirst.concat fun r' hk' _ => ?_, rfl⟩
        obtain rfl : r = r' := Option.some.inj (hr.symm.trans hk')
        simpa using hgt
  · have hnot : ∀ r, s.record k = some r → r.sheddable = false := fun r hr =>
      Bool.eq_false_iff.mpr fun hshed => hk ⟨r, hr, hshed⟩
    rw [shedStep_of_not_sheddable hnot]
    rcases best with _ | ⟨i, p⟩
    · intro j hj
      rcases List.mem_append.mp hj with hl | hkj
      · exact h j hl
      · exact List.mem_singleton.mp hkj ▸ hnot
    · obtain ⟨ri, hfirst, hp⟩ := h
      exact ⟨ri, hfirst.concat fun r' hk' hshed' => absurd ⟨r', hk', hshed'⟩ hk, hp⟩

/-- The search over ascending slots ends with the first to shed. -/
theorem shedBest_foldl (s : State) (l : List Slot) (hl : l.Pairwise (· < ·)) : s.ShedBest l (l.foldl s.shedStep none) := by
  induction l using List.reverseRecOn with
  | nil => exact fun j hj => absurd hj List.not_mem_nil
  | append_singleton l k ih =>
    obtain ⟨hpre, -, hup⟩ := List.pairwise_append.mp hl
    rw [List.foldl_append]
    exact shedBest_shedStep (ih hpre) fun j hj => hup j hj k List.mem_cons_self

/-- Of all slots at most one is the first to shed. -/
theorem State.ShedFirst.slot_unique {s : State} {i k : Slot} {r q : Allotment} (hi : s.ShedFirst allSlots i r)
    (hk : s.ShedFirst allSlots k q) : i = k := by
  obtain ⟨hr, hrs, hrmin⟩ := hi
  obtain ⟨hq, hqs, hqmin⟩ := hk
  have hik := hrmin k (mem_allSlots k) q hq hqs
  have hki := hqmin i (mem_allSlots i) r hr hrs
  rcases hik with hlt | ⟨heq, hle⟩
  · rcases hki with hlt' | ⟨heq', -⟩ <;> omega
  · rcases hki with hlt' | ⟨-, hle'⟩
    · omega
    · exact le_antisymm hle' hle

/-- The choice is the first to shed of all slots. -/
theorem shedChoice_eq_some_iff {s : State} {i : Slot} : s.shedChoice = some i ↔ ∃ r, s.ShedFirst allSlots i r := by
  have hbest := shedBest_foldl s allSlots allSlots_ascending
  rw [shedChoice_eq_foldl]
  generalize allSlots.foldl s.shedStep none = best at hbest ⊢
  rcases best with _ | ⟨k, p⟩
  · refine ⟨nofun, fun ⟨r, hr, hshed, _⟩ => ?_⟩
    exact absurd hshed (Bool.eq_false_iff.mp (hbest i (mem_allSlots i) r hr))
  · obtain ⟨q, hfirst, -⟩ := hbest
    constructor
    · intro h
      obtain rfl : k = i := Option.some.inj h
      exact ⟨q, hfirst⟩
    · intro ⟨r, hr⟩
      exact congrArg some (hfirst.slot_unique hr)

/-- Settles O22: the search ends with the first to shed of all slots, and no second slot is it. -/
theorem shedChoosesLowestPriorityHighestSlot : Obligations.ShedChoosesLowestPriorityHighestSlot := by
  intro s i
  simp only [shedChoice_eq_some_iff, State.ShedFirst, Allotment.sheddable_iff, and_assoc, and_imp]
  exact exists_congr fun r => by simp

/-! ## The order of the candidates (R42) -/

/-- Slot `i` comes before slot `j` in the order of R42: a higher rank, or the same and a lower slot. -/
def State.AdmitsBefore (s : State) (i j : Slot) : Prop :=
  s.rankAt j < s.rankAt i ∨ (s.rankAt j = s.rankAt i ∧ i < j)

/-- The rank of a slot that holds a record is the record's. -/
theorem rankAt_of_record {s : State} {i : Slot} {r : Allotment} (h : s.record i = some r) : s.rankAt i = r.rank := by
  simp only [State.rankAt, h]

/-- A slot below all those of an ordered list, inserted by rank, keeps the order: among equals it goes first. -/
theorem admitsBefore_orderedInsert {s : State} {a : Slot} {l : List Slot} (hl : l.Pairwise s.AdmitsBefore)
    (ha : ∀ b ∈ l, a < b) : (l.orderedInsert (fun i j => s.rankAt j ≤ s.rankAt i) a).Pairwise s.AdmitsBefore := by
  induction l with
  | nil => exact List.pairwise_singleton _ _
  | cons b l ih =>
    obtain ⟨hb, htail⟩ := List.pairwise_cons.mp hl
    obtain ⟨hab, hal⟩ := List.forall_mem_cons.mp ha
    rw [List.orderedInsert_cons]
    split
    · next hle =>
      refine List.pairwise_cons.mpr ⟨fun c hc => ?_, hl⟩
      have hrank : s.rankAt c ≤ s.rankAt a := by
        rcases List.mem_cons.mp hc with rfl | hc
        · exact hle
        · rcases hb c hc with hlt | ⟨heq, -⟩ <;> omega
      exact hrank.lt_or_eq.imp_right fun h => ⟨h, ha c hc⟩
    · next hgt =>
      refine List.pairwise_cons.mpr ⟨fun c hc => ?_, ih htail hal⟩
      rcases (List.mem_orderedInsert _).mp hc with rfl | hc
      · exact .inl (not_le.mp hgt)
      · exact hb c hc

/-- Ascending slots sorted by rank stand in the order of R42. -/
theorem admitsBefore_insertionSort (s : State) {l : List Slot} (hl : l.Pairwise (· < ·)) :
    (l.insertionSort fun i j => s.rankAt j ≤ s.rankAt i).Pairwise s.AdmitsBefore := by
  induction l with
  | nil => exact List.Pairwise.nil
  | cons a l ih =>
    obtain ⟨ha, htail⟩ := List.pairwise_cons.mp hl
    exact admitsBefore_orderedInsert (ih htail) fun b hb => ha b ((List.mem_insertionSort _).mp hb)

/-- The list of candidates is a rearrangement of the candidate slots. -/
theorem candidates_perm (s : State) : s.candidates.Perm (allSlots.filter s.isCandidate) := List.perm_insertionSort _ _

/-- The list of candidates stands in the order of R42. -/
theorem candidates_ordered (s : State) : s.candidates.Pairwise s.AdmitsBefore :=
  admitsBefore_insertionSort s (allSlots_ascending.filter _)

/-- The list of candidates holds each once. -/
theorem candidates_nodup (s : State) : s.candidates.Nodup :=
  (candidates_perm s).nodup_iff.mpr ((List.nodup_finRange _).filter _)

/-- The list of candidates holds exactly the candidates. -/
theorem mem_candidates_iff {s : State} {i : Slot} : i ∈ s.candidates ↔ s.isCandidate i = true := by
  rw [(candidates_perm s).mem_iff, List.mem_filter, and_iff_right (mem_allSlots i)]

/-- Settles O23: the sort rearranges the candidate slots, and keeps the lower slot first among equal ranks. -/
theorem candidatesComeByPriorityThenSlot : Obligations.CandidatesComeByPriorityThenSlot := by
  intro s
  refine ⟨candidates_nodup s, fun i => mem_candidates_iff, (candidates_ordered s).imp fun {i j} h r r' hr hr' => ?_⟩
  rw [State.AdmitsBefore, rankAt_of_record hr, rankAt_of_record hr'] at h
  exact h

end Sys2Proof.Machine
end

section
/-! SUPPORT. The encoder: what each move of the quadrature state does to the count (R62 to R64). -/

namespace Sys2Proof.Machine

/-! ## The four moves of the quadrature state (R63) -/

/-- The levels do not move. -/
theorem quadMove_eq_stay_iff : ∀ {a b a' b' : Bool}, quadMove a b a' b' = .stay ↔ (a', b') = (a, b) := by decide

/-- A forward move is one step of the cycle in which A leads B. -/
theorem quadMove_eq_forward_iff : ∀ {a b a' b' : Bool}, quadMove a b a' b' = .forward ↔ (a', b') = (!b, a) := by decide

/-- A reverse move is one step back in the same cycle. -/
theorem quadMove_eq_reverse_iff : ∀ {a b a' b' : Bool}, quadMove a b a' b' = .reverse ↔ (a', b') = (b, !a) := by decide

/-- An opposite move changes both levels at once. -/
theorem quadMove_eq_opposite_iff :
    ∀ {a b a' b' : Bool}, quadMove a b a' b' = .opposite ↔ (a', b') = (!a, !b) := by decide

/-! ## The encoder's part in each move -/

/-- The encoder's pins at new levels, A and B taken as the quadrature state (R62). -/
def Inu.encoderAt (a b z : Bool) (u : Inu) : Inu := { u with pinA := a, pinB := b, pinZ := z, quadA := a, quadB := b }

section
variable {s : State} {a b z : Bool}

/-- Out of reset a change at the encoder is its move (R63). -/
theorem exec_encoderChange_of_running (h : s.inReset = false) :
    exec (.encoderChange a b z) s = .next (s.encoderMove a b z) :=
  congrArg Host.Outcome.next (if_neg (h ▸ Bool.false_ne_true))

/-- No move: the pins alone change. -/
theorem encoderMove_stay (h : quadMove s.inu.quadA s.inu.quadB a b = .stay) :
    s.encoderMove a b z = s.onInu (Inu.encoderAt a b z) := by
  simp only [State.encoderMove, h]
  rfl

/-- A forward move raises the count. -/
theorem encoderMove_forward (h : quadMove s.inu.quadA s.inu.quadB a b = .forward) :
    s.encoderMove a b z = s.onInu fun u => { u.encoderAt a b z with count := u.count + 1 } := by
  simp only [State.encoderMove, h]
  rfl

/-- A reverse move with Z low lowers the count. -/
theorem encoderMove_reverse_of_low (h : quadMove s.inu.quadA s.inu.quadB a b = .reverse) :
    s.encoderMove a b false = s.onInu fun u => { u.encoderAt a b false with count := u.count - 1 } := by
  simp only [State.encoderMove, h]
  rfl

/-- A reverse move with Z high homes the count and gives SAW the home mark (R64). -/
theorem encoderMove_reverse_of_high (h : quadMove s.inu.quadA s.inu.quadB a b = .reverse) :
    s.encoderMove a b true =
      (s.onInu fun u => { u.encoderAt a b true with count := 0, homed := true }).homeMark := by
  simp only [State.encoderMove, h]
  rfl

/-- An opposite move loses the home: the direction is not known. -/
theorem encoderMove_opposite (h : quadMove s.inu.quadA s.inu.quadB a b = .opposite) :
    s.encoderMove a b z = s.onInu fun u => { u.encoderAt a b z with homed := false } := by
  simp only [State.encoderMove, h]
  rfl

/-- SAW takes a home mark in RETURNING only (R64, R164). -/
theorem homeMark_of_ne_returning (h : s.saw.st ≠ .returning) : s.homeMark = s := by
  unfold State.homeMark
  split
  · next hst _ => exact absurd hst h
  · rfl

end

/-- Settles O39: the move's kind by its levels, then the encoder's part in that move. -/
theorem encoderCountsByDirection : Obligations.EncoderCountsByDirection := by
  intro s a b z u hrun hu
  subst hu
  rw [exec_encoderChange_of_running hrun]
  refine ⟨fun hstay => ?_, fun hforward => ?_, fun hreverse hz => ?_, fun hreverse hz hsaw => ?_, fun hopposite => ?_⟩
  · rw [encoderMove_stay (quadMove_eq_stay_iff.mpr hstay)]
    rfl
  · rw [encoderMove_forward (quadMove_eq_forward_iff.mpr hforward)]
    rfl
  · subst hz
    rw [encoderMove_reverse_of_low (quadMove_eq_reverse_iff.mpr hreverse)]
    rfl
  · subst hz
    rw [encoderMove_reverse_of_high (quadMove_eq_reverse_iff.mpr hreverse),
      homeMark_of_ne_returning (s := s.onInu _) hsaw]
    rfl
  · rw [encoderMove_opposite (quadMove_eq_opposite_iff.mpr hopposite)]
    rfl

end Sys2Proof.Machine
end

section
/-! SUPPORT. What the work of ALT, SAW and the field line inside one act is made of: a closed list of pieces. Whatever each
piece keeps, every act made of pieces keeps. -/

namespace Sys2Proof.Machine

-- One body after another: hypotheses with a default proof would else hold a thread each.
set_option Elab.async false

/-! ## Pieces of work -/

/-- A record that follows another in its slot: the same target and kind, and a CRITICAL one no nearer to a shed (R38). -/
def Allotment.Follows (r r' : Allotment) : Prop :=
  r'.target = r.target ∧ r'.kind = r.kind ∧ (r.critSafe → r'.critSafe)

theorem Allotment.Follows.trans {r r' r'' : Allotment} (h : r.Follows r') (h' : r'.Follows r'') : r.Follows r'' :=
  ⟨h'.1.trans h.1, h'.2.1.trans h.2.1, fun hc => h'.2.2 (h.2.2 hc)⟩

/-- The record of a slot is followed by another. -/
def State.Passes (s : State) (i : Slot) (r' : Allotment) : Prop := ∃ r, s.record i = some r ∧ r.Follows r'

/-- One piece of the work of ALT, SAW and the field line within an act. -/
inductive WorkPiece : State → State → Prop
  | alt (s : State) (f : Alt → Alt) (h : (f s.alt).slots = s.alt.slots) : WorkPiece s (s.onAlt f)
  | record (s : State) (i : Slot) (r : Allotment) (h : s.Passes i r) : WorkPiece s (s.setRecord i (some r))
  | vacate (s : State) (i : Slot) : WorkPiece s (s.setRecord i none)
  | saw (s : State) (f : Saw → Saw) (h : (f s.saw).cuts <:+ s.saw.cuts) : WorkPiece s (s.onSaw f)
  | ballast (s : State) (d : StepDir) (w : Nat) : WorkPiece s (s.ballastStep d w)
  | mark (s : State) (cls : MarkClass) (u : UnitIx) : WorkPiece s (s.giveMark cls u)
  | raise (s : State) (c : Cause) : WorkPiece s (s.raise c)

/-- A state reached from another by pieces of work. -/
def Works : State → State → Prop := Relation.ReflTransGen WorkPiece

theorem Works.refl {s : State} : Works s s := Relation.ReflTransGen.refl

theorem Works.trans {s t u : State} (h : Works s t) (h' : Works t u) : Works s u := Relation.ReflTransGen.trans h h'

theorem Works.piece {s t u : State} (h : Works s t) (p : WorkPiece t u) : Works s u := Relation.ReflTransGen.tail h p

/-- What every piece keeps, the whole work keeps. -/
theorem Works.keep {s t : State} (h : Works s t) {P : State → Prop} (hp : ∀ {u v}, WorkPiece u v → P u → P v)
    (hs : P s) : P t := by
  induction h with
  | refl => exact hs
  | tail _ p ih => exact hp p ih

namespace Works

variable {s t : State}

theorem onAlt {f : Alt → Alt} (h : Works s t) (hf : (f t.alt).slots = t.alt.slots := by exact Eq.refl _) :
    Works s (t.onAlt f) := h.piece (.alt t f hf)

theorem setRecord_some {i : Slot} {r : Allotment} (h : Works s t) (hr : t.Passes i r) :
    Works s (t.setRecord i (some r)) := h.piece (.record t i r hr)

theorem setRecord_none {i : Slot} (h : Works s t) : Works s (t.setRecord i none) := h.piece (.vacate t i)

theorem onSaw {f : Saw → Saw} (h : Works s t) (hf : (f t.saw).cuts <:+ t.saw.cuts := by exact List.suffix_rfl) :
    Works s (t.onSaw f) := h.piece (.saw t f hf)

theorem ballastStep {d : StepDir} {w : Nat} (h : Works s t) : Works s (t.ballastStep d w) := h.piece (.ballast t d w)

theorem giveMark {cls : MarkClass} {u : UnitIx} (h : Works s t) : Works s (t.giveMark cls u) := h.piece (.mark t cls u)

theorem raise {c : Cause} (h : Works s t) : Works s (t.raise c) := h.piece (.raise t c)

theorem noteChange {b : Bool} {i : Slot} (h : Works s t) : Works s (t.noteChange b i) := by
  unfold State.noteChange
  split
  · exact h.onAlt
  · exact h

theorem forgetChange {i : Slot} (h : Works s t) : Works s (t.forgetChange i) := h.onAlt

theorem addGranted {w : Nat} (h : Works s t) : Works s (t.addGranted w) := h.onAlt

theorem subGranted {w : Nat} (h : Works s t) : Works s (t.subGranted w) := h.onAlt

theorem spendHeadroom {i : Slot} {w : Nat} (h : Works s t) : Works s (t.spendHeadroom i w) := h.onAlt

/-- Acts of work over a list, one after the other. -/
theorem foldl {α : Type} {f : State → α → State} (hf : ∀ {t : State} (a : α), Works s t → Works s (f t a))
    (l : List α) (h : Works s t) : Works s (l.foldl f t) := by
  induction l generalizing t with
  | nil => exact h
  | cons a l ih => exact ih (hf a h)

end Works

/-! ## Records that follow -/

/-- A record whose target, kind, quota and state stay follows. -/
theorem Allotment.follows_of_eq {r r' : Allotment} (ht : r'.target = r.target) (hk : r'.kind = r.kind)
    (hq : r'.quota = r.quota) (hst : r'.state = r.state) : r.Follows r' := by
  refine ⟨ht, hk, fun hc => ?_⟩
  simpa only [Allotment.critSafe, hk, hq, hst] using hc

/-- A state at rest or on the way to none that a CRITICAL record is kept from (R38). -/
def RecState.critFree (x : RecState) : Prop :=
  x ≠ .shed ∧ x ≠ .releasing .shed ∧ x ≠ .held .quota ∧ x ≠ .releasing (.held .quota)

/-- A record that only changes to a state no rule keeps a CRITICAL one from follows. -/
theorem Allotment.follows_of_critFree {r r' : Allotment} (ht : r'.target = r.target) (hk : r'.kind = r.kind)
    (hq : r'.quota = r.quota) (hst : r'.state.critFree) : r.Follows r' := by
  obtain ⟨h1, h2, h3, h4⟩ := hst
  exact ⟨ht, hk, fun hc hcrit => ⟨hq.trans (hc (hk ▸ hcrit)).1, h1, h2, h3, h4⟩⟩

/-- A record that is not CRITICAL is followed by any of its target and kind. -/
theorem Allotment.follows_of_ne_critical {r r' : Allotment} (ht : r'.target = r.target) (hk : r'.kind = r.kind)
    (h : r.kind ≠ .critical) : r.Follows r' :=
  ⟨ht, hk, fun _ hcrit => absurd (hk ▸ hcrit) h⟩

/-- A record without a quota has none to spend. -/
theorem Allotment.spent_iff {r : Allotment} : r.spent = true ↔ 0 < r.quota ∧ r.quota ≤ r.used := by
  simp [Allotment.spent]

/-- A CRITICAL record that stands as R38 says has no spent quota (R3). -/
theorem Allotment.critSafe.not_spent {r : Allotment} (h : r.critSafe) (hk : r.kind = .critical) : r.spent = false := by
  obtain ⟨hq, -⟩ := h hk
  simp [Allotment.spent, hq]

/-- A record with its quota spent may follow into a quota hold: a CRITICAL one has no quota (R38, R111). -/
theorem Allotment.follows_of_spent {r r' : Allotment} (ht : r'.target = r.target) (hk : r'.kind = r.kind)
    (h : r.spent = true) : r.Follows r' :=
  ⟨ht, hk, fun hc hcrit => absurd h (by simp [hc.not_spent (hk ▸ hcrit)])⟩

/-- What a record becomes toward PENDING follows (R13). -/
theorem Allotment.follows_toPending (r : Allotment) : r.Follows r.toPending := by
  unfold Allotment.toPending
  split
  · next h => exact follows_of_spent rfl rfl h
  · exact follows_of_critFree rfl rfl rfl (by simp [RecState.critFree])

/-- What toPending leaves: all but the state and the reason. -/
theorem Allotment.toPending_eq (r : Allotment) :
    r.toPending = { r with state := r.toPending.state, reason := r.toPending.reason } := by
  unfold Allotment.toPending
  split <;> rfl

/-- Where a release leads follows the releasing record (R19). -/
theorem Allotment.follows_released {r r' : Allotment} {d : Dest} (h : r.state = .releasing d)
    (h' : r.released d = some r') : r.Follows r' := by
  unfold Allotment.released at h'
  split at h'
  · split at h'
    · obtain rfl := Option.some.inj h'
      exact r.follows_toPending
    · obtain rfl := Option.some.inj h'
      exact follows_of_critFree rfl rfl rfl (by simp [RecState.critFree])
  · refine ⟨?_, ?_, fun hc hcrit => ?_⟩
    · split at h' <;> (obtain rfl := Option.some.inj h'; rfl)
    · split at h' <;> (obtain rfl := Option.some.inj h'; rfl)
    · have hk : r.kind = .critical := by split at h' <;> (obtain rfl := Option.some.inj h'; exact hcrit)
      exact absurd h (hc hk).2.2.1
  · next k =>
    obtain rfl := Option.some.inj h'
    refine ⟨rfl, rfl, fun hc hcrit => ?_⟩
    obtain ⟨hq, h1, h2, h3, h4⟩ := hc hcrit
    refine ⟨hq, by simp, by simp, fun e => h4 ?_, by simp⟩
    rw [h]
    simpa using e
  · cases h'

end Sys2Proof.Machine
end

section
/-! SUPPORT. Each act of ALT, SAW and the field line is made of pieces of work: one lemma per shared operation. -/

namespace Sys2Proof.Machine

-- One body after another: hypotheses with a default proof would else hold a thread each.
set_option Elab.async false

/-- A record's slot passes to one that follows it. -/
theorem passes_of_record {s : State} {i : Slot} {r r' : Allotment} (h : s.record i = some r) (hf : r.Follows r') :
    s.Passes i r' := ⟨r, h, hf⟩

/-- A destination that a CRITICAL record may be released toward (R38). -/
def Dest.critFree (d : Dest) : Prop := d ≠ .shed ∧ d ≠ .held .quota

/-- A record followed into RELEASING: its quota is spent, or it is not CRITICAL, or the destination is no shed. -/
theorem Allotment.follows_releasing {r : Allotment} {d : Dest} (reason : Option Reason)
    (h : d.critFree ∨ r.kind ≠ .critical ∨ r.spent = true) :
    r.Follows { r with state := .releasing d, reason := reason } := by
  rcases h with ⟨hd, hq⟩ | hk | hs
  · exact follows_of_critFree rfl rfl rfl (by simp [RecState.critFree, hd, hq])
  · exact follows_of_ne_critical rfl rfl hk
  · exact follows_of_spent rfl rfl hs

/-- The record in a slot may be released toward a destination. -/
def State.MayRelease (s : State) (i : Slot) (d : Dest) : Prop :=
  ∀ r, s.record i = some r → d.critFree ∨ r.kind ≠ .critical ∨ r.spent = true

/-- Toward IDLE or VACANT or a hold that is no quota's every record may be released. -/
theorem mayRelease_of_critFree {t : State} {d : Dest} (hd : d.critFree) (i : Slot) : t.MayRelease i d :=
  fun _ _ => .inl hd

theorem mayRelease_idle (t : State) (i : Slot) : t.MayRelease i .idle :=
  mayRelease_of_critFree (by simp [Dest.critFree]) i

theorem mayRelease_fault (t : State) (i : Slot) : t.MayRelease i (.held .fault) :=
  mayRelease_of_critFree (by simp [Dest.critFree]) i

/-- A record that is not CRITICAL may be released toward any destination. -/
theorem mayRelease_of_ne_critical {t : State} {i : Slot} {r : Allotment} (hr : t.record i = some r)
    (hk : r.kind ≠ .critical) (d : Dest) : t.MayRelease i d := fun r' hr' => by
  obtain rfl : r = r' := Option.some.inj (hr.symm.trans hr')
  exact .inr (.inl hk)

/-- A record of a spent quota may be released toward any destination. -/
theorem mayRelease_of_spent {t : State} {i : Slot} {r : Allotment} (hr : t.record i = some r)
    (hs : r.spent = true) (d : Dest) : t.MayRelease i d := fun r' hr' => by
  obtain rfl : r = r' := Option.some.inj (hr.symm.trans hr')
  exact .inr (.inr hs)

/-- A change of fields that R38 does not speak of, in the record of a slot. -/
theorem passes_fields {t : State} {i : Slot} {r r' : Allotment} (h : t.record i = some r)
    (ht : r'.target = r.target := by exact Eq.refl _) (hk : r'.kind = r.kind := by exact Eq.refl _)
    (hq : r'.quota = r.quota := by exact Eq.refl _) (hst : r'.state = r.state := by exact Eq.refl _) : t.Passes i r' :=
  passes_of_record h (Allotment.follows_of_eq ht hk hq hst)

/-- A change to a state that no rule keeps a CRITICAL record from. -/
theorem passes_critFree {t : State} {i : Slot} {r r' : Allotment} (h : t.record i = some r)
    (ht : r'.target = r.target := by exact Eq.refl _) (hk : r'.kind = r.kind := by exact Eq.refl _)
    (hq : r'.quota = r.quota := by exact Eq.refl _) (hst : r'.state.critFree := by simp [RecState.critFree]) :
    t.Passes i r' := passes_of_record h (Allotment.follows_of_critFree ht hk hq hst)

/-- Local accrual changes only the energy counts. -/
theorem Allotment.follows_accrue (r : Allotment) (period : Nat) : r.Follows (r.accrue period) := by
  unfold Allotment.accrue
  dsimp only
  split <;> exact follows_of_eq rfl rfl rfl rfl

/-- The record chosen to be shed is not CRITICAL (R35). -/
theorem shedChoice_ne_critical {t : State} {i : Slot} (h : t.shedChoice = some i) {r : Allotment}
    (hr : t.record i = some r) : r.kind ≠ .critical := by
  obtain ⟨r', hr', hshed, -⟩ := shedChoice_eq_some_iff.mp h
  obtain rfl : r = r' := Option.some.inj (hr.symm.trans hr')
  obtain ⟨-, hk | hk⟩ := Allotment.sheddable_iff.mp hshed <;> simp [hk]

/-- A halt keeps the cut list. -/
@[simp] theorem halt_cuts (w : Saw) : w.halt.cuts = w.cuts := by
  unfold Saw.halt
  split <;> rfl

@[simp] theorem record_spendHeadroom (s : State) (i j : Slot) (n : Nat) :
    (s.spendHeadroom i n).record j = s.record j := rfl

namespace Works

variable {s t : State}

/-! ## Releases and demand -/

theorem checkStrict (h : Works s t) : Works s t.checkStrict := by
  simp only [State.checkStrict]
  split
  · exact h
  · next i _ =>
    split
    · exact h
    · refine Works.onAlt ?_
      cases hr : t.record i with
      | none => exact h.setRecord_none
      | some r => exact h.setRecord_some (passes_fields hr)

theorem orderOpen {g : Target} (h : Works s t) : Works s (t.orderOpen g) := by
  simp only [State.orderOpen]
  split
  iterate 2 exact h.onAlt
  exact h.giveMark

theorem openRelease {b : Bool} {i : Slot} {d : Dest} {reason : Option Reason} (h : Works s t)
    (hd : t.MayRelease i d) : Works s (t.openRelease b i d reason) := by
  simp only [State.openRelease]
  split
  · exact h
  · next r hr =>
    have hp : ∀ u : State, u.record i = some r →
        u.Passes i { r with state := .releasing d, reason := reason.or r.reason } := fun u hu =>
      passes_of_record hu (Allotment.follows_releasing _ (hd r hr))
    split
    · exact (h.subGranted.ballastStep.setRecord_some (hp _ (by simpa using hr))).noteChange.orderOpen
    · exact (h.setRecord_some (hp _ hr)).noteChange.orderOpen

theorem endWait {g : Target} (h : Works s t) : Works s (t.endWait g) := by
  simp only [State.endWait]
  split
  · exact h.onAlt
  all_goals exact h

theorem completeRelease {b withStep : Bool} {i : Slot} (h : Works s t) : Works s (t.completeRelease b withStep i) := by
  simp only [State.completeRelease]
  split
  · exact h
  · next r hr =>
    split
    · next d hst =>
      have hu : Works s (if withStep = true then t.ballastStep .up r.releaseStep else t) := by
        split
        · exact h.ballastStep
        · exact h
      have hur : (if withStep = true then t.ballastStep .up r.releaseStep else t).record i = some r := by
        split <;> simp [hr]
      refine (?_ : Works s (State.setRecord _ _ _)).noteChange.endWait
      generalize hq : { r with trimmed := r.trimmed || decide (r.kind = Kind.saw) } = q
      have hqf : r.Follows q := hq ▸ Allotment.follows_of_eq rfl rfl rfl rfl
      cases hrel : q.released d with
      | none => exact hu.setRecord_none
      | some r' =>
        have hqst : q.state = .releasing d := hq ▸ hst
        exact hu.setRecord_some (passes_of_record hur (hqf.trans (Allotment.follows_released hqst hrel)))
    all_goals exact h

theorem settleRelease {b : Bool} {i : Slot} (h : Works s t) : Works s (t.settleRelease b i) := by
  simp only [State.settleRelease]
  split
  · exact h
  · split
    · exact h.completeRelease
    · split
      · exact h
      · exact h.completeRelease
    · exact h

theorem beginRelease {b : Bool} {i : Slot} {d : Dest} {reason : Option Reason} (h : Works s t)
    (hd : t.MayRelease i d) : Works s (t.beginRelease b i d reason) :=
  (h.openRelease hd).settleRelease.checkStrict

theorem setWanted {b : Bool} {i : Slot} {want : Bool} (h : Works s t) : Works s (t.setWanted b i want) := by
  simp only [State.setWanted]
  split
  · exact h
  · next r hr =>
    split
    · exact h
    · split
      · refine (h.setRecord_some (passes_of_record hr ?_)).noteChange
        exact (Allotment.follows_of_eq rfl rfl rfl rfl).trans (Allotment.follows_toPending _)
      iterate 2 exact (h.setRecord_some (passes_critFree hr)).noteChange.checkStrict
      iterate 2 exact (h.setRecord_some (passes_fields hr)).beginRelease (mayRelease_idle _ i)
      all_goals exact h.setRecord_some (passes_fields hr)

theorem quotaHold {i : Slot} (h : Works s t) : Works s (t.quotaHold i) := by
  simp only [State.quotaHold]
  split
  · exact h
  · next r hr =>
    split
    · next hs =>
      split
      · refine (h.setRecord_some ?_).noteChange.checkStrict
        exact passes_of_record hr (Allotment.follows_of_spent rfl rfl hs)
      iterate 2 exact h.beginRelease (mayRelease_of_spent hr hs _)
      · exact h.checkStrict
      all_goals exact h
    · exact h

theorem sawWant {want : Bool} (h : Works s t) : Works s (t.sawWant want) := by
  simp only [State.sawWant]
  split
  · exact h
  · exact h.setWanted

theorem trimBack (h : Works s t) : Works s t.trimBack := by
  simp only [State.trimBack]
  split
  · exact h
  · split
    · next r hr =>
      split
      · exact (h.setRecord_some (passes_fields hr)).noteChange.ballastStep
      · exact h
    · exact h

theorem sawFaultAtAlt (h : Works s t) : Works s t.sawFaultAtAlt := by
  simp only [State.sawFaultAtAlt]
  split
  · exact h
  · next i _ =>
    split
    · exact h
    · next r hr =>
      split
      iterate 2 exact (h.setRecord_some (passes_fields hr)).beginRelease (mayRelease_fault _ i)
      iterate 2 exact h.setWanted
      all_goals exact h.setRecord_some (passes_fields hr)

theorem setCutWanted {want : Bool} (h : Works s t) : Works s (t.setCutWanted want) := h.onSaw.checkStrict

/-! ## SAW -/

theorem enterSaw {st : SawState} (h : Works s t) : Works s (t.enterSaw st) := by
  simp only [State.enterSaw]
  split
  · exact h
  · exact h.onSaw.raise

theorem clearCutWanted (h : Works s t) : Works s t.clearCutWanted := by
  simp only [State.clearCutWanted]
  split
  · exact h.setCutWanted
  · exact h

theorem sawFault {c : FaultCause} (h : Works s t) : Works s (t.sawFault c) := by
  simp only [State.sawFault]
  split
  · exact h
  · exact h.onSaw.clearCutWanted.onSaw.sawFaultAtAlt.enterSaw.onSaw

theorem enterFeeding (h : Works s t) : Works s t.enterFeeding := by
  have hfeeding := h.clearCutWanted.enterSaw (st := .feeding)
  simp only [State.enterFeeding]
  split
  · split
    · exact hfeeding.sawFault
    · exact hfeeding.onSaw
  · split
    · exact hfeeding.onSaw.sawFault
    · exact hfeeding.onSaw.onSaw

theorem enterFeedWait (h : Works s t) : Works s t.enterFeedWait := by
  simp only [State.enterFeedWait]
  split
  · exact h.enterSaw.onSaw.enterFeeding
  · exact h.enterSaw.onSaw.setCutWanted

theorem beginSettle (h : Works s t) : Works s t.beginSettle := by
  simp only [State.beginSettle]
  split
  · exact h.onSaw.enterFeedWait
  · exact h.onSaw.onSaw

theorem beginSetWait (h : Works s t) : Works s t.beginSetWait := by
  simp only [State.beginSetWait]
  split
  · exact h.onSaw.beginSettle
  · exact h.onSaw

theorem beginSetMove {n : Nat} (h : Works s t) : Works s (t.beginSetMove n) := by
  simp only [State.beginSetMove]
  split
  · exact h.onSaw.beginSetWait
  · exact h.onSaw.onSaw

theorem enterSetting (h : Works s t) : Works s t.enterSetting := h.enterSaw.beginSetMove

theorem enterReleasing (h : Works s t) : Works s t.enterReleasing := h.enterSaw

theorem beginOrder (h : Works s t) : Works s t.beginOrder := by
  simp only [State.beginOrder]
  split
  · exact h.enterFeedWait
  · exact h.enterSetting

theorem afterReturn {k : ReturnKind} (h : Works s t) : Works s (t.afterReturn k) := by
  simp only [State.afterReturn]
  split
  · exact h.enterReleasing
  iterate 2
    split
    · exact h.sawWant.enterReleasing
    · exact h.beginOrder

theorem arriveHome {k : ReturnKind} (h : Works s t) : Works s (t.arriveHome k) := by
  refine (h.onSaw ?_).afterReturn
  dsimp only
  split
  · exact List.tail_suffix _
  · exact List.suffix_rfl

theorem enterReturning {k : ReturnKind} (h : Works s t) : Works s (t.enterReturning k) := by
  simp only [State.enterReturning]
  split
  · exact h.enterSaw.onSaw.arriveHome
  · split
    · exact h.enterSaw.onSaw.sawFault
    · exact h.enterSaw.onSaw.onSaw

theorem strokeEnd (h : Works s t) : Works s t.strokeEnd := by
  simp only [State.strokeEnd]
  split
  · exact h.onSaw.trimBack.clearCutWanted.onSaw.enterReturning
  · exact h.onSaw.sawFault

theorem sawPublication {b : Bool} {f : Nat} (h : Works s t) : Works s (t.sawPublication b f) := by
  simp only [State.sawPublication]
  generalize (if b = true then scaleOf f (t.param .fSet) (t.param .feedBand) else 0) = scale
  have hscale := h.onSaw (f := fun w => { w with scale })
  split
  · split
    · exact hscale.onSaw
    · exact hscale.onSaw.sawFault
  · split
    · exact hscale
    · exact hscale.sawFault

theorem sawGovReport {b : Bool} (h : Works s t) : Works s (t.sawGovReport b) := by
  simp only [State.sawGovReport]
  split
  · exact h
  · refine h.onSaw ?_
    split <;> exact List.suffix_rfl

theorem enterHalted (h : Works s t) : Works s t.enterHalted := by
  refine (h.clearCutWanted.onSaw ?_).enterSaw
  rw [halt_cuts]

theorem enterSpinup (h : Works s t) : Works s t.enterSpinup := h.enterSaw.onSaw

theorem resumeSetting (h : Works s t) : Works s t.resumeSetting := by
  simp only [State.resumeSetting]
  split
  · split
    · exact h.enterSaw.beginSetMove
    · exact h.enterSaw.beginSetWait
    · exact h.enterSaw.beginSettle
  · exact h.enterSaw

theorem resume {p : Phase} (h : Works s t) : Works s (t.resume p) := by
  cases p with
  | setting => exact h.onSaw.resumeSetting
  | feedWait => exact h.onSaw.enterFeedWait
  | returning kind => exact h.onSaw.enterReturning

theorem spunUp (h : Works s t) : Works s t.spunUp := by
  simp only [State.spunUp]
  split
  · exact h.onSaw.resume
  · split
    · exact h.onSaw.beginOrder
    · exact h.onSaw.enterReturning

theorem noticeLive (h : Works s t) : Works s t.noticeLive := by
  simp only [State.noticeLive]
  split
  · exact h.enterSpinup
  · exact h

theorem noticeTrim (h : Works s t) : Works s t.noticeTrim := by
  simp only [State.noticeTrim]
  split
  · exact h.onSaw.enterFeedWait
  · exact h

theorem noticeUntrim (h : Works s t) : Works s t.noticeUntrim := by
  simp only [State.noticeUntrim]
  split
  · exact h.enterFeeding
  · exact h.trimBack.noticeTrim

theorem noticeRelease {d : Dest} (h : Works s t) : Works s (t.noticeRelease d) := by
  simp only [State.noticeRelease]
  repeat' split
  all_goals first | exact h | exact h.enterHalted

theorem noticeLeftReleasing (h : Works s t) : Works s t.noticeLeftReleasing := by
  simp only [State.noticeLeftReleasing]
  split
  · exact h.enterSaw
  · exact h

/-! ## Acts of ALT that SAW hears of -/

theorem tellSaw {i : Slot} {notice : State → State} (h : Works s t)
    (hn : ∀ {u : State}, Works s u → Works s (notice u)) : Works s (t.tellSaw i notice) := by
  simp only [State.tellSaw]
  split
  · split
    · exact hn h
    · exact h
  · exact h

theorem release {b : Bool} {i : Slot} {d : Dest} {reason : Option Reason} (h : Works s t)
    (hd : t.MayRelease i d) : Works s (t.release b i d reason) := by
  refine (((h.openRelease hd).tellSaw fun hu => hu.noticeRelease).settleRelease.tellSaw fun hu => ?_).checkStrict
  split
  · exact hu
  · exact hu.noticeLeftReleasing

theorem confirmClutch (h : Works s t) : Works s t.confirmClutch := by
  simp only [State.confirmClutch]
  split
  · exact h
  · split
    · exact h
    · next r hr =>
      exact (h.setRecord_some (passes_critFree hr)).subGranted.onAlt.noteChange.ballastStep.noticeLive

theorem clutchIn (h : Works s t) : Works s t.clutchIn := by
  simp only [State.clutchIn]
  split
  · exact h.confirmClutch
  all_goals exact h

theorem completeSawRelease {withStep : Bool} (h : Works s t) : Works s (t.completeSawRelease withStep) := by
  simp only [State.completeSawRelease]
  split
  · exact h
  · exact h.completeRelease.noticeLeftReleasing

theorem clutchOut (h : Works s t) : Works s t.clutchOut := by
  simp only [State.clutchOut]
  split
  · exact h.completeSawRelease
  all_goals exact h

theorem clutchFails (h : Works s t) : Works s t.clutchFails := by
  simp only [State.clutchFails]
  split
  · exact h
  · split
    · exact h
    · next r hr => exact (h.setRecord_some (passes_critFree hr)).subGranted.onAlt.noteChange.sawFault

theorem clutchSticks (h : Works s t) : Works s t.clutchSticks := h.completeSawRelease.sawFault

/-! ## A publication, the shed-all, admission -/

theorem takeCount {i : Slot} {before after : Allotment} (h : Works s t) (hp : t.Passes i after) :
    Works s (t.takeCount i before after) := (h.setRecord_some hp).noteChange.quotaHold

theorem accrueSlot {period : Nat} {i : Slot} (h : Works s t) : Works s (State.accrueSlot period t i) := by
  simp only [State.accrueSlot]
  split
  · exact h
  · next r hr =>
    split
    · exact h.takeCount (passes_of_record hr (r.follows_accrue period))
    · exact h

theorem shedOne {i : Slot} (h : Works s t) (hi : ∀ r, t.record i = some r → r.kind ≠ .critical) :
    Works s (t.shedOne i) := by
  simp only [State.shedOne]
  split
  · next r hr =>
    split
    · exact h.trimBack.noticeTrim.onAlt
    · exact (h.release (mayRelease_of_ne_critical hr (hi r hr) _)).onAlt
  · exact h.onAlt

theorem shedJudgement {p : Publication} (h : Works s t) : Works s (t.shedJudgement p) := by
  have hlow := h.onAlt (f := fun a => { a with lowCount := if p.low = true then min 255 (a.lowCount + 1) else 0 })
  simp only [State.shedJudgement]
  split
  · generalize State.onAlt t _ = u at hlow ⊢
    split
    · split
      · next hi => exact hlow.shedOne fun r hr => shedChoice_ne_critical hi hr
      · exact hlow
    · exact hlow
  · exact h.onAlt

theorem shedAllSlot {reason : Reason} {i : Slot} (h : Works s t) : Works s (State.shedAllSlot reason t i) := by
  simp only [State.shedAllSlot]
  split
  · exact h
  · next r hr =>
    split
    · exact h
    · next hk =>
      split
      iterate 2 exact h.release (mayRelease_of_ne_critical hr hk _)
      · have hshed := (h.setRecord_some (passes_of_record hr (r' := { r with state := .shed, reason := some reason })
          (Allotment.follows_of_ne_critical rfl rfl hk))).noteChange (b := true) (i := i)
        split
        · exact hshed.giveMark
        all_goals exact hshed
      all_goals exact h

/-- The records of a shed-all, one after the other. -/
theorem shedAllSlots {reason : Reason} (h : Works s t) : Works s (allSlots.foldl (State.shedAllSlot reason) t) :=
  h.foldl (fun _ hi => hi.shedAllSlot) allSlots

theorem orderClosed {i : Slot} {r : Allotment} (h : Works s t) (hr : t.record i = some r) :
    Works s (t.orderClosed i r) := by
  simp only [State.orderClosed]
  split
  · refine (Works.setRecord_some h.onAlt ?_).subGranted.ballastStep
    exact passes_critFree (r := r) hr
  · split
    · exact h.onAlt.clutchIn
    · exact h.onAlt
  · exact h.giveMark

theorem grant {i : Slot} {r : Allotment} (h : Works s t) (hr : t.record i = some r) : Works s (t.grant i r) :=
  ((h.setRecord_some (passes_critFree hr)).noteChange.addGranted.spendHeadroom).orderClosed (by simp)

theorem untrim {i : Slot} {r : Allotment} (h : Works s t) (hr : t.record i = some r) : Works s (t.untrim i r) :=
  (h.setRecord_some (passes_fields hr)).noteChange.ballastStep.spendHeadroom.noticeUntrim

theorem serve {i : Slot} {r : Allotment} (h : Works s t) (hr : t.record i = some r) : Works s (t.serve i r) := by
  simp only [State.serve]
  split
  · exact h.untrim hr
  · exact h.grant hr

theorem passOver {i : Slot} {r : Allotment} (h : Works s t) (hr : t.record i = some r) : Works s (t.passOver i r) :=
  h.setRecord_some (passes_fields hr)

theorem firstFit {l : List Slot} (h : Works s t) : Works s (t.firstFit l) := by
  induction l generalizing t with
  | nil => exact h
  | cons i l ih =>
    simp only [State.firstFit]
    split
    · exact ih h
    · next r hr =>
      split
      · exact h.serve hr
      · exact ih (h.passOver hr)

theorem strictPass {i : Slot} (h : Works s t) : Works s (t.strictPass i) := by
  simp only [State.strictPass]
  split
  · exact h
  · next r hr =>
    split
    · exact h.serve hr
    · exact h.passOver hr

theorem admissionPass (h : Works s t) : Works s t.admissionPass := by
  simp only [State.admissionPass]
  split
  · exact h.strictPass
  · split
    · exact h.onAlt.strictPass
    · exact h.firstFit

theorem countTimers {p : Publication} (h : Works s t) : Works s (t.countTimers p) := by
  simp only [State.countTimers]
  split
  · exact h.onAlt
  · exact h

theorem altPublication {p : Publication} (h : Works s t) : Works s (t.altPublication p) := by
  have hfold : Works s (allSlots.foldl (State.accrueSlot p.period) (t.countTimers p)) :=
    h.countTimers.foldl (fun _ hi => hi.accrueSlot) allSlots
  simp only [State.altPublication]
  split
  · exact hfold.shedJudgement.onAlt.admissionPass
  · exact hfold.shedJudgement.onAlt

theorem publish {p : Publication} (h : Works s t) : Works s (t.publish p) := h.altPublication.sawPublication

theorem govReport (h : Works s t) : Works s t.govReport := by
  simp only [State.govReport]
  split
  · exact h.sawGovReport.raise
  · exact h.onAlt.sawGovReport.raise

/-! ## What SAW makes of deliveries -/

theorem fwdLimitActive (h : Works s t) : Works s t.fwdLimitActive := by
  simp only [State.fwdLimitActive]
  split
  · exact h.sawFault
  · exact h

theorem revLimitActive (h : Works s t) : Works s t.revLimitActive := by
  simp only [State.revLimitActive]
  split
  · exact h.sawFault
  · exact h

theorem setDoneActive (h : Works s t) : Works s t.setDoneActive := by
  simp only [State.setDoneActive]
  split
  · exact h.beginSettle
  · exact h

theorem sawGuard (h : Works s t) : Works s t.sawGuard := by
  simp only [State.sawGuard]
  split
  · exact h
  · exact h.sawFault

theorem homeMark (h : Works s t) : Works s t.homeMark := by
  simp only [State.homeMark]
  split
  · exact h.arriveHome
  · exact h

/-! ## ALT's work on a reply -/

theorem takeDemand {u : UnitIx} {o : Outlet} {on : Bool} (h : Works s t) : Works s (t.takeDemand u o on) := by
  simp only [State.takeDemand]
  split
  · exact h
  · split
    · split
      · exact h
      · exact h.setWanted
    · exact h

theorem confirmField {i : Slot} {r : Allotment} (h : Works s t) (hr : t.record i = some r) :
    Works s (t.confirmField i r) := (h.setRecord_some (passes_critFree hr)).noteChange.subGranted.ballastStep

theorem unitOpened {i : Slot} {r : Allotment} (h : Works s t) (hr : t.record i = some r) :
    Works s (t.unitOpened i r) := by
  simp only [State.unitOpened]
  refine (h.setRecord_some (passes_of_record hr ?_)).noteChange.ballastStep
  split
  · exact (Allotment.follows_of_eq rfl rfl rfl rfl).trans (Allotment.follows_toPending _)
  · exact Allotment.follows_of_critFree rfl rfl rfl (by simp [RecState.critFree])

theorem refuseField {i : Slot} {r : Allotment} (h : Works s t) (hr : t.record i = some r) :
    Works s (t.refuseField i r) := (h.setRecord_some (passes_critFree hr)).noteChange.subGranted

theorem reconcileStatus {u : UnitIx} {o : Outlet} {closed : Bool} (h : Works s t) :
    Works s (t.reconcileStatus u o closed) := by
  simp only [State.reconcileStatus]
  split
  · exact h
  · split
    · exact h
    · next r hr =>
      split
      · exact h.confirmField hr
      · exact h.unitOpened hr
      · exact h.completeRelease
      all_goals exact h

theorem reconcileApplied {u : UnitIx} {o : Outlet} {sent closed : Bool} (h : Works s t) :
    Works s (t.reconcileApplied u o sent closed) := by
  simp only [State.reconcileApplied]
  split
  · exact h
  · split
    · exact h
    · next r hr =>
      split
      · exact h.confirmField hr
      · split
        · exact h.refuseField hr
        · exact h
      · exact h.unitOpened hr
      · exact h.giveMark
      · exact h.completeRelease
      all_goals exact h

theorem altApplied {u : UnitIx} {n : Nat} {sent applied : BitVec 4} (h : Works s t) :
    Works s (t.altApplied u n sent applied) := h.foldl (fun _ ho => ho.reconcileApplied) _

end Works

end Sys2Proof.Machine
end

section
/-! SUPPORT. Switches, G_out, quotas, the feed and the strict slot as the records say, with what of it is promised at a moment
within an act; and the one lemma for the change of one record together with its switch. -/

namespace Sys2Proof.Machine

-- One body after another: hypotheses with a default proof would else hold a thread each.
set_option Elab.async false

/-! ## What is promised -/

/-- The feed does not step forward. -/
def Saw.Still (w : Saw) : Prop := ∀ rate left, w.feed ≠ .stepping true rate left

/-- The saw record is LIVE with trimmed false (R161). -/
def State.Cutting (s : State) : Prop :=
  ∃ i r, s.record i = some r ∧ r.kind = .saw ∧ r.state = .live ∧ r.trimmed = false

/-- A record that may rest where it stands: not PENDING, GRANTED or LIVE with its quota spent (R106, R111). -/
def Allotment.mayRest (r : Allotment) : Prop :=
  r.spent = true → r.state ≠ .pending ∧ r.state ≠ .granted ∧ r.state ≠ .live

/-- Switches and records as R20 to R28 tie them, at a moment within an act: G_out is kept under `c`, quotas for the slots of
`q`, a LIVE untrimmed saw record stands under `f`, the strict slot holds a candidate under `k`. -/
structure Stands (c : Prop) (q : Slot → Prop) (f k : Prop) (s : State) : Prop where
  targets : s.TargetsOk
  kinds : s.KindsOk
  relays : s.RelaysOk
  clutch : s.ClutchOk
  granted : c → s.GrantedOk
  spent : ∀ i, q i → ∀ r, s.record i = some r → r.mayRest
  forward : ∀ rate left, s.saw.feed = .stepping true rate left → s.saw.st = .feeding
  cutting : f → s.Cutting
  strict : k → s.StrictOk

/-- Less may be promised. -/
theorem Stands.weaken {c c' : Prop} {q q' : Slot → Prop} {f f' k k' : Prop} {s : State} (h : Stands c q f k s)
    (hc : c' → c) (hq : ∀ i, q' i → q i) (hf : f' → f) (hk : k' → k) : Stands c' q' f' k' s where
  targets := h.targets
  kinds := h.kinds
  relays := h.relays
  clutch := h.clutch
  granted x := h.granted (hc x)
  spent i x := h.spent i (hq i x)
  forward := h.forward
  cutting x := h.cutting (hf x)
  strict x := h.strict (hk x)

/-- Outside FEEDING the feed does not step forward. -/
theorem Stands.still {c : Prop} {q : Slot → Prop} {f k : Prop} {s : State} (h : Stands c q f k s)
    (hst : s.saw.st ≠ .feeding) : s.saw.Still :=
  fun rate left e => hst (h.forward rate left e)

/-! ## The change of one record -/

/-- A slot's record is GRANTED or LIVE. -/
def switched (x : Option Allotment) : Bool := x.any fun r => r.state == .granted || r.state == .live

/-- What a slot counts for in G_out (R27). -/
def counted (x : Option Allotment) : Nat :=
  match x with
  | some r => if r.state = .granted then r.share else 0
  | none => 0

theorem switched_iff {x : Option Allotment} :
    switched x = true ↔ ∃ r, x = some r ∧ (r.state = .granted ∨ r.state = .live) := by
  cases x <;> simp [switched]

/-- A clutch wait goes with the record the clutch belongs to (R23, R24). -/
def ClutchWait.fits (w : ClutchWait) (r : Allotment) : Prop :=
  match w with
  | .engage _ => r.state = .granted
  | .release _ => ∃ d, r.state = .releasing d

/-- The record of one slot is changed or goes, its switch and G_out with it, and no other. -/
structure Swap (s t : State) (i : Slot) (r : Allotment) (x : Option Allotment) : Prop where
  before : s.record i = some r
  after : ∀ j, t.record j = if j = i then x else s.record j
  named : ∀ r', x = some r' → r'.target = r.target ∧ r'.kind = r.kind
  relays : ∀ n, t.alt.relays.get n = if r.target = .relay n then switched x else s.alt.relays.get n
  clutch : t.alt.clutch = if r.target = .clutch then switched x else s.alt.clutch
  wait : ∀ w, t.alt.wait = some w →
    (r.target ≠ .clutch ∧ s.alt.wait = some w) ∨ (r.target = .clutch ∧ ∃ r', x = some r' ∧ w.fits r')
  gOut : t.alt.gOut = s.alt.gOut + counted x - counted (some r)
  saw : t.saw = s.saw

namespace Swap

variable {s t : State} {i : Slot} {r : Allotment} {x : Option Allotment}

theorem after_self (w : Swap s t i r x) : t.record i = x := by rw [w.after, if_pos rfl]

theorem after_ne (w : Swap s t i r x) {j : Slot} (h : j ≠ i) : t.record j = s.record j := by rw [w.after, if_neg h]

/-- A record after the change is the changed one or an old one elsewhere. -/
theorem record_cases (w : Swap s t i r x) {j : Slot} {p : Allotment} (h : t.record j = some p) :
    (j = i ∧ x = some p) ∨ (j ≠ i ∧ s.record j = some p) := by
  by_cases e : j = i
  · subst e
    exact .inl ⟨rfl, w.after_self.symm.trans h⟩
  · exact .inr ⟨e, (w.after_ne e).symm.trans h⟩

/-- Who names a target and is switched, after the change. -/
theorem named_iff (w : Swap s t i r x) (ht : s.TargetsOk) (g : Target) :
    (∃ j p, t.record j = some p ∧ p.target = g ∧ (p.state = .granted ∨ p.state = .live)) ↔
      if r.target = g then switched x = true
      else ∃ j p, s.record j = some p ∧ p.target = g ∧ (p.state = .granted ∨ p.state = .live) := by
  split
  · next hg =>
    rw [switched_iff]
    constructor
    · rintro ⟨j, p, hp, hpg, hst⟩
      rcases w.record_cases hp with ⟨-, hx⟩ | ⟨hne, hs⟩
      · exact ⟨p, hx, hst⟩
      · exact absurd (ht j i p r hs w.before (hpg.trans hg.symm)) hne
    · rintro ⟨p, hx, hst⟩
      exact ⟨i, p, w.after_self.trans hx, (w.named p hx).1.trans hg, hst⟩
  · next hg =>
    constructor
    · rintro ⟨j, p, hp, hpg, hst⟩
      rcases w.record_cases hp with ⟨-, hx⟩ | ⟨-, hs⟩
      · exact absurd ((w.named p hx).1.symm.trans hpg) hg
      · exact ⟨j, p, hs, hpg, hst⟩
    · rintro ⟨j, p, hp, hpg, hst⟩
      refine ⟨j, p, (w.after_ne fun e => hg ?_).trans hp, hpg, hst⟩
      subst e
      rw [w.before] at hp
      exact Option.some.inj hp ▸ hpg

theorem targets (w : Swap s t i r x) (h : s.TargetsOk) : t.TargetsOk := by
  intro j k p p' hp hp' hg
  rcases w.record_cases hp with ⟨hj, hx⟩ | ⟨hj, hs⟩ <;> rcases w.record_cases hp' with ⟨hk, hx'⟩ | ⟨hk, hs'⟩
  · rw [hj, hk]
  · exact absurd (h i k r p' w.before hs' ((w.named p hx).1.symm.trans hg)).symm hk
  · exact absurd (h j i p r hs w.before (hg.trans (w.named p' hx').1)) hj
  · exact h j k p p' hs hs' hg

theorem kinds (w : Swap s t i r x) (h : s.KindsOk) : t.KindsOk := by
  intro j p hp
  rcases w.record_cases hp with ⟨-, hx⟩ | ⟨-, hs⟩
  · obtain ⟨htarget, hkind⟩ := w.named p hx
    rw [htarget, hkind]
    exact h i r w.before
  · exact h j p hs

theorem relaysOk (w : Swap s t i r x) (ht : s.TargetsOk) (h : s.RelaysOk) : t.RelaysOk := by
  intro n
  rw [w.named_iff ht, w.relays]
  split
  · exact .rfl
  · exact h n

theorem clutchOk (w : Swap s t i r x) (ht : s.TargetsOk) (h : s.ClutchOk) : t.ClutchOk := by
  obtain ⟨hon, hengage, hrelease⟩ := h
  refine ⟨?_, fun left hw => ?_, fun left hw => ?_⟩
  · rw [w.named_iff ht, w.clutch]
    split
    · exact .rfl
    · exact hon
  · rcases w.wait _ hw with ⟨hne, hs⟩ | ⟨hg, r', hx, hfit⟩
    · obtain ⟨j, p, hp, hpg, hst⟩ := hengage left hs
      refine ⟨j, p, (w.after_ne fun e => hne ?_).trans hp, hpg, hst⟩
      subst e
      rw [w.before] at hp
      exact Option.some.inj hp ▸ hpg
    · exact ⟨i, r', w.after_self.trans hx, (w.named r' hx).1.trans hg, hfit⟩
  · rcases w.wait _ hw with ⟨hne, hs⟩ | ⟨hg, r', hx, d, hfit⟩
    · obtain ⟨j, p, d, hp, hpg, hst⟩ := hrelease left hs
      refine ⟨j, p, d, (w.after_ne fun e => hne ?_).trans hp, hpg, hst⟩
      subst e
      rw [w.before] at hp
      exact Option.some.inj hp ▸ hpg
    · exact ⟨i, r', d, w.after_self.trans hx, (w.named r' hx).1.trans hg, hfit⟩

end Swap

/-- A note in the change set and a ballast step are no part of it. -/
theorem Swap.noteChange {s t : State} {i : Slot} {r : Allotment} {x : Option Allotment} (w : Swap s t i r x) (b : Bool)
    (j : Slot) : Swap s (t.noteChange b j) i r x := by
  cases b
  · exact w
  · exact ⟨w.before, w.after, w.named, w.relays, w.clutch, w.wait, w.gOut, w.saw⟩

/-- G_out as R27 has it, by what each slot counts. -/
theorem grantedOk_iff {s : State} : s.GrantedOk ↔ s.alt.gOut = ∑ i, counted (s.record i) := by
  unfold State.GrantedOk
  rw [Fin.sum_univ_def]
  rfl

/-- One slot's count changed changes the sum by the difference. -/
theorem Swap.sum_counted {s t : State} {i : Slot} {r : Allotment} {x : Option Allotment} (w : Swap s t i r x) :
    ∑ j, counted (t.record j) + counted (some r) = ∑ j, counted (s.record j) + counted x := by
  have hs := Finset.add_sum_erase Finset.univ (fun j => counted (s.record j)) (Finset.mem_univ i)
  have ht := Finset.add_sum_erase Finset.univ (fun j => counted (t.record j)) (Finset.mem_univ i)
  have hrest : ∑ j ∈ Finset.univ.erase i, counted (t.record j) = ∑ j ∈ Finset.univ.erase i, counted (s.record j) :=
    Finset.sum_congr rfl fun j hj => by rw [w.after_ne (Finset.ne_of_mem_erase hj)]
  simp only [w.before, w.after_self] at hs ht
  omega

theorem Swap.grantedOk {s t : State} {i : Slot} {r : Allotment} {x : Option Allotment} (w : Swap s t i r x)
    (h : s.GrantedOk) : t.GrantedOk := by
  rw [grantedOk_iff] at *
  have := w.sum_counted
  rw [w.gOut, h]
  omega

/-- A candidate elsewhere stays one. -/
theorem Swap.isCandidate_ne {s t : State} {i j : Slot} {r : Allotment} {x : Option Allotment} (w : Swap s t i r x)
    (h : j ≠ i) : t.isCandidate j = s.isCandidate j := by
  simp only [State.isCandidate, w.after_ne h, w.saw]

/-- The feed does not hang on the record of a slot. -/
def State.Spares (s : State) (i : Slot) : Prop := ∀ r, s.record i = some r → r.kind ≠ .saw

/-- What stands before the change of one record stands after it. -/
theorem Stands.swap {c : Prop} {q q' : Slot → Prop} {f f' k k' : Prop} {s t : State} {i : Slot} {r : Allotment}
    {x : Option Allotment} (h : Stands c q f k s) (w : Swap s t i r x)
    (hq : ∀ j, q' j → (j ≠ i ∧ q j) ∨ (j = i ∧ ∀ r', x = some r' → r'.mayRest))
    (hf : f' → f ∧ (r.kind = .saw → r.state = .live → r.trimmed = false →
      ∃ r', x = some r' ∧ r'.state = .live ∧ r'.trimmed = false))
    (hk : k' → ∀ j, t.alt.strict = some j → (j ≠ i ∧ k ∧ s.alt.strict = some j) ∨ t.isCandidate j = true) :
    Stands c q' f' k' t where
  targets := w.targets h.targets
  kinds := w.kinds h.kinds
  relays := w.relaysOk h.targets h.relays
  clutch := w.clutchOk h.targets h.clutch
  granted hc := w.grantedOk (h.granted hc)
  spent j hj p hp := by
    rcases hq j hj with ⟨hne, hqj⟩ | ⟨rfl, hx⟩
    · exact h.spent j hqj p ((w.after_ne hne).symm.trans hp)
    · exact hx p (w.after_self.symm.trans hp)
  forward := by
    rw [w.saw]
    exact h.forward
  cutting hf' := by
    obtain ⟨hcut, hsame⟩ := hf hf'
    obtain ⟨j, p, hp, hkind, hst, htrim⟩ := h.cutting hcut
    by_cases e : j = i
    · subst e
      obtain rfl := Option.some.inj (w.before.symm.trans hp)
      obtain ⟨r', hx, hst', htrim'⟩ := hsame hkind hst htrim
      exact ⟨j, r', w.after_self.trans hx, (w.named r' hx).2.trans hkind, hst', htrim'⟩
    · exact ⟨j, p, (w.after_ne e).trans hp, hkind, hst, htrim⟩
  strict hk' j hj := by
    rcases hk hk' j hj with ⟨hne, hkk, hs⟩ | hc
    · rw [w.isCandidate_ne hne]
      exact h.strict hkk j hs
    · exact hc

end Sys2Proof.Machine
end

section
/-! SUPPORT. What ALT's own acts do to the switches, G_out, the quotas and the strict slot: one lemma per shared
operation. -/

namespace Sys2Proof.Machine

-- One body after another: hypotheses with a default proof would else hold a thread each.
set_option Elab.async false

/-! ## What stands sees of a state -/

/-- The part of ALT that switches, G_out and the strict slot live in. -/
def Alt.face (a : Alt) :=
  (a.slots, a.relays, a.clutch, a.wait, a.gOut, a.strict)

/-- The part of the state that `Stands` speaks of. -/
def State.face (s : State) := (s.alt.face, s.saw.st, s.saw.feed, s.saw.cutWanted)

/-- The same face, the same promises. -/
theorem Stands.congr {c : Prop} {q : Slot → Prop} {f k : Prop} {s t : State} (h : Stands c q f k s)
    (e : t.face = s.face) : Stands c q f k t := by
  simp only [State.face, Alt.face, Prod.mk.injEq] at e
  obtain ⟨⟨hslots, hrelays, hclutch, hwait, hgOut, hstrict⟩, hst, hfeed, hcut⟩ := e
  have hrec : ∀ i, t.record i = s.record i := fun i => by simp only [State.record, hslots]
  have hcand : ∀ i, t.isCandidate i = s.isCandidate i := fun i => by simp only [State.isCandidate, hrec, hcut]
  refine ⟨?_, ?_, ?_, ?_, fun hc => ?_, ?_, ?_, fun hf => ?_, fun hk => ?_⟩
  · simpa only [State.TargetsOk, hrec] using h.targets
  · simpa only [State.KindsOk, hrec] using h.kinds
  · simpa only [State.RelaysOk, hrec, hrelays] using h.relays
  · simpa only [State.ClutchOk, hrec, hclutch, hwait] using h.clutch
  · simpa only [grantedOk_iff, hrec, hgOut] using h.granted hc
  · simpa only [hrec] using h.spent
  · simpa only [hfeed, hst] using h.forward
  · simpa only [State.Cutting, hrec] using h.cutting hf
  · simpa only [State.StrictOk, hcand, hstrict] using h.strict hk

/-! ## A record's switch by the record -/

/-- The record a target belongs to says whether it is switched. -/
theorem named_switched {s : State} (ht : s.TargetsOk) {i : Slot} {r : Allotment} (hr : s.record i = some r) :
    (∃ j p, s.record j = some p ∧ p.target = r.target ∧ (p.state = .granted ∨ p.state = .live)) ↔
      switched (some r) = true := by
  rw [switched_iff]
  constructor
  · rintro ⟨j, p, hp, hg, hst⟩
    obtain rfl := ht j i p r hp hr hg
    exact ⟨p, hr.symm.trans hp, hst⟩
  · rintro ⟨p, hp, hst⟩
    obtain rfl := Option.some.inj hp
    exact ⟨i, r, hr, rfl, hst⟩

namespace Stands

variable {c : Prop} {q : Slot → Prop} {f f' k : Prop} {s t : State} {i : Slot} {r r' : Allotment} {x : Option Allotment}

/-- A relay output stands as its record says. -/
theorem relay_eq (h : Stands c q f k s) (hr : s.record i = some r) {n : Fin Config.relays} (hg : r.target = .relay n) :
    s.alt.relays.get n = switched (some r) := by
  rw [Bool.eq_iff_iff, h.relays n, ← hg]
  exact named_switched h.targets hr

/-- The clutch output stands as the saw record says. -/
theorem clutch_eq (h : Stands c q f k s) (hr : s.record i = some r) (hg : r.target = .clutch) :
    s.alt.clutch = switched (some r) := by
  rw [Bool.eq_iff_iff, h.clutch.1, ← hg]
  exact named_switched h.targets hr

/-- A clutch wait in flight fits the record the clutch belongs to. -/
theorem wait_fits (h : Stands c q f k s) (hr : s.record i = some r) (hg : r.target = .clutch) {w : ClutchWait}
    (hw : s.alt.wait = some w) : w.fits r := by
  obtain ⟨-, hengage, hrelease⟩ := h.clutch
  cases w with
  | engage left =>
    obtain ⟨j, p, hp, hpg, hst⟩ := hengage left hw
    obtain rfl := h.targets j i p r hp hr (hpg.trans hg.symm)
    exact Option.some.inj (hr.symm.trans hp) ▸ hst
  | release left =>
    obtain ⟨j, p, d, hp, hpg, hst⟩ := hrelease left hw
    obtain rfl := h.targets j i p r hp hr (hpg.trans hg.symm)
    exact ⟨d, Option.some.inj (hr.symm.trans hp) ▸ hst⟩

/-- A record changed without its switch: what the slot says of switch, G_out and wait stays. -/
theorem swap_quiet (h : Stands c q f k s) (hr : s.record i = some r)
    (hnamed : ∀ r', x = some r' → r'.target = r.target ∧ r'.kind = r.kind) (hon : switched x = switched (some r))
    (hcount : counted x = counted (some r)) (hwait : ∀ w : ClutchWait, w.fits r → ∃ r', x = some r' ∧ w.fits r') :
    Swap s (s.setRecord i x) i r x where
  before := hr
  after j := by
    split
    · next e => rw [e, record_setRecord_self]
    · next e => exact record_setRecord_ne s x e
  named := hnamed
  relays n := by
    split
    · next hg => rw [hon, ← h.relay_eq hr hg]; rfl
    · rfl
  clutch := by
    split
    · next hg => rw [hon, ← h.clutch_eq hr hg]; rfl
    · rfl
  wait w hw := by
    by_cases hg : r.target = .clutch
    · exact .inr ⟨hg, hwait w (h.wait_fits hr hg hw)⟩
    · exact .inl ⟨hg, hw⟩
  gOut := by
    rw [hcount, Nat.add_sub_cancel]
    rfl
  saw := rfl

/-- The strict slot after the change of one record, when a candidate there stays one. -/
theorem strict_of_candidate (h : Stands c q f k s) (hstrict : t.alt.strict = s.alt.strict)
    (hc : s.isCandidate i = true → t.isCandidate i = true) (hk : k) :
    ∀ j, t.alt.strict = some j → (j ≠ i ∧ k ∧ s.alt.strict = some j) ∨ t.isCandidate j = true := by
  intro j hj
  rw [hstrict] at hj
  by_cases e : j = i
  · subst e
    exact .inr (hc (h.strict hk j hj))
  · exact .inl ⟨e, hk, hj⟩

/-- A slot promised of its quota, and whatever slots were. -/
theorem spent_of_mayRest (hx : ∀ r', x = some r' → r'.mayRest) :
    ∀ j, q j → (j ≠ i ∧ q j) ∨ (j = i ∧ ∀ r', x = some r' → r'.mayRest) := by
  intro j hj
  by_cases e : j = i
  · exact .inr ⟨e, hx⟩
  · exact .inl ⟨e, hj⟩

/-- A record changed in place, with its switch as it was, whose quota is spent only if it was. -/
theorem recast (h : Stands c q f k s) (w : Swap s t i r (some r')) (hst : r'.state = r.state)
    (htrim : r'.trimmed = r.trimmed) (hstrict : t.alt.strict = s.alt.strict) (hspent : r'.spent = true → r.spent = true) :
    Stands c q f k t := by
  refine h.swap w (fun j hj => ?_) (fun hf => ⟨hf, fun _ hlive hno => ⟨r', rfl, hst.trans hlive, htrim.trans hno⟩⟩)
    (fun hk => h.strict_of_candidate hstrict (fun hc => ?_) hk)
  · by_cases e : j = i
    · subst e
      refine .inr ⟨rfl, fun p hp hp' => ?_⟩
      obtain rfl := Option.some.inj hp
      rw [hst]
      exact h.spent j hj r w.before (hspent hp')
    · exact .inl ⟨e, hj⟩
  · simp only [State.isCandidate, w.before, Bool.and_eq_true, Bool.not_eq_true'] at hc
    simp only [State.isCandidate, w.after_self, (w.named r' rfl).2, hst, htrim, w.saw, Bool.and_eq_true,
      Bool.not_eq_true']
    refine ⟨?_, hc.2⟩
    by_contra hne
    simp [hspent (by simpa using hne)] at hc

/-- A record stored over one of the same target, kind, state and share is a change in place. -/
theorem swap_inPlace (h : Stands c q f k s) (hr : s.record i = some r) {r' : Allotment}
    (he : (r'.target, r'.kind, r'.state, r'.share) = (r.target, r.kind, r.state, r.share)) :
    Swap s (s.setRecord i (some r')) i r (some r') := by
  simp only [Prod.mk.injEq] at he
  obtain ⟨htarget, hkind, hst, hshare⟩ := he
  refine h.swap_quiet hr (fun p hp => ?_) ?_ ?_ fun w hw => ⟨r', rfl, ?_⟩
  · exact Option.some.inj hp ▸ ⟨htarget, hkind⟩
  · simp [switched, hst]
  · simp [counted, hst, hshare]
  · cases w <;> simpa [ClutchWait.fits, hst] using hw

/-- A record that keeps target, kind, state, share and trim, and whose quota is spent only if it was. -/
theorem restate (h : Stands c q f k s) (hr : s.record i = some r) {r' : Allotment}
    (he : (r'.target, r'.kind, r'.state, r'.share) = (r.target, r.kind, r.state, r.share))
    (htrim : r'.trimmed = r.trimmed) (hspent : r'.spent = true → r.spent = true) :
    Stands c q f k (s.setRecord i (some r')) :=
  h.recast (h.swap_inPlace hr he) (congrArg (fun x => x.2.2.1) he) htrim rfl hspent

/-- A slot whose record may rest is promised of its quota too. -/
theorem spentAt (h : Stands c (fun j => j ≠ i ∧ q j) f k s) (hx : ∀ r, s.record i = some r → r.mayRest) :
    Stands c q f k s where
  targets := h.targets
  kinds := h.kinds
  relays := h.relays
  clutch := h.clutch
  granted := h.granted
  spent j hj r hr := by
    by_cases e : j = i
    · exact hx r (e ▸ hr)
    · exact h.spent j ⟨e, hj⟩ r hr
  forward := h.forward
  cutting := h.cutting
  strict := h.strict

/-! ## Updates that the promises do not see -/

theorem onGov (h : Stands c q f k s) (g : Gov → Gov) : Stands c q f k (s.onGov g) := h.congr rfl
theorem onInu (h : Stands c q f k s) (g : Inu → Inu) : Stands c q f k (s.onInu g) := h.congr rfl
theorem onFlc (h : Stands c q f k s) (g : Flc → Flc) : Stands c q f k (s.onFlc g) := h.congr rfl
theorem onRqp (h : Stands c q f k s) (g : Rqp → Rqp) : Stands c q f k (s.onRqp g) := h.congr rfl
theorem onParams (h : Stands c q f k s) (g : Params → Params) : Stands c q f k (s.onParams g) := h.congr rfl
theorem raise (h : Stands c q f k s) (e : Cause) : Stands c q f k (s.raise e) := h.congr rfl
theorem ballastStep (h : Stands c q f k s) (d : StepDir) (w : Nat) : Stands c q f k (s.ballastStep d w) := h.congr rfl
theorem giveMark (h : Stands c q f k s) (cls : MarkClass) (u : UnitIx) : Stands c q f k (s.giveMark cls u) := h.congr rfl
theorem forgetChange (h : Stands c q f k s) (i : Slot) : Stands c q f k (s.forgetChange i) := h.congr rfl

theorem noteChange (h : Stands c q f k s) (b : Bool) (i : Slot) : Stands c q f k (s.noteChange b i) := by
  cases b
  · exact h
  · exact h.congr rfl

theorem onAlt (h : Stands c q f k s) {g : Alt → Alt} (e : (g s.alt).face = s.alt.face) : Stands c q f k (s.onAlt g) :=
  h.congr (by simp only [State.face, onAlt_alt, e]; rfl)

/-- An update of SAW that leaves its state, the feed and cut power wanted. -/
theorem onSaw (h : Stands c q f k s) {g : Saw → Saw}
    (e : ((g s.saw).st, (g s.saw).feed, (g s.saw).cutWanted) = (s.saw.st, s.saw.feed, s.saw.cutWanted)) :
    Stands c q f k (s.onSaw g) :=
  h.congr (congrArg (Prod.mk s.alt.face) e)

/-! ## The strict slot (R49) -/

/-- The strict slot made absent. -/
theorem noStrict (h : Stands c q f k s) : Stands c q f True (s.onAlt fun a => { a with strict := none }) where
  targets := h.targets
  kinds := h.kinds
  relays := h.relays
  clutch := h.clutch
  granted := h.granted
  spent := h.spent
  forward := h.forward
  cutting := h.cutting
  strict _ _ hj := nomatch hj

/-- A VACANT slot stored VACANT changes nothing. -/
theorem setRecord_none_of_none {s : State} (hi : s.record i = none) : s.setRecord i none = s := by
  have : s.alt.slots.set i.val none = s.alt.slots := by
    rw [← (show s.alt.slots[i.val] = none from hi), Vector.set_getElem_self]
  simp only [State.setRecord, State.onAlt, this]

theorem checkStrict (h : Stands c q f k s) : Stands c q f True s.checkStrict := by
  unfold State.checkStrict
  split
  · next hnone => exact ⟨h.targets, h.kinds, h.relays, h.clutch, h.granted, h.spent, h.forward, h.cutting,
      fun _ j hj => nomatch hnone.symm.trans hj⟩
  · next i hi =>
    split
    · next hc => exact ⟨h.targets, h.kinds, h.relays, h.clutch, h.granted, h.spent, h.forward, h.cutting,
        fun _ j hj => Option.some.inj (hi.symm.trans hj) ▸ hc⟩
    · cases hr : s.record i with
      | none =>
        rw [Option.map_none, setRecord_none_of_none hr]
        exact h.noStrict
      | some r => exact (h.restate (r' := { r with starve := 0 }) hr rfl rfl id).noStrict

end Stands

end Sys2Proof.Machine
end

section
/-! SUPPORT. Releases, demand changes and quota holds keep what stands: the switch of a record goes with it. -/

namespace Sys2Proof.Machine

-- One body after another: hypotheses with a default proof would else hold a thread each.
set_option Elab.async false

/-! ## What ALT's acts leave of SAW -/

@[simp] theorem setRecord_saw (s : State) (i : Slot) (x : Option Allotment) : (s.setRecord i x).saw = s.saw := rfl
@[simp] theorem ballastStep_saw (s : State) (d : StepDir) (w : Nat) : (s.ballastStep d w).saw = s.saw := rfl
@[simp] theorem giveMark_saw (s : State) (cls : MarkClass) (u : UnitIx) : (s.giveMark cls u).saw = s.saw := rfl
@[simp] theorem raise_saw (s : State) (c : Cause) : (s.raise c).saw = s.saw := rfl
@[simp] theorem subGranted_saw (s : State) (w : Nat) : (s.subGranted w).saw = s.saw := rfl
@[simp] theorem noteChange_saw (s : State) (b : Bool) (i : Slot) : (s.noteChange b i).saw = s.saw := by
  cases b <;> rfl

@[simp] theorem checkStrict_saw (s : State) : s.checkStrict.saw = s.saw := by
  rcases checkStrict_cases s with h | ⟨i, -, -, h⟩ <;> rw [h]
  rfl

@[simp] theorem orderOpen_saw (s : State) (g : Target) : (s.orderOpen g).saw = s.saw := by
  cases g <;> rfl

@[simp] theorem openRelease_saw (s : State) (b : Bool) (i : Slot) (d : Dest) (reason : Option Reason) :
    (s.openRelease b i d reason).saw = s.saw := by
  unfold State.openRelease
  split
  · rfl
  · dsimp only
    rw [orderOpen_saw, noteChange_saw, setRecord_saw]
    split <;> rfl

@[simp] theorem endWait_saw (s : State) (g : Target) : (s.endWait g).saw = s.saw := by
  cases g <;> rfl

@[simp] theorem completeRelease_saw (s : State) (b w : Bool) (i : Slot) : (s.completeRelease b w i).saw = s.saw := by
  unfold State.completeRelease
  repeat' split
  all_goals simp

@[simp] theorem settleRelease_saw (s : State) (b : Bool) (i : Slot) : (s.settleRelease b i).saw = s.saw := by
  unfold State.settleRelease
  repeat' split
  all_goals simp

@[simp] theorem beginRelease_saw (s : State) (b : Bool) (i : Slot) (d : Dest) (reason : Option Reason) :
    (s.beginRelease b i d reason).saw = s.saw := by simp [State.beginRelease]

@[simp] theorem setWanted_saw (s : State) (b : Bool) (i : Slot) (w : Bool) : (s.setWanted b i w).saw = s.saw := by
  unfold State.setWanted
  split
  · rfl
  · split
    · rfl
    · dsimp only
      split <;> simp

@[simp] theorem quotaHold_saw (s : State) (i : Slot) : (s.quotaHold i).saw = s.saw := by
  unfold State.quotaHold
  repeat' split
  all_goals simp

@[simp] theorem sawWant_saw (s : State) (w : Bool) : (s.sawWant w).saw = s.saw := by
  unfold State.sawWant
  split <;> simp

@[simp] theorem trimBack_saw (s : State) : s.trimBack.saw = s.saw := by
  unfold State.trimBack
  repeat' split
  all_goals simp

@[simp] theorem sawFaultAtAlt_saw (s : State) : s.sawFaultAtAlt.saw = s.saw := by
  unfold State.sawFaultAtAlt
  repeat' split
  all_goals simp

/-! ## The open order -/

@[simp] theorem orderOpen_record (s : State) (g : Target) (j : Slot) : (s.orderOpen g).record j = s.record j := by
  cases g <;> rfl

theorem orderOpen_relays (s : State) (g : Target) (n : Fin Config.relays) :
    (s.orderOpen g).alt.relays.get n = if g = .relay n then false else s.alt.relays.get n := by
  cases g with
  | relay m =>
    by_cases e : n = m
    · subst e
      rw [if_pos rfl]
      exact vector_get_set_self ..
    · rw [if_neg fun h => e (Target.relay.inj h).symm]
      exact vector_get_set_ne _ _ e
  | clutch => rfl
  | field u o => rfl

theorem orderOpen_clutch (s : State) (g : Target) :
    (s.orderOpen g).alt.clutch = if g = .clutch then false else s.alt.clutch := by
  cases g <;> rfl

theorem orderOpen_wait (s : State) (g : Target) :
    (s.orderOpen g).alt.wait = if g = .clutch then some (.release (s.param .clutchTimeout * 1000)) else s.alt.wait := by
  cases g <;> rfl

@[simp] theorem orderOpen_gOut (s : State) (g : Target) : (s.orderOpen g).alt.gOut = s.alt.gOut := by
  cases g <;> rfl

@[simp] theorem endWait_record (s : State) (g : Target) (j : Slot) : (s.endWait g).record j = s.record j := by
  cases g <;> rfl
@[simp] theorem endWait_relays (s : State) (g : Target) : (s.endWait g).alt.relays = s.alt.relays := by
  cases g <;> rfl
@[simp] theorem endWait_clutch (s : State) (g : Target) : (s.endWait g).alt.clutch = s.alt.clutch := by
  cases g <;> rfl
@[simp] theorem endWait_gOut (s : State) (g : Target) : (s.endWait g).alt.gOut = s.alt.gOut := by
  cases g <;> rfl
@[simp] theorem endWait_strict (s : State) (g : Target) : (s.endWait g).alt.strict = s.alt.strict := by
  cases g <;> rfl

theorem endWait_wait (s : State) (g : Target) :
    (s.endWait g).alt.wait = if g = .clutch then none else s.alt.wait := by
  cases g <;> rfl

@[simp] theorem noteChange_relays (s : State) (b : Bool) (i : Slot) : (s.noteChange b i).alt.relays = s.alt.relays := by
  cases b <;> rfl
@[simp] theorem noteChange_clutch (s : State) (b : Bool) (i : Slot) : (s.noteChange b i).alt.clutch = s.alt.clutch := by
  cases b <;> rfl
@[simp] theorem noteChange_wait (s : State) (b : Bool) (i : Slot) : (s.noteChange b i).alt.wait = s.alt.wait := by
  cases b <;> rfl
@[simp] theorem noteChange_gOut (s : State) (b : Bool) (i : Slot) : (s.noteChange b i).alt.gOut = s.alt.gOut := by
  cases b <;> rfl
@[simp] theorem noteChange_strict (s : State) (b : Bool) (i : Slot) : (s.noteChange b i).alt.strict = s.alt.strict := by
  cases b <;> rfl

/-! ## Records at rest -/

/-- A state that holds no switch: neither GRANTED, LIVE nor RELEASING. -/
def RecState.atRest (x : RecState) : Prop := x ≠ .granted ∧ x ≠ .live ∧ ∀ d, x ≠ .releasing d

theorem switched_of_atRest {r : Allotment} (h : r.state.atRest) : switched (some r) = false := by
  simp [switched, h.1, h.2.1]

theorem counted_of_ne {r : Allotment} (h : r.state ≠ .granted) : counted (some r) = 0 := if_neg h

theorem Allotment.toPending_atRest (r : Allotment) : r.toPending.state.atRest := by
  unfold Allotment.toPending
  split <;> exact ⟨by simp, by simp, by simp⟩

/-- What a record becomes toward PENDING may rest there (R13). -/
theorem Allotment.toPending_mayRest (r : Allotment) : r.toPending.mayRest := by
  unfold Allotment.toPending
  split
  · exact fun _ => ⟨by simp, by simp, by simp⟩
  · next h => exact fun hs => absurd hs h

/-- Where a release leads is a place of rest (R19). -/
theorem Allotment.released_atRest {r r' : Allotment} {d : Dest} (h : r.released d = some r') :
    r'.state.atRest ∧ r'.mayRest ∧ r'.target = r.target ∧ r'.kind = r.kind := by
  unfold Allotment.released at h
  have hrest : ∀ (y : RecState), y.atRest → y ≠ .pending → some { r with state := y } = some r' →
      r'.state.atRest ∧ r'.mayRest ∧ r'.target = r.target ∧ r'.kind = r.kind := by
    intro y hy hp e
    obtain rfl := Option.some.inj e
    exact ⟨hy, fun _ => ⟨hp, hy.1, hy.2.1⟩, rfl, rfl⟩
  split at h
  · split at h
    · obtain rfl := Option.some.inj h
      refine ⟨r.toPending_atRest, r.toPending_mayRest, ?_, ?_⟩ <;> rw [r.toPending_eq]
    · exact hrest .idle ⟨by simp, by simp, by simp⟩ (by simp) h
  · split at h
    · exact hrest .shed ⟨by simp, by simp, by simp⟩ (by simp) h
    · exact hrest .idle ⟨by simp, by simp, by simp⟩ (by simp) h
  · exact hrest _ ⟨by simp, by simp, by simp⟩ (by simp) h
  · cases h

/-- What toPending makes of a record keeps target and kind, rests, and may. -/
theorem Allotment.toPending_rests (r : Allotment) :
    (r.toPending.target = r.target ∧ r.toPending.kind = r.kind) ∧ r.toPending.state.atRest ∧ r.toPending.mayRest := by
  refine ⟨?_, r.toPending_atRest, r.toPending_mayRest⟩
  constructor <;> rw [r.toPending_eq]

/-- A record that is neither waiting nor a LIVE saw record is no candidate (R41). -/
theorem isCandidate_eq_false {s : State} {i : Slot} {r : Allotment} (hr : s.record i = some r)
    (hpending : r.state ≠ .pending) (hshed : r.state ≠ .shed) (hlive : r.state = .live → r.kind ≠ .saw) :
    s.isCandidate i = false := by
  simp only [State.isCandidate, hr]
  cases hk : r.kind
  · simp [hpending, hshed]
  · simp [hpending]
  · simp [hpending, hshed, show r.state ≠ .live from fun h => hlive h hk]

namespace Stands

variable {c : Prop} {q : Slot → Prop} {f f' k k' : Prop} {s t : State} {i : Slot} {r r' : Allotment} {x : Option Allotment}

/-- A record at rest is moved to rest, or its slot becomes VACANT. -/
theorem rest (h : Stands c q f k s) (hr : s.record i = some r) (hrest : r.state.atRest)
    (hx : ∀ r', x = some r' → (r'.target = r.target ∧ r'.kind = r.kind) ∧ r'.state.atRest ∧ r'.mayRest)
    (hk : k' → k ∧ (s.isCandidate i = true → (s.setRecord i x).isCandidate i = true)) :
    Stands c q f k' (s.setRecord i x) := by
  have w : Swap s (s.setRecord i x) i r x := by
    refine h.swap_quiet hr (fun r' hr' => (hx r' hr').1) ?_ ?_ fun w hw => ?_
    · rw [switched_of_atRest hrest]
      cases x with
      | none => rfl
      | some r' => exact switched_of_atRest (hx r' rfl).2.1
    · rw [counted_of_ne hrest.1]
      cases x with
      | none => rfl
      | some r' => exact counted_of_ne (hx r' rfl).2.1.1
    · cases w with
      | engage left => exact absurd hw hrest.1
      | release left =>
        obtain ⟨d, hd⟩ := hw
        exact absurd hd (hrest.2.2 d)
  exact h.swap w (spent_of_mayRest fun r' hr' => (hx r' hr').2.2) (fun hf => ⟨hf, fun _ hlive _ => absurd hlive hrest.2.1⟩)
    fun hk' => h.strict_of_candidate rfl (hk hk').2 (hk hk').1

/-- A record at rest that is no candidate is moved to rest: the strict slot does not name it. -/
theorem rest_idle (h : Stands c q f k s) (hr : s.record i = some r) (hrest : r.state.atRest)
    (hno : s.isCandidate i = false)
    (hx : ∀ r', x = some r' → (r'.target = r.target ∧ r'.kind = r.kind) ∧ r'.state.atRest ∧ r'.mayRest) :
    Stands c q f k (s.setRecord i x) :=
  h.rest hr hrest hx fun hk => ⟨hk, fun hc => absurd hc (by simp [hno])⟩

/-! ## Releases -/

/-- A release begun is the change of one record with its switch (R18). -/
theorem openRelease_swap (hr : s.record i = some r) (b : Bool) (d : Dest) (reason : Option Reason) :
    Swap s (s.openRelease b i d reason) i r (some { r with state := .releasing d, reason := reason.or r.reason }) := by
  have hface : ∀ u : State, (∀ j, u.record j = s.record j) → u.alt.relays = s.alt.relays → u.alt.clutch = s.alt.clutch →
      u.alt.wait = s.alt.wait → u.alt.gOut = s.alt.gOut - counted (some r) → u.saw = s.saw →
      Swap s (((u.setRecord i (some { r with state := .releasing d, reason := reason.or r.reason })).noteChange b
        i).orderOpen r.target) i r (some { r with state := .releasing d, reason := reason.or r.reason }) := by
    intro u hrec hrel hcl hw hg hsaw
    refine ⟨hr, fun j => ?_, fun r' hr' => ?_, fun n => ?_, ?_, fun w hw' => ?_, ?_, ?_⟩
    · rw [orderOpen_record, record_noteChange]
      split
      · next e => rw [e, record_setRecord_self]
      · next e => rw [record_setRecord_ne _ _ e, hrec]
    · exact Option.some.inj hr' ▸ ⟨rfl, rfl⟩
    · rw [orderOpen_relays, noteChange_relays]
      exact ite_congr rfl (fun _ => rfl) fun _ => congrArg (·.get n) hrel
    · rw [orderOpen_clutch, noteChange_clutch]
      exact ite_congr rfl (fun _ => rfl) fun _ => hcl
    · rw [orderOpen_wait, noteChange_wait] at hw'
      split at hw'
      · next hg =>
        obtain rfl := Option.some.inj hw'
        exact .inr ⟨hg, _, rfl, d, rfl⟩
      · next hg => exact .inl ⟨hg, hw.symm.trans hw'⟩
    · rw [orderOpen_gOut, noteChange_gOut]
      exact hg
    · rw [orderOpen_saw, noteChange_saw, setRecord_saw, hsaw]
  unfold State.openRelease
  rw [hr]
  dsimp only
  split
  · next hst => exact hface _ (fun _ => rfl) rfl rfl rfl (by simp [counted, hst, State.subGranted]; rfl) rfl
  · next hst => exact hface _ (fun _ => rfl) rfl rfl rfl (by rw [counted_of_ne hst]; rfl) rfl

theorem openRelease (h : Stands c q f k s) (b : Bool) (d : Dest) (reason : Option Reason)
    (hf : f' → f ∧ s.Spares i) : Stands c q f' False (s.openRelease b i d reason) := by
  cases hr : s.record i with
  | none =>
    have : s.openRelease b i d reason = s := by simp [State.openRelease, hr]
    rw [this]
    exact h.weaken id (fun _ => id) (fun x => (hf x).1) False.elim
  | some r =>
    refine h.swap (openRelease_swap hr b d reason) (spent_of_mayRest fun r' hr' => ?_) (fun x => ?_) False.elim
    · exact Option.some.inj hr' ▸ fun _ => ⟨by simp, by simp, by simp⟩
    · exact ⟨(hf x).1, fun hk => absurd hk ((hf x).2 r hr)⟩

/-- A release completed is the change of one record that has no switch (R19). -/
theorem released_swap (h : Stands c q f k s) (hr : s.record i = some r) {d : Dest} (hd : r.state = .releasing d) (b : Bool)
    (hx : ∀ r', x = some r' → r'.state.atRest ∧ r'.mayRest ∧ r'.target = r.target ∧ r'.kind = r.kind) :
    Swap s (((s.setRecord i x).noteChange b i).endWait r.target) i r x := by
  have hoff : switched (some r) = false := by simp [switched, hd]
  have hxoff : switched x = false := by
    cases x with
    | none => rfl
    | some r' => exact switched_of_atRest (hx r' rfl).1
  have hzero : counted x = 0 := by
    cases x with
    | none => rfl
    | some r' => exact counted_of_ne (hx r' rfl).1.1
  refine ⟨hr, fun j => ?_, fun r' hr' => (hx r' hr').2.2, fun n => ?_, ?_, fun w hw => ?_, ?_, ?_⟩
  · rw [endWait_record, record_noteChange]
    split
    · next e => rw [e, record_setRecord_self]
    · next e => rw [record_setRecord_ne _ _ e]
  · rw [endWait_relays, noteChange_relays]
    split
    · next hg => exact (h.relay_eq hr hg).trans (hoff.trans hxoff.symm)
    · rfl
  · rw [endWait_clutch, noteChange_clutch]
    split
    · next hg => exact (h.clutch_eq hr hg).trans (hoff.trans hxoff.symm)
    · rfl
  · rw [endWait_wait, noteChange_wait] at hw
    split at hw
    · cases hw
    · next hg => exact .inl ⟨hg, hw⟩
  · rw [endWait_gOut, noteChange_gOut, hzero, counted_of_ne (by simp [hd])]
    rfl
  · rw [endWait_saw, noteChange_saw, setRecord_saw]

/-- A release completed leaves all standing: its record was neither switched nor a candidate (R19). -/
theorem completeRelease (h : Stands c q f k s) (b withStep : Bool) (i : Slot) :
    Stands c q f k (s.completeRelease b withStep i) := by
  unfold State.completeRelease
  split
  · exact h
  · next r hr =>
    split
    · next d hd =>
      dsimp only
      have hu : Stands c q f k (if withStep = true then s.ballastStep .up r.releaseStep else s) := by
        split
        · exact h.ballastStep _ _
        · exact h
      have hur : (if withStep = true then s.ballastStep .up r.releaseStep else s).record i = some r := by
        split <;> exact hr
      generalize (if withStep = true then s.ballastStep .up r.releaseStep else s) = u at hu hur
      have hx : ∀ r', Allotment.released { r with trimmed := r.trimmed || decide (r.kind = Kind.saw) } d = some r' →
          r'.state.atRest ∧ r'.mayRest ∧ r'.target = r.target ∧ r'.kind = r.kind := fun r' => Allotment.released_atRest
      have hno : u.isCandidate i = false :=
         isCandidate_eq_false hur (by simp [hd]) (by simp [hd]) (by simp [hd])
      refine hu.swap (hu.released_swap hur hd b hx) (spent_of_mayRest fun r' hr' => (hx r' hr').2.1)
        (fun hf => ⟨hf, fun _ hlive _ => ?_⟩) fun hk => hu.strict_of_candidate ?_ (fun hc => ?_) hk
      · rw [hd] at hlive
        cases hlive
      · rw [endWait_strict, noteChange_strict]
        rfl
      · rw [hno] at hc
        cases hc
    all_goals exact h

theorem settleRelease (h : Stands c q f k s) (b : Bool) (i : Slot) : Stands c q f k (s.settleRelease b i) := by
  unfold State.settleRelease
  split
  · exact h
  · split
    · exact h.completeRelease b true i
    · split
      · exact h
      · exact h.completeRelease b true i
    · exact h

theorem beginRelease (h : Stands c q f k s) (b : Bool) (d : Dest) (reason : Option Reason) (hf : f' → f ∧ s.Spares i) :
    Stands c q f' True (s.beginRelease b i d reason) :=
  ((h.openRelease b d reason hf).settleRelease b i).checkStrict

/-! ## Demand (R13) -/

/-- A demand change keeps what stands; the feed may not hang on the record, unless the LIVE saw record is not promised. -/
theorem setWanted (h : Stands c q f k s) (b : Bool) (want : Bool) (hf : f' → f ∧ s.Spares i) :
    Stands c q f' k (s.setWanted b i want) := by
  have hless : Stands c q f' k s := h.weaken id (fun _ => id) (fun x => (hf x).1) id
  unfold State.setWanted
  split
  · exact hless
  · next r hr =>
    split
    · exact hless
    · dsimp only
      have hplain : Stands c q f k (s.setRecord i (some { r with wanted := want })) := h.restate hr rfl rfl id
      have hwait : (r.state = .pending ∨ r.state = .shed) → Stands c q f' k (((s.setRecord i
          (some { r with wanted := want, state := .idle, reason := some .demandOff })).noteChange b i).checkStrict) := by
        intro hst
        refine (((hless.rest (k' := False) hr ?_ (fun r' hr' => ?_) False.elim).noteChange b i).checkStrict).weaken id
          (fun _ => id) id fun _ => trivial
        · rcases hst with hst | hst <;> simp [RecState.atRest, hst]
        · exact Option.some.inj hr' ▸ ⟨⟨rfl, rfl⟩, by simp [RecState.atRest], fun _ => by simp⟩
      have hswitched : Stands c q f' k ((s.setRecord i (some { r with wanted := want })).beginRelease b i .idle
          (some .demandOff)) := by
        refine (hplain.beginRelease b _ _ fun x => ⟨(hf x).1, fun r' hr' => ?_⟩).weaken id (fun _ => id) id fun _ => trivial
        rw [record_setRecord_self] at hr'
        exact Option.some.inj hr' ▸ (hf x).2 r hr
      split
      · next hst _ =>
        refine Stands.noteChange (hless.rest_idle hr ?_ ?_ fun r' hr' => ?_) b i
        · simp [RecState.atRest, hst]
        · exact isCandidate_eq_false hr (by simp [hst]) (by simp [hst]) (by simp [hst])
        · exact Option.some.inj hr' ▸ Allotment.toPending_rests _
      · next hst _ => exact hwait (.inl hst)
      · next hst _ => exact hwait (.inr hst)
      · exact hswitched
      · exact hswitched
      all_goals exact hless.restate hr rfl rfl id

/-! ## Quotas (R110, R111) -/

/-- The quota hold of a record whose quota is spent, where it was not promised of its quota (R111). -/
theorem quotaHold (h : Stands c (fun j => j ≠ i ∧ q j) f k s) (hr : s.record i = some r) (hspent : r.spent = true)
    (hk : k' → k ∨ (r.state = .pending ∨ r.state = .shed ∨ r.state = .granted ∨ r.state = .live))
    (hi : r.kind ≠ .saw) : Stands c q f k' (s.quotaHold i) := by
  have hat : ∀ {g l : Prop} {u : State} {p : Allotment}, Stands c (fun j => j ≠ i ∧ q j) g l u → u.record i = some p →
      (p.state ≠ .pending ∧ p.state ≠ .granted ∧ p.state ≠ .live) → Stands c q g l u :=
    fun hu hp hst => hu.spentAt fun p' hp' _ => Option.some.inj (hp.symm.trans hp') ▸ hst
  have hspares : s.Spares i := fun p hp => Option.some.inj (hr.symm.trans hp) ▸ hi
  have hopened : Stands c q f True (s.beginRelease true i (.held .quota) (some .quota)) :=
    ((hat (h.openRelease (f' := f) true (.held .quota) (some .quota) fun x => ⟨x, hspares⟩)
      (openRelease_swap hr ..).after_self ⟨by simp, by simp, by simp⟩).settleRelease true i).checkStrict
  simp only [State.quotaHold, hr, hspent, if_true]
  split
  · next hst =>
    refine Stands.weaken (k := True) (((hat (p := { r with state := .held .quota, reason := some .quota })
      (h.rest (k' := False) hr ?_ (fun r' hr' => ?_) False.elim) (record_setRecord_self ..) ?_).noteChange true
        i).checkStrict) id (fun _ => id) id fun _ => trivial
    · simp [RecState.atRest, hst]
    · exact Option.some.inj hr' ▸ ⟨⟨rfl, rfl⟩, by simp [RecState.atRest], fun _ => by simp⟩
    · exact ⟨by simp, by simp, by simp⟩
  · exact hopened.weaken id (fun _ => id) id fun _ => trivial
  · exact hopened.weaken id (fun _ => id) id fun _ => trivial
  · next hst =>
    exact (hat h hr ⟨by simp [hst], by simp [hst], by simp [hst]⟩).checkStrict.weaken id (fun _ => id) id fun _ => trivial
  all_goals
    next hst =>
    refine (hat h hr ⟨by simp [hst], by simp [hst], by simp [hst]⟩).weaken id (fun _ => id) id fun hk' => ?_
    simpa [hst] using hk hk'

/-- A record changed in place, then held where its quota is spent, keeps what stands (R110, R111). -/
theorem requota (h : Stands c q f k s) (w : Swap s t i r (some r')) (hst : r'.state = r.state)
    (htrim : r'.trimmed = r.trimmed) (hstrict : t.alt.strict = s.alt.strict) (hi : r'.spent = true → r.kind ≠ .saw) :
    Stands c q f k (t.quotaHold i) := by
  by_cases hs : r'.spent = true
  · have ht : Stands c (fun j => j ≠ i ∧ q j) f (k ∧ (s.isCandidate i = true → t.isCandidate i = true)) t := by
      refine h.swap w (fun j hj => .inl hj) (fun hf => ⟨hf, fun _ hlive hno => ⟨r', rfl, ?_, ?_⟩⟩)
        fun hk => h.strict_of_candidate hstrict hk.2 hk.1
      · exact hst.trans hlive
      · exact htrim.trans hno
    refine ht.quotaHold w.after_self hs (fun hk => ?_) ?_
    · rw [hst]
      by_cases hc : s.isCandidate i = true
      · exact .inr (by
          by_contra hno
          simp only [not_or] at hno
          rw [isCandidate_eq_false w.before hno.1 hno.2.1 fun hl => absurd hl hno.2.2.2] at hc
          cases hc)
      · exact .inl ⟨hk, fun hc' => absurd hc' hc⟩
    · exact (w.named r' rfl).2 ▸ hi hs
  · have hq : t.quotaHold i = t := by simp [State.quotaHold, w.after_self, hs]
    rw [hq]
    exact h.recast w hst htrim hstrict fun x => absurd x hs

theorem takeCount (h : Stands c q f k s) (hr : s.record i = some r)
    (he : (r'.target, r'.kind, r'.state, r'.share) = (r.target, r.kind, r.state, r.share))
    (htrim : r'.trimmed = r.trimmed) (hi : r.kind ≠ .saw) : Stands c q f k (s.takeCount i r r') := by
  have hst := congrArg (fun x => x.2.2.1) he
  refine h.requota (Swap.noteChange (h.swap_inPlace hr he) ..) hst htrim ?_ fun _ => hi
  rw [noteChange_strict]
  rfl

/-! ## The saw record's passages -/

theorem sawWant (h : Stands c q f k s) (want : Bool) : Stands c q False k (s.sawWant want) := by
  unfold State.sawWant
  split
  · exact h.weaken id (fun _ => id) False.elim id
  · exact h.setWanted true want False.elim

/-- The trim back takes the promise of a LIVE untrimmed saw record away, and nothing else (R26). -/
theorem trimBack (h : Stands c q f k s) : Stands c q False k s.trimBack := by
  have hless : Stands c q False k s := h.weaken id (fun _ => id) False.elim id
  unfold State.trimBack
  split
  · exact hless
  · next i hi =>
    obtain ⟨p, hp, hkind⟩ := sawSlot_some hi
    split
    · next r hr =>
      split
      · next hlive =>
        refine Stands.ballastStep (Stands.noteChange ?_ true i) _ _
        have hno : s.isCandidate i = false := by
          simp only [State.isCandidate, hr, hlive.1, hlive.2]
          cases r.kind <;> simp
        refine hless.swap (hless.swap_inPlace hr (r' := { r with trimmed := true, reason := some .trimmed }) rfl)
          (fun j hj => ?_) (fun x => x.elim) fun hk => hless.strict_of_candidate rfl (fun hc => ?_) hk
        · by_cases e : j = i
          · subst e
            exact .inr ⟨rfl, fun p hp => Option.some.inj hp ▸ h.spent j hj r hr⟩
          · exact .inl ⟨e, hj⟩
        · rw [hno] at hc
          cases hc
      · exact hless
    · exact hless

/-- A saw fault at ALT releases the saw record: no LIVE untrimmed one is promised (R18). -/
theorem sawFaultAtAlt (h : Stands c q f k s) : Stands c q False k s.sawFaultAtAlt := by
  have hless : Stands c q False k s := h.weaken id (fun _ => id) False.elim id
  unfold State.sawFaultAtAlt
  split
  · exact hless
  · split
    · exact hless
    · next i _ _ r hr =>
      have hdrop : Stands c q False k (s.setRecord i (some { r with wanted := false })) := hless.restate hr rfl rfl id
      split
      iterate 2 exact (hdrop.beginRelease _ _ _ False.elim).weaken id (fun _ => id) id fun _ => trivial
      iterate 2 exact hless.setWanted _ _ False.elim
      all_goals exact hdrop

end Stands

end Sys2Proof.Machine
end

section
/-! SUPPORT. What SAW's acts do to the feed, the saw record's switch and the strict slot: the feed steps forward only in
FEEDING, and FEEDING is entered only with the saw record LIVE and untrimmed. -/

namespace Sys2Proof.Machine

-- One body after another: hypotheses with a default proof would else hold a thread each.
set_option Elab.async false

/-! ## SAW after its small acts -/

@[simp] theorem enterSaw_saw (s : State) (st : SawState) : (s.enterSaw st).saw = { s.saw with st } := by
  unfold State.enterSaw
  split
  · next h => rw [← h]
  · rfl

@[simp] theorem setCutWanted_saw (s : State) (want : Bool) :
    (s.setCutWanted want).saw = { s.saw with cutWanted := want } := by
  rw [State.setCutWanted, checkStrict_saw]
  rfl

@[simp] theorem clearCutWanted_saw (s : State) : s.clearCutWanted.saw = { s.saw with cutWanted := false } := by
  unfold State.clearCutWanted
  split
  · exact setCutWanted_saw s false
  · next h =>
    have hfalse : s.saw.cutWanted = false := by simpa using h
    rw [← hfalse]

theorem Saw.still_of_idle {w : Saw} (h : w.feed = .idle) : w.Still := fun _ _ e => by
  rw [h] at e
  cases e

theorem Saw.Still.congr {w w' : Saw} (h : w.Still) (e : w'.feed = w.feed) : w'.Still := fun rate left e' =>
  h rate left (e ▸ e')

/-- The saw record is LIVE and untrimmed as SAW reads it (R160). -/
theorem cutting_of_sawCutting {s : State} (h : s.sawCutting = true) : s.Cutting := by
  unfold State.sawCutting at h
  split at h
  · next r hr =>
    unfold State.sawRecord at hr
    obtain ⟨i, hi, hir⟩ := Option.bind_eq_some_iff.mp hr
    obtain ⟨p, hp, hkind⟩ := sawSlot_some hi
    obtain rfl := Option.some.inj (hir.symm.trans hp)
    simp only [Bool.and_eq_true, beq_iff_eq, Bool.not_eq_true'] at h
    exact ⟨i, r, hir, hkind, h.1, h.2⟩
  · cases h

/-- The sequencer is in FEEDING. -/
abbrev State.Fed (s : State) : Prop := s.saw.st = .feeding

namespace Stands

variable {c : Prop} {q : Slot → Prop} {f k : Prop} {s : State}

/-- Outside FEEDING nothing is promised of the saw record. -/
theorem fed (h : Stands c q f k s) (hst : s.saw.st ≠ .feeding) : Stands c q s.Fed k s :=
  h.weaken id (fun _ => id) (fun e => absurd e hst) id

/-- A LIVE untrimmed saw record at hand. -/
theorem promise (h : Stands c q f k s) (hc : s.Cutting) : Stands c q True k s :=
  { h with cutting := fun _ => hc }

theorem feeding (h : Stands c q True k s) : Stands c q s.Fed k s := h.weaken id (fun _ => id) (fun _ => trivial) id

/-- An update of SAW after which the feed does not step forward. -/
theorem onSaw_still (h : Stands c q f k s) {g : Saw → Saw} (hstill : (g s.saw).Still)
    (hcut : (g s.saw).cutWanted = s.saw.cutWanted) : Stands c q f k (s.onSaw g) where
  targets := h.targets
  kinds := h.kinds
  relays := h.relays
  clutch := h.clutch
  granted := h.granted
  spent := h.spent
  forward rate left e := absurd e (hstill rate left)
  cutting := h.cutting
  strict hk i hi := by
    have := h.strict hk i hi
    simpa only [State.isCandidate, onSaw_saw, hcut, record_onSaw] using this

/-- An update of SAW that stays in FEEDING. -/
theorem onSaw_feeding (h : Stands c q f k s) {g : Saw → Saw} (hst : (g s.saw).st = .feeding)
    (hcut : (g s.saw).cutWanted = s.saw.cutWanted) : Stands c q f k (s.onSaw g) where
  targets := h.targets
  kinds := h.kinds
  relays := h.relays
  clutch := h.clutch
  granted := h.granted
  spent := h.spent
  forward _ _ _ := hst
  cutting := h.cutting
  strict hk i hi := by
    have := h.strict hk i hi
    simpa only [State.isCandidate, onSaw_saw, hcut, record_onSaw] using this

theorem setCutWanted (h : Stands c q f k s) (want : Bool) : Stands c q f True (s.setCutWanted want) :=
  Stands.checkStrict (k := False)
    ⟨h.targets, h.kinds, h.relays, h.clutch, h.granted, h.spent, h.forward, h.cutting, False.elim⟩

theorem clearCutWanted (h : Stands c q f k s) : Stands c q f k s.clearCutWanted := by
  unfold State.clearCutWanted
  split
  · exact (h.setCutWanted false).weaken id (fun _ => id) id fun _ => trivial
  · exact h

theorem enterSaw (h : Stands c q f k s) (hstill : s.saw.Still) (st : SawState) : Stands c q f k (s.enterSaw st) := by
  unfold State.enterSaw
  split
  · exact h
  · exact (h.onSaw_still (hstill.congr rfl) rfl).raise _

/-! ## Faults -/

theorem sawFault (h : Stands c q f k s) (cause : FaultCause) :
    Stands c q (s.sawFault cause).Fed k (s.sawFault cause) := by
  unfold State.sawFault
  split
  · next hst => exact h.fed (by rw [hst]; exact fun e => nomatch e)
  · have hstop := ((h.onSaw_still (g := Saw.stopMotion) (Saw.still_of_idle rfl) rfl).clearCutWanted.onSaw
      (g := Saw.dropPhase) rfl).sawFaultAtAlt
    refine Stands.fed ((hstop.enterSaw (Saw.still_of_idle ?_) .fault).onSaw (g := fun w => { w with cause }) rfl) ?_
    · simp [Saw.dropPhase, Saw.stopMotion]
    · simp

/-! ## Feeding -/

theorem enterFeeding (h : Stands c q True k s) (hstill : s.saw.Still) : Stands c q s.enterFeeding.Fed k s.enterFeeding := by
  have hin : Stands c q True k (s.clearCutWanted.enterSaw .feeding) :=
    h.clearCutWanted.enterSaw (hstill.congr (by simp)) .feeding
  have hst : (s.clearCutWanted.enterSaw .feeding).saw.st = .feeding := by simp
  have hend : ∀ {u : State}, Stands c q True k u → u.saw.st = .feeding →
      Stands c q (if u.active .fwdLimit then u.sawFault .fwdLimit else u.onSaw fun w => w.setFeedRate u.strokeRate).Fed k
        (if u.active .fwdLimit then u.sawFault .fwdLimit else u.onSaw fun w => w.setFeedRate u.strokeRate) := by
    intro u hu hust
    split
    · exact hu.sawFault _
    · exact (hu.onSaw_feeding hust rfl).feeding
  simp only [State.enterFeeding]
  generalize s.clearCutWanted.enterSaw .feeding = u at hin hst
  cases u.saw.stroke with
  | some _ => exact hend hin hst
  | none =>
    refine hend (hin.onSaw ?_) hst
    rfl

theorem enterFeedWait (h : Stands c q f k s) (hstill : s.saw.Still) :
    Stands c q s.enterFeedWait.Fed k s.enterFeedWait := by
  have hin : Stands c q f k ((s.enterSaw .feedWait).onSaw fun w => { w with setting := none }) :=
    (h.enterSaw hstill .feedWait).onSaw rfl
  simp only [State.enterFeedWait]
  split
  · next hc => exact (hin.promise (cutting_of_sawCutting hc)).enterFeeding (hstill.congr (by simp))
  · exact ((hin.setCutWanted true).weaken id (fun _ => id) id fun _ => trivial).fed (by simp)

/-! ## Settings -/

theorem beginSettle (h : Stands c q f k s) (hst : s.saw.st ≠ .feeding) : Stands c q s.beginSettle.Fed k s.beginSettle := by
  simp only [State.beginSettle]
  split
  · exact Stands.enterFeedWait (h.onSaw rfl) ((h.still hst).congr rfl)
  · exact ((h.onSaw rfl).onSaw rfl).fed hst

theorem beginSetWait (h : Stands c q f k s) (hst : s.saw.st ≠ .feeding) :
    Stands c q s.beginSetWait.Fed k s.beginSetWait := by
  simp only [State.beginSetWait]
  split
  · exact Stands.beginSettle (h.onSaw rfl) hst
  · exact (h.onSaw rfl).fed hst

theorem beginSetMove (h : Stands c q f k s) (hst : s.saw.st ≠ .feeding) (steps : Nat) :
    Stands c q (s.beginSetMove steps).Fed k (s.beginSetMove steps) := by
  simp only [State.beginSetMove]
  split
  · exact Stands.beginSetWait (h.onSaw rfl) hst
  · exact ((h.onSaw rfl).onSaw rfl).fed hst

theorem enterSetting (h : Stands c q f k s) (hstill : s.saw.Still) : Stands c q s.enterSetting.Fed k s.enterSetting :=
  (h.enterSaw hstill .setting).beginSetMove (by simp) _

theorem beginOrder (h : Stands c q f k s) (hstill : s.saw.Still) : Stands c q s.beginOrder.Fed k s.beginOrder := by
  unfold State.beginOrder
  split
  · exact h.enterFeedWait hstill
  · exact h.enterSetting hstill

/-! ## Returns -/

theorem enterReleasing (h : Stands c q f k s) (hstill : s.saw.Still) :
    Stands c q s.enterReleasing.Fed k s.enterReleasing := by
  refine (h.enterSaw hstill _).fed ?_
  rw [enterSaw_saw]
  dsimp only
  split <;> simp

theorem afterReturn (h : Stands c q f k s) (hstill : s.saw.Still) (kind : ReturnKind) :
    Stands c q (s.afterReturn kind).Fed k (s.afterReturn kind) := by
  have hwork : Stands c q (if (s.saw.cuts.isEmpty || s.saw.stopFlag) = true then (s.sawWant false).enterReleasing
      else s.beginOrder).Fed k (if (s.saw.cuts.isEmpty || s.saw.stopFlag) = true then (s.sawWant false).enterReleasing
      else s.beginOrder) := by
    split
    · exact (h.sawWant false).enterReleasing (hstill.congr (by simp))
    · exact h.beginOrder hstill
  cases kind with
  | abort => exact h.enterReleasing hstill
  | stroke => exact hwork
  | homing => exact hwork

theorem arriveHome (h : Stands c q f k s) (kind : ReturnKind) :
    Stands c q (s.arriveHome kind).Fed k (s.arriveHome kind) :=
  Stands.afterReturn (h.onSaw_still (Saw.still_of_idle rfl) rfl) (Saw.still_of_idle rfl) kind

theorem enterReturning (h : Stands c q f k s) (hstill : s.saw.Still) (kind : ReturnKind) :
    Stands c q (s.enterReturning kind).Fed k (s.enterReturning kind) := by
  have hin := h.enterSaw hstill .returning
  simp only [State.enterReturning]
  split
  · exact Stands.arriveHome (hin.onSaw rfl) kind
  · split
    · exact Stands.sawFault (hin.onSaw rfl) _
    · refine Stands.fed (Stands.onSaw_still (hin.onSaw rfl) (fun _ _ e => ?_) rfl) (by simp)
      cases e

theorem strokeEnd (h : Stands c q f k s) : Stands c q s.strokeEnd.Fed k s.strokeEnd := by
  have hstop : Stands c q f k (s.onSaw fun w => { w with feed := .idle, feedRate := 0 }) :=
    h.onSaw_still (Saw.still_of_idle rfl) rfl
  simp only [State.strokeEnd]
  split
  · refine Stands.enterReturning (hstop.trimBack.clearCutWanted.onSaw rfl) (Saw.still_of_idle ?_) _
    simp
  · exact hstop.sawFault _

/-! ## What reaches SAW -/

theorem sawPublication (h : Stands c q s.Fed k s) (regulating : Bool) (fMeas : Nat) :
    Stands c q (s.sawPublication regulating fMeas).Fed k (s.sawPublication regulating fMeas) := by
  simp only [State.sawPublication]
  generalize (if regulating = true then scaleOf fMeas (s.param .fSet) (s.param .feedBand) else 0) = scale
  have hscale : Stands c q (s.onSaw fun w => { w with scale }).Fed k (s.onSaw fun w => { w with scale }) := h.onSaw rfl
  generalize (s.onSaw fun w => { w with scale }) = u at hscale
  have hrate : u.saw.st = .feeding → Stands c q (u.onSaw fun w => w.setFeedRate u.strokeRate).Fed k
      (u.onSaw fun w => w.setFeedRate u.strokeRate) := fun hst => hscale.onSaw_feeding hst rfl
  split
  · next hst =>
    split
    · exact hrate hst
    · exact (hrate hst).sawFault _
  · split
    · exact hscale
    · exact hscale.sawFault _

theorem sawGovReport (h : Stands c q s.Fed k s) (regulating : Bool) :
    Stands c q (s.sawGovReport regulating).Fed k (s.sawGovReport regulating) := by
  unfold State.sawGovReport
  split
  · exact h
  · by_cases hst : s.saw.st = .feeding
    · have e : (s.onSaw fun w => if w.st = .feeding then { w with scale := 0 }.setFeedRate 0 else { w with scale := 0 }) =
          s.onSaw fun w => { w with scale := 0 }.setFeedRate 0 := by simp [State.onSaw, hst]
      exact e ▸ h.onSaw_feeding hst rfl
    · have e : (s.onSaw fun w => if w.st = .feeding then { w with scale := 0 }.setFeedRate 0 else { w with scale := 0 }) =
          s.onSaw fun w => { w with scale := 0 } := by simp [State.onSaw, hst]
      exact e ▸ h.onSaw rfl

/-! ## Halts and spin-up -/

theorem halt_still (w : Saw) : w.halt.Still := Saw.still_of_idle (by unfold Saw.halt; split <;> rfl)

theorem enterHalted (h : Stands c q f k s) : Stands c q s.enterHalted.Fed k s.enterHalted := by
  refine Stands.fed ((h.clearCutWanted.onSaw_still (halt_still _) ?_).enterSaw ?_ .halted) (by simp [State.enterHalted])
  · unfold Saw.halt
    split <;> rfl
  · exact halt_still _

theorem enterSpinup (h : Stands c q f k s) (hstill : s.saw.Still) : Stands c q s.enterSpinup.Fed k s.enterSpinup :=
  ((h.enterSaw hstill .spinup).onSaw rfl).fed (by simp)

theorem resumeSetting (h : Stands c q f k s) (hstill : s.saw.Still) :
    Stands c q s.resumeSetting.Fed k s.resumeSetting := by
  have hin := h.enterSaw hstill .setting
  have hst : (s.enterSaw .setting).saw.st ≠ .feeding := by simp
  simp only [State.resumeSetting]
  split
  · split
    · exact hin.beginSetMove hst _
    · exact hin.beginSetWait hst
    · exact hin.beginSettle hst
  · exact hin.fed hst

theorem resume (h : Stands c q f k s) (hstill : s.saw.Still) (p : Phase) : Stands c q (s.resume p).Fed k (s.resume p) := by
  have hin : Stands c q f k (s.onSaw fun w => { w with remembered := none }) := h.onSaw rfl
  cases p with
  | setting => exact hin.resumeSetting hstill
  | feedWait => exact hin.enterFeedWait hstill
  | returning kind => exact hin.enterReturning hstill kind

theorem spunUp (h : Stands c q f k s) (hst : s.saw.st ≠ .feeding) : Stands c q s.spunUp.Fed k s.spunUp := by
  have hin : Stands c q f k (s.onSaw fun w => { w with spinTimer := none }) := h.onSaw rfl
  have hstill := h.still hst
  simp only [State.spunUp]
  split
  · exact hin.resume hstill _
  · split
    · exact hin.beginOrder hstill
    · exact hin.enterReturning hstill _

/-! ## The notices -/

theorem noticeLive (h : Stands c q s.Fed k s) : Stands c q s.noticeLive.Fed k s.noticeLive := by
  unfold State.noticeLive
  split
  · next hst => exact h.enterSpinup (h.still (by rcases hst with e | e <;> simp [e]))
  · exact h

theorem noticeTrim (h : Stands c q f k s) : Stands c q s.noticeTrim.Fed k s.noticeTrim := by
  unfold State.noticeTrim
  split
  · exact Stands.enterFeedWait (h.onSaw_still (Saw.still_of_idle rfl) rfl) (Saw.still_of_idle rfl)
  · next hst => exact h.fed hst

theorem noticeUntrim (h : Stands c q True k s) : Stands c q s.noticeUntrim.Fed k s.noticeUntrim := by
  unfold State.noticeUntrim
  split
  · next hst => exact h.enterFeeding (h.still (by simp [hst]))
  · exact h.trimBack.noticeTrim

/-- A release toward SHED or HELD takes SAW out of FEEDING (R167, R168). -/
theorem noticeRelease (h : Stands c q f k s) {d : Dest} (hd : (d = .shed ∨ ∃ x, d = .held x) ∨ s.saw.st ≠ .feeding) :
    Stands c q (s.noticeRelease d).Fed k (s.noticeRelease d) := by
  have hhalt : ∀ {u : State}, u = s → Stands c q
      (match u.saw.st with
        | .spinup | .setting | .feedWait | .feeding => u.enterHalted
        | .returning => if u.saw.aborting then u else u.enterHalted
        | .idle | .claiming | .halted | .releasing | .fault => u).Fed k
      (match u.saw.st with
        | .spinup | .setting | .feedWait | .feeding => u.enterHalted
        | .returning => if u.saw.aborting then u else u.enterHalted
        | .idle | .claiming | .halted | .releasing | .fault => u) := by
    intro u hu
    subst hu
    split
    iterate 4 exact h.enterHalted
    · next hst =>
      split
      · exact h.fed (by simp [hst])
      · exact h.enterHalted
    all_goals next hst => exact h.fed (by simp [hst])
  cases d with
  | shed => exact hhalt rfl
  | held x => exact hhalt rfl
  | idle => exact h.fed (by simpa using hd)
  | vacant => exact h.fed (by simpa using hd)

theorem noticeLeftReleasing (h : Stands c q s.Fed k s) : Stands c q s.noticeLeftReleasing.Fed k s.noticeLeftReleasing := by
  unfold State.noticeLeftReleasing
  split
  · next hst => exact (h.enterSaw (h.still (by simp [hst])) .idle).fed (by simp)
  · exact h

end Stands

end Sys2Proof.Machine
end

section
/-! SUPPORT. ALT's acts that SAW hears of keep what stands: releases, the clutch waits, reconciliation, accrual, sheds and
admission. -/

namespace Sys2Proof.Machine

-- One body after another: hypotheses with a default proof would else hold a thread each.
set_option Elab.async false

/-- All stands, between acts: the strict slot holds a candidate, FEEDING goes with a LIVE untrimmed saw record. -/
abbrev Sound (c : Prop) (q : Slot → Prop) (s : State) : Prop := Stands c q s.Fed True s

/-- Acts over a list keep what each keeps. -/
theorem foldl_keeps {α : Type} {P : State → Prop} {f : State → α → State} (hf : ∀ (t : State) (a : α), P t → P (f t a))
    (l : List α) {s : State} (h : P s) : P (l.foldl f s) := by
  induction l generalizing s with
  | nil => exact h
  | cons a l ih => exact ih (hf s a h)

/-! ## Changes of one record, by their switch -/

namespace Swap

variable {s t : State} {i : Slot} {r : Allotment} {x : Option Allotment}

theorem ballastStep (w : Swap s t i r x) (d : StepDir) (n : Nat) : Swap s (t.ballastStep d n) i r x :=
  ⟨w.before, w.after, w.named, w.relays, w.clutch, w.wait, w.gOut, w.saw⟩

theorem spendHeadroom (w : Swap s t i r x) (j : Slot) (n : Nat) : Swap s (t.spendHeadroom j n) i r x :=
  ⟨w.before, w.after, w.named, w.relays, w.clutch, w.wait, w.gOut, w.saw⟩

theorem giveMark (w : Swap s t i r x) (cls : MarkClass) (u : UnitIx) : Swap s (t.giveMark cls u) i r x :=
  ⟨w.before, w.after, w.named, w.relays, w.clutch, w.wait, w.gOut, w.saw⟩

end Swap

/-- A slot stored is read back, and no other changed. -/
theorem record_of_slots {s t : State} {i : Slot} {x : Option Allotment} (h : t.alt.slots = s.alt.slots.set i x) (j : Slot) :
    t.record j = if j = i then x else s.record j := by
  unfold State.record
  rw [h]
  split
  · next e => rw [e, vector_get_set_self]
  · next e => rw [vector_get_set_ne _ _ e]

/-- A field record has no switch of its own: its change leaves relays and clutch (R25). -/
theorem swap_field {s t : State} {i : Slot} {r : Allotment} {x : Option Allotment} (hr : s.record i = some r)
    {u : UnitIx} {o : Outlet} (hg : r.target = .field u o)
    (hnamed : ∀ r', x = some r' → r'.target = r.target ∧ r'.kind = r.kind)
    (hslots : t.alt.slots = s.alt.slots.set i x)
    (hface : (t.alt.relays, t.alt.clutch, t.alt.wait, t.saw) = (s.alt.relays, s.alt.clutch, s.alt.wait, s.saw))
    (hgOut : t.alt.gOut = s.alt.gOut + counted x - counted (some r)) : Swap s t i r x := by
  simp only [Prod.mk.injEq] at hface
  obtain ⟨hrelays, hclutch, hwait, hsaw⟩ := hface
  refine ⟨hr, record_of_slots hslots, hnamed, fun n => ?_, ?_, fun w hw => .inl ⟨?_, hwait ▸ hw⟩, hgOut, hsaw⟩
  · rw [hg, if_neg (by simp), hrelays]
  · rw [hg, if_neg (by simp), hclutch]
  · simp [hg]

namespace Stands

variable {c : Prop} {q : Slot → Prop} {f k : Prop} {s t : State} {i : Slot} {r r' : Allotment} {x : Option Allotment}

/-- A record that is no candidate and no LIVE saw record passes to one that may rest. -/
theorem pass (h : Stands c q f k s) (w : Swap s t i r x) (hstrict : t.alt.strict = s.alt.strict)
    (hno : s.isCandidate i = false) (hsaw : r.state = .live → r.kind ≠ .saw) (hx : q i → ∀ r', x = some r' → r'.mayRest) :
    Stands c q f k t := by
  refine h.swap w (fun j hj => ?_) (fun hf => ⟨hf, fun hk hlive _ => absurd hk (hsaw hlive)⟩) fun hk =>
    h.strict_of_candidate hstrict (fun hc => ?_) hk
  · by_cases e : j = i
    · exact .inr ⟨e, hx (e ▸ hj)⟩
    · exact .inl ⟨e, hj⟩
  · rw [hno] at hc
    cases hc

/-- A GRANTED record confirmed LIVE (R20 to R25). -/
theorem confirm (h : Stands c q f k s) (w : Swap s t i r (some r')) (hstrict : t.alt.strict = s.alt.strict)
    (hst : r.state = .granted) (hsame : r'.spent = r.spent) : Stands c q f k t := by
  refine h.pass w hstrict (isCandidate_eq_false w.before (by simp [hst]) (by simp [hst]) (by simp [hst]))
    (by simp [hst]) fun hq p hp hs => ?_
  obtain rfl := Option.some.inj hp
  exact absurd hst (h.spent i hq r w.before (hsame ▸ hs)).2.1

/-- A field record is not the saw record (1.1.4). -/
theorem kind_of_field (h : Stands c q f k s) (hr : s.record i = some r) {u : UnitIx} {o : Outlet}
    (hg : r.target = .field u o) : r.kind ≠ .saw := fun hk => by
  have := (h.kinds i r hr).mp hk
  rw [hg] at this
  cases this

/-- The promise of FEEDING read in a state with the same SAW. -/
theorem refed (h : Stands c q s.Fed k t) (e : t.saw = s.saw) : Stands c q t.Fed k t := by
  have : t.Fed = s.Fed := by rw [State.Fed, State.Fed, e]
  rw [this]
  exact h

end Stands

namespace Sound

variable {c : Prop} {q : Slot → Prop} {s : State} {i : Slot} {r : Allotment}

/-! ## Releases -/

theorem tellSaw {k : Prop} {notice : State → State} (h : Stands c q s.Fed k s)
    (hn : Stands c q (notice s).Fed k (notice s)) : Stands c q (s.tellSaw i notice).Fed k (s.tellSaw i notice) := by
  unfold State.tellSaw
  split
  · split
    · exact hn
    · exact h
  · exact h

theorem release (h : Sound c q s) {d : Dest} (hd : ((d = .shed ∨ ∃ x, d = .held x) ∨ s.saw.st ≠ .feeding) ∨ s.Spares i) (b : Bool)
    (reason : Option Reason) : Sound c q (s.release b i d reason) := by
  have hopened : Stands c q ((s.openRelease b i d reason).tellSaw i fun s => s.noticeRelease d).Fed False
      ((s.openRelease b i d reason).tellSaw i fun s => s.noticeRelease d) := by
    by_cases hspare : s.Spares i
    · have hsame : (s.openRelease b i d reason).tellSaw i (fun s => s.noticeRelease d) = s.openRelease b i d reason := by
        unfold State.tellSaw
        split
        · next p hp =>
          cases hr : s.record i with
          | none => simp [State.openRelease, hr] at hp
          | some r =>
            rw [(Stands.openRelease_swap hr ..).after_self] at hp
            rw [if_neg (Option.some.inj hp ▸ hspare r hr)]
        · rfl
      rw [hsame]
      exact (h.openRelease b d reason fun hf => ⟨hf, hspare⟩).refed (openRelease_saw ..)
    · have hless := h.openRelease (f' := False) b (i := i) d reason False.elim
      unfold State.tellSaw
      split
      · next p hp =>
        rw [if_pos]
        · exact hless.noticeRelease (by rw [openRelease_saw]; exact hd.resolve_right hspare)
        · cases hr : s.record i with
          | none => simp [State.openRelease, hr] at hp
          | some r =>
            rw [(Stands.openRelease_swap hr ..).after_self] at hp
            have hsaw : r.kind = .saw := by
              by_contra hk
              exact hspare fun p hp => Option.some.inj (hr.symm.trans hp) ▸ hk
            exact Option.some.inj hp ▸ hsaw
      · next hnone =>
        refine absurd (fun r hr => ?_) hspare
        rw [(Stands.openRelease_swap hr ..).after_self] at hnone
        cases hnone
  simp only [State.release]
  generalize (s.openRelease b i d reason).tellSaw i (fun s => s.noticeRelease d) = u at hopened
  have hsettled := (hopened.settleRelease b i).refed (settleRelease_saw ..)
  refine (Stands.checkStrict (tellSaw hsettled ?_)).refed (checkStrict_saw _)
  split
  · exact hsettled
  · exact hsettled.noticeLeftReleasing

/-! ## The clutch waits -/

/-- In an engagement wait the saw record is GRANTED, with the clutch for its target (R23). -/
theorem granted_of_engage (h : Sound c q s) {left : Nat} (hw : s.alt.wait = some (.engage left)) (hi : s.sawSlot = some i)
    (hr : s.record i = some r) : r.kind = .saw ∧ r.target = .clutch ∧ r.state = .granted := by
  obtain ⟨p, hp, hkind⟩ := sawSlot_some hi
  obtain rfl := Option.some.inj (hr.symm.trans hp)
  have hg := (h.kinds i r hr).mp hkind
  exact ⟨hkind, hg, h.wait_fits hr hg hw⟩

theorem confirmClutch (h : Sound c q s) {left : Nat} (hw : s.alt.wait = some (.engage left)) :
    Sound c q s.confirmClutch := by
  simp only [State.confirmClutch]
  split
  · exact h
  · next i hi =>
    split
    · exact h
    · next r hr =>
      obtain ⟨hkind, hg, hst⟩ := h.granted_of_engage hw hi hr
      have w : Swap s (((s.setRecord i (some { r with state := .live, reason := some .confirmed })).subGranted
          r.share).onAlt fun a => { a with wait := none }) i r
          (some { r with state := .live, reason := some .confirmed }) := by
        refine ⟨hr, record_of_slots rfl, fun p hp => Option.some.inj hp ▸ ⟨rfl, rfl⟩, fun n => ?_, ?_, fun _ e => (nomatch e),
          ?_, rfl⟩
        · rw [hg, if_neg (by simp)]
          rfl
        · rw [hg, if_pos rfl]
          exact (h.clutch_eq hr hg).trans (by simp [switched, hst])
        · simp [counted, hst, State.subGranted, State.onAlt, State.setRecord]
      exact Stands.noticeLive ((h.confirm (w.noteChange true i) rfl hst rfl).ballastStep _ _)

theorem clutchIn (h : Sound c q s) : Sound c q s.clutchIn := by
  unfold State.clutchIn
  split
  · next hw => exact h.confirmClutch hw
  · exact h
  · exact h

theorem completeSawRelease (h : Sound c q s) (withStep : Bool) : Sound c q (s.completeSawRelease withStep) := by
  unfold State.completeSawRelease
  split
  · exact h
  · exact ((h.completeRelease true withStep _).refed (completeRelease_saw ..)).noticeLeftReleasing

theorem clutchOut (h : Sound c q s) : Sound c q s.clutchOut := by
  unfold State.clutchOut
  split
  · exact h.completeSawRelease true
  · exact h
  · exact h

theorem clutchFails (h : Sound c q s) {left : Nat} (hw : s.alt.wait = some (.engage left)) :
    Sound c q s.clutchFails := by
  simp only [State.clutchFails]
  split
  · exact h
  · next i hi =>
    split
    · exact h
    · next r hr =>
      obtain ⟨hkind, hg, hst⟩ := h.granted_of_engage hw hi hr
      have w : Swap s (((s.setRecord i (some { r with state := .held .refused, reason := some .refused })).subGranted
          r.share).onAlt fun a => { a with clutch := false, wait := none }) i r
          (some { r with state := .held .refused, reason := some .refused }) := by
        refine ⟨hr, record_of_slots rfl, fun p hp => Option.some.inj hp ▸ ⟨rfl, rfl⟩, fun n => ?_, ?_, fun _ e => (nomatch e),
          ?_, rfl⟩
        · rw [hg, if_neg (by simp)]
          rfl
        · rw [hg, if_pos rfl]
          rfl
        · simp [counted, hst, State.subGranted, State.onAlt, State.setRecord]
      refine Stands.sawFault (h.pass (w.noteChange true i) rfl ?_ (by simp [hst]) fun _ p hp _ => ?_) _
      · exact isCandidate_eq_false hr (by simp [hst]) (by simp [hst]) (by simp [hst])
      · exact Option.some.inj hp ▸ ⟨by simp, by simp, by simp⟩

theorem clutchSticks (h : Sound c q s) : Sound c q s.clutchSticks := (h.completeSawRelease false).sawFault _

/-! ## Accrual and counts -/

theorem takeCount {r' : Allotment} (h : Sound c q s) (hr : s.record i = some r)
    (he : (r'.target, r'.kind, r'.state, r'.share) = (r.target, r.kind, r.state, r.share))
    (htrim : r'.trimmed = r.trimmed) (hi : r.kind ≠ .saw) : Sound c q (s.takeCount i r r') := by
  refine Stands.refed (Stands.takeCount h hr he htrim hi) ?_
  simp [State.takeCount]

theorem accrueSlot (h : Sound c q s) (period : Nat) (i : Slot) : Sound c q (State.accrueSlot period s i) := by
  unfold State.accrueSlot
  split
  · exact h
  · next r hr =>
    split
    · next hlive =>
      refine h.takeCount hr ?_ ?_ fun hk => ?_
      · unfold Allotment.accrue
        dsimp only
        split <;> rfl
      · unfold Allotment.accrue
        dsimp only
        split <;> rfl
      · rw [(h.kinds i r hr).mp hk] at hlive
        exact Bool.false_ne_true hlive.2
    · exact h

end Sound

end Sys2Proof.Machine
end

section
/-! SUPPORT. Sheds, admission, reconciliation and what the inputs bring keep what stands. -/

namespace Sys2Proof.Machine

-- One body after another: hypotheses with a default proof would else hold a thread each.
set_option Elab.async false

/-! ## Candidates (R41) -/

/-- What a candidate is: its quota not spent, and waiting, or the LIVE trimmed saw record that cut power is wanted for. -/
theorem candidate_cases {s : State} {i : Slot} (h : s.isCandidate i = true) :
    ∃ r, s.record i = some r ∧ r.spent = false ∧
      ((r.state = .pending ∨ r.state = .shed) ∨ (r.state = .live ∧ r.kind = .saw ∧ r.trimmed = true)) := by
  unfold State.isCandidate at h
  split at h
  · cases h
  · next r hr =>
    simp only [Bool.and_eq_true, Bool.not_eq_true'] at h
    refine ⟨r, hr, h.1, ?_⟩
    have hkind := h.2
    split at hkind
    · exact .inl (by simpa using hkind)
    · exact .inl (.inl (by simpa using hkind))
    · next hk =>
      simp only [Bool.or_eq_true, Bool.and_eq_true, beq_iff_eq] at hkind
      rcases hkind with hwait | ⟨⟨hlive, htrim⟩, -⟩
      · exact .inl hwait
      · exact .inr ⟨hlive, hk, htrim⟩

/-- The starve count is no part of candidacy. -/
theorem isCandidate_passOver {s : State} {i : Slot} {r : Allotment} (hr : s.record i = some r) (j : Slot) :
    (s.passOver i r).isCandidate j = s.isCandidate j := by
  have hsaw : (s.passOver i r).saw = s.saw := rfl
  by_cases e : j = i
  · subst e
    simp only [State.isCandidate, State.passOver, record_setRecord_self, hr, setRecord_saw]
    rfl
  · simp only [State.isCandidate, hsaw]
    rw [State.passOver, record_setRecord_ne _ _ e]

/-- The strict slot after an admission is no longer the admitted one (R44). -/
theorem strict_spent {s : State} {i j : Slot}
    (h : (if s.alt.strict = some i then none else s.alt.strict) = some j) : j ≠ i ∧ s.alt.strict = some j := by
  split at h
  · cases h
  · next hne => exact ⟨fun e => hne (e ▸ h), h⟩

namespace Sound

variable {c : Prop} {q : Slot → Prop} {s : State} {i : Slot} {r : Allotment}

/-! ## Sheds -/

theorem shedOne (h : Sound c q s) (i : Slot) : Sound c q (s.shedOne i) := by
  simp only [State.shedOne]
  split
  · split
    · exact h.trimBack.noticeTrim.onAlt rfl
    · exact Stands.onAlt (h.release (.inl (.inl (.inl rfl))) true _) rfl
  · exact Stands.onAlt h rfl

theorem shedJudgement (h : Sound c q s) (p : Publication) : Sound c q (s.shedJudgement p) := by
  have hlow : Sound c q (s.onAlt fun a => { a with lowCount := if p.low = true then min 255 (a.lowCount + 1) else 0 }) :=
    Stands.onAlt h rfl
  simp only [State.shedJudgement]
  split
  · generalize State.onAlt s _ = u at hlow ⊢
    split
    · split
      · exact shedOne hlow _
      · exact hlow
    · exact hlow
  · exact Stands.onAlt h rfl

/-- A waiting record shed: it rests still (R39). -/
theorem shedWaiting (h : Sound c q s) (hr : s.record i = some r) (hst : r.state = .pending) (hk : r.kind ≠ .critical)
    (reason : Reason) : Sound c q (s.setRecord i (some { r with state := .shed, reason := some reason })) := by
  refine Stands.rest h hr (by simp [RecState.atRest, hst]) (fun r' hr' => ?_) fun _ => ⟨trivial, fun hc => ?_⟩
  · exact Option.some.inj hr' ▸ ⟨⟨rfl, rfl⟩, by simp [RecState.atRest], fun _ => by simp⟩
  · simp only [State.isCandidate, hr, hst] at hc
    simp only [State.isCandidate, record_setRecord_self, Allotment.spent] at hc ⊢
    cases hkind : r.kind
    · simpa [hkind] using hc
    · exact absurd hkind hk
    · simpa [hkind] using hc

theorem shedAllSlot (h : Sound c q s) (reason : Reason) (i : Slot) : Sound c q (State.shedAllSlot reason s i) := by
  simp only [State.shedAllSlot]
  split
  · exact h
  · next r hr =>
    split
    · exact h
    · next hk =>
      split
      · exact h.release (.inl (.inl (.inl rfl))) true _
      · exact h.release (.inl (.inl (.inl rfl))) true _
      · next hst =>
        have hshed : Sound c q ((s.setRecord i (some { r with state := .shed, reason := some reason })).noteChange true i) :=
          (h.shedWaiting hr hst hk reason).congr rfl
        split
        · exact Stands.giveMark hshed _ _
        · exact hshed
        · exact hshed
      all_goals exact h

theorem shedAll (h : Sound c q s) (reason : Reason) : Sound c q (s.shedAll reason) := by
  have hslots := foldl_keeps (P := Sound c q) (fun _ i ht => shedAllSlot ht reason i) allSlots h
  simp only [State.shedAll]
  generalize allSlots.foldl (State.shedAllSlot reason) s = u at hslots
  exact Stands.congr hslots rfl

/-! ## Admission -/

/-- A waiting candidate's record is changed to one that may rest, and the strict slot gives it up (R44). -/
theorem grantedInPlace {t : State} {r' : Allotment} (h : Sound c q s) (w : Swap s t i r (some r'))
    (hwait : r.state = .pending ∨ r.state = .shed) (hspent : r'.spent = false)
    (hstrict : t.alt.strict = if s.alt.strict = some i then none else s.alt.strict) : Sound c q t := by
  refine Stands.refed (Stands.swap h w (Stands.spent_of_mayRest fun p hp hs => ?_) (fun hf => ⟨hf, fun _ hlive _ => ?_⟩)
    fun hk j hj => ?_) w.saw
  · rw [Option.some.inj hp] at hspent
    simp [hspent] at hs
  · rcases hwait with e | e <;> simp [e] at hlive
  · rw [hstrict] at hj
    obtain ⟨hne, hs⟩ := strict_spent hj
    exact .inl ⟨hne, hk, hs⟩

/-- A GRANTED record's switch ordered closed (R21, R23, R25): `g` is the state with the record stored and its share counted. -/
theorem orderClosed (h : Sound c q s) (hr : s.record i = some r) (hwait : r.state = .pending ∨ r.state = .shed)
    {g : State} {r' : Allotment} (hrec : g.alt.slots = s.alt.slots.set i (some r'))
    (hsame : r'.target = r.target ∧ r'.kind = r.kind ∧ r'.share = r.share ∧ r'.spent = false) (hst : r'.state = .granted)
    (hface : (g.alt.relays, g.alt.clutch, g.alt.wait, g.saw) = (s.alt.relays, s.alt.clutch, s.alt.wait, s.saw))
    (hgOut : g.alt.gOut = s.alt.gOut + r.share)
    (hstrict : g.alt.strict = if s.alt.strict = some i then none else s.alt.strict) : Sound c q (g.orderClosed i r') := by
  have hoff : switched (some r) = false := by rcases hwait with e | e <;> simp [switched, e]
  have hzero : counted (some r) = 0 := counted_of_ne (by rcases hwait with e | e <;> simp [e])
  obtain ⟨htarget, hkind, hshare, hspent⟩ := hsame
  have hnamed : ∀ p, some r' = some p → p.target = r.target ∧ p.kind = r.kind :=
    fun p hp => Option.some.inj hp ▸ ⟨htarget, hkind⟩
  have hsum : g.alt.gOut = s.alt.gOut + counted (some r') - counted (some r) := by
    rw [hzero, hgOut, Nat.sub_zero]
    simp [counted, hst, hshare]
  unfold State.orderClosed
  split
  · next n hg =>
    rw [htarget] at hg
    simp only [Prod.mk.injEq] at hface
    obtain ⟨hrelays, hclutch, hclwait, hsaw⟩ := hface
    have w : Swap s (((g.onAlt fun a => { a with relays := a.relays.set n true }).setRecord i
        (some { r' with state := .live, reason := some .confirmed })).subGranted r'.share) i r
        (some { r' with state := .live, reason := some .confirmed }) := by
      refine ⟨hr, record_of_slots ?_, fun p hp => Option.some.inj hp ▸ ⟨htarget, hkind⟩, fun m => ?_, ?_,
        fun w hw => .inl ⟨by simp [hg], hclwait ▸ hw⟩, ?_, hsaw⟩
      · show g.alt.slots.set i _ = _
        rw [hrec, Vector.set_set]
      · show (g.alt.relays.set n true).get m = _
        rw [hrelays, hg]
        by_cases e : m = n
        · subst e
          rw [if_pos rfl, vector_get_set_self]
          rfl
        · rw [if_neg fun x => e (Target.relay.inj x).symm, vector_get_set_ne _ _ e]
      · rw [hg, if_neg (by simp)]
        exact hclutch
      · show g.alt.gOut - r'.share = _
        rw [hgOut, hshare, hzero, Nat.add_sub_cancel]
        simp [counted]
    exact Stands.ballastStep (h.grantedInPlace w hwait hspent hstrict) _ _
  · next hg =>
    rw [htarget] at hg
    simp only [Prod.mk.injEq] at hface
    obtain ⟨hrelays, hclutch, hclwait, hsaw⟩ := hface
    have w : Swap s (g.onAlt fun a => { a with clutch := true, wait := some (.engage (g.param .clutchTimeout * 1000)) }) i r
        (some r') := by
      refine ⟨hr, record_of_slots hrec, hnamed, fun m => ?_, ?_, fun w hw => .inr ⟨hg, r', rfl, ?_⟩, hsum, hsaw⟩
      · rw [hg, if_neg (by simp)]
        exact congrArg (·.get m) hrelays
      · rw [hg, if_pos rfl]
        simp [switched, hst]
      · obtain rfl := Option.some.inj hw
        exact hst
    have hgranted := h.grantedInPlace w hwait hspent hstrict
    dsimp only
    split
    · exact clutchIn hgranted
    · exact hgranted
  · next u o hg =>
    exact Stands.giveMark (h.grantedInPlace (swap_field hr (htarget.symm.trans hg) hnamed hrec hface hsum) hwait hspent hstrict) _ _

theorem grant (h : Sound c q s) (hr : s.record i = some r) (hspent : r.spent = false)
    (hwait : r.state = .pending ∨ r.state = .shed) : Sound c q (s.grant i r) :=
  h.orderClosed hr hwait rfl ⟨rfl, rfl, rfl, hspent⟩ rfl rfl rfl rfl

theorem untrim (h : Sound c q s) (hr : s.record i = some r) (hspent : r.spent = false) (hlive : r.state = .live)
    (hk : r.kind = .saw) : Sound c q (s.untrim i r) := by
  have w : Swap s ((((s.setRecord i (some { r with trimmed := false, reason := some .untrimmed, starve := 0 })).noteChange
      true i).ballastStep .down r.cutShare).spendHeadroom i r.need) i r
      (some { r with trimmed := false, reason := some .untrimmed, starve := 0 }) :=
    (((h.swap_inPlace hr (r' := { r with trimmed := false, reason := some .untrimmed, starve := 0 }) rfl).noteChange true
      i).ballastStep _ _).spendHeadroom _ _
  have hless : Stands c q False True ((((s.setRecord i (some { r with trimmed := false, reason := some .untrimmed, starve := 0 })).noteChange
      true i).ballastStep .down r.cutShare).spendHeadroom i r.need) := by
    refine Stands.swap h w (Stands.spent_of_mayRest fun p hp hs => ?_) False.elim fun hk j hj => ?_
    · obtain rfl := Option.some.inj hp
      have : r.spent = true := hs
      simp [hspent] at this
    · obtain ⟨hne, hs⟩ := strict_spent (s := s) hj
      exact .inl ⟨hne, hk, hs⟩
  exact (hless.promise ⟨i, _, w.after_self, hk, hlive, rfl⟩).noticeUntrim

theorem serve (h : Sound c q s) (hc : s.isCandidate i = true) (hr : s.record i = some r) : Sound c q (s.serve i r) := by
  obtain ⟨p, hp, hspent, hcase⟩ := candidate_cases hc
  obtain rfl := Option.some.inj (hr.symm.trans hp)
  unfold State.serve
  rcases hcase with hwait | ⟨hlive, hk, -⟩
  · rw [if_neg (by rcases hwait with e | e <;> simp [e])]
    exact h.grant hr hspent hwait
  · rw [if_pos hlive]
    exact h.untrim hr hspent hlive hk

theorem passOver (h : Sound c q s) (hr : s.record i = some r) : Sound c q (s.passOver i r) :=
  Stands.restate h hr rfl rfl id

/-- First fit serves a candidate: passing others over takes no candidacy away (R43). -/
theorem firstFit {l : List Slot} (h : Sound c q s) (hl : ∀ i ∈ l, s.isCandidate i = true) : Sound c q (s.firstFit l) := by
  induction l generalizing s with
  | nil => exact h
  | cons i l ih =>
    obtain ⟨hi, hrest⟩ := List.forall_mem_cons.mp hl
    simp only [State.firstFit]
    split
    · exact ih h hrest
    · next r hr =>
      split
      · exact h.serve hi hr
      · exact ih (h.passOver hr) fun j hj => (isCandidate_passOver hr j).trans (hrest j hj)

theorem strictPass (h : Sound c q s) (hc : s.isCandidate i = true) : Sound c q (s.strictPass i) := by
  simp only [State.strictPass]
  split
  · exact h
  · next r hr =>
    split
    · exact h.serve hc hr
    · exact h.passOver hr

theorem admissionPass (h : Sound c q s) : Sound c q s.admissionPass := by
  simp only [State.admissionPass]
  split
  · next i hi => exact h.strictPass (h.strict trivial i hi)
  · split
    · next i hi =>
      have hc : s.isCandidate i = true := mem_candidates_iff.mp (List.mem_of_find?_eq_some hi)
      have hnew : Sound c q (s.onAlt fun a => { a with strict := some i }) :=
        { h with strict := fun _ j hj => Option.some.inj hj ▸ hc }
      exact strictPass hnew hc
    · exact h.firstFit fun i hi => mem_candidates_iff.mp hi

theorem countTimers (h : Sound c q s) (p : Publication) : Sound c q (s.countTimers p) := by
  unfold State.countTimers
  split
  · exact Stands.onAlt h rfl
  · exact h

theorem altPublication (h : Sound c q s) (p : Publication) : Sound c q (s.altPublication p) := by
  have hfold := foldl_keeps (P := Sound c q) (fun _ i ht => accrueSlot ht p.period i) allSlots (h.countTimers p)
  simp only [State.altPublication]
  generalize allSlots.foldl (State.accrueSlot p.period) (s.countTimers p) = u at hfold
  have hroom : Sound c q ((u.shedJudgement p).onAlt fun a => { a with headroom := p.spare - a.gOut }) :=
    Stands.onAlt (hfold.shedJudgement p) rfl
  split
  · exact admissionPass hroom
  · exact hroom

theorem publish (h : Sound c q s) (p : Publication) : Sound c q (s.publish p) :=
  (h.altPublication p).sawPublication _ _

theorem govReport (h : Sound c q s) : Sound c q s.govReport := by
  have hzero : Sound c q (s.onAlt fun a => { a with headroom := 0 }) := Stands.onAlt h rfl
  simp only [State.govReport]
  split
  · exact Stands.raise (Stands.sawGovReport h _) _
  · exact Stands.raise (Stands.sawGovReport hzero _) _

/-! ## The inputs -/

theorem fwdLimitActive (h : Sound c q s) : Sound c q s.fwdLimitActive := by
  unfold State.fwdLimitActive
  split
  · exact h.sawFault _
  · exact h

theorem revLimitActive (h : Sound c q s) : Sound c q s.revLimitActive := by
  unfold State.revLimitActive
  split
  · exact h.sawFault _
  · exact h

theorem setDoneActive (h : Sound c q s) : Sound c q s.setDoneActive := by
  unfold State.setDoneActive
  split
  · next hset =>
    simp only [State.inSetWait, Bool.and_eq_true, beq_iff_eq] at hset
    exact h.beginSettle (by simp [hset.1])
  · exact h

theorem sawGuard (h : Sound c q s) : Sound c q s.sawGuard := by
  unfold State.sawGuard
  split
  · exact h
  · exact h.sawFault _

theorem homeMark (h : Sound c q s) : Sound c q s.homeMark := by
  unfold State.homeMark
  split
  · exact h.arriveHome _
  · exact h

/-! ## Replies of the units -/

theorem takeDemand (h : Sound c q s) (u : UnitIx) (o : Outlet) (on : Bool) : Sound c q (s.takeDemand u o on) := by
  unfold State.takeDemand
  split
  · exact h
  · next i hi =>
    obtain ⟨p, hp, hg⟩ := slotOf_some hi
    split
    · next r hr =>
      split
      · exact h
      · refine Stands.refed (Stands.setWanted h true on fun hf => ⟨hf, fun r' hr' => ?_⟩) (setWanted_saw ..)
        obtain rfl := Option.some.inj (hp.symm.trans hr')
        exact h.kind_of_field hp hg
    · exact h

theorem confirmField (h : Sound c q s) (hr : s.record i = some r) {u : UnitIx} {o : Outlet} (hg : r.target = .field u o)
    (hst : r.state = .granted) : Sound c q (s.confirmField i r) := by
  have w : Swap s (((s.setRecord i (some { r with state := .live, reason := some .confirmed })).noteChange true
      i).subGranted r.share) i r (some { r with state := .live, reason := some .confirmed }) := by
    refine swap_field hr hg (fun p hp => Option.some.inj hp ▸ ⟨rfl, rfl⟩) rfl rfl ?_
    simp [counted, hst, State.subGranted, State.onAlt, State.setRecord, State.noteChange]
  exact Stands.ballastStep (Stands.refed (h.confirm w rfl hst rfl) rfl) _ _

theorem refuseField (h : Sound c q s) (hr : s.record i = some r) {u : UnitIx} {o : Outlet} (hg : r.target = .field u o)
    (hst : r.state = .granted) : Sound c q (s.refuseField i r) := by
  have w : Swap s (((s.setRecord i (some { r with state := .held .refused, reason := some .refused })).noteChange true
      i).subGranted r.share) i r (some { r with state := .held .refused, reason := some .refused }) := by
    refine swap_field hr hg (fun p hp => Option.some.inj hp ▸ ⟨rfl, rfl⟩) rfl rfl ?_
    simp [counted, hst, State.subGranted, State.onAlt, State.setRecord, State.noteChange]
  refine Stands.refed (h.pass w rfl (isCandidate_eq_false hr (by simp [hst]) (by simp [hst]) (by simp [hst]))
    (by simp [hst]) fun _ p hp _ => ?_) rfl
  exact Option.some.inj hp ▸ ⟨by simp, by simp, by simp⟩

theorem unitOpened (h : Sound c q s) (hr : s.record i = some r) {u : UnitIx} {o : Outlet} (hg : r.target = .field u o)
    (hst : r.state = .live) : Sound c q (s.unitOpened i r) := by
  have hk := h.kind_of_field hr hg
  have hopen : ∀ r' : Allotment, (r'.target = r.target ∧ r'.kind = r.kind) ∧ r'.state.atRest ∧ r'.mayRest →
      Sound c q (((s.setRecord i (some r')).noteChange true i).ballastStep .up r.claim) := by
    intro r' ⟨hnamed, hrest, hmay⟩
    have w : Swap s ((s.setRecord i (some r')).noteChange true i) i r (some r') := by
      refine swap_field hr hg (fun p hp => Option.some.inj hp ▸ hnamed) rfl rfl ?_
      rw [counted_of_ne hrest.1, counted_of_ne (by simp [hst])]
      rfl
    exact Stands.ballastStep (Stands.refed (h.pass w rfl (isCandidate_eq_false hr (by simp [hst]) (by simp [hst])
      fun _ => hk) (fun _ => hk) fun _ p hp => Option.some.inj hp ▸ hmay) rfl) _ _
  simp only [State.unitOpened]
  split
  · exact hopen _ (Allotment.toPending_rests _)
  · exact hopen _ ⟨⟨rfl, rfl⟩, by simp [RecState.atRest], fun _ => by simp⟩

theorem completeRelease (h : Sound c q s) (b withStep : Bool) (i : Slot) : Sound c q (s.completeRelease b withStep i) :=
  Stands.refed (Stands.completeRelease h b withStep i) (completeRelease_saw ..)

theorem reconcileStatus (h : Sound c q s) (u : UnitIx) (o : Outlet) (closed : Bool) :
    Sound c q (s.reconcileStatus u o closed) := by
  simp only [State.reconcileStatus]
  split
  · exact h
  · next i hi =>
    obtain ⟨p, hp, hg⟩ := slotOf_some hi
    split
    · exact h
    · next r hr =>
      obtain rfl := Option.some.inj (hp.symm.trans hr)
      split
      · next hst => exact h.confirmField hr hg hst
      · next hst => exact h.unitOpened hr hg hst
      · exact h.completeRelease _ _ _
      all_goals exact h

theorem reconcileApplied (h : Sound c q s) (u : UnitIx) (o : Outlet) (sent closed : Bool) :
    Sound c q (s.reconcileApplied u o sent closed) := by
  simp only [State.reconcileApplied]
  split
  · exact h
  · next i hi =>
    obtain ⟨p, hp, hg⟩ := slotOf_some hi
    split
    · exact h
    · next r hr =>
      obtain rfl := Option.some.inj (hp.symm.trans hr)
      split
      · next hst => exact h.confirmField hr hg hst
      · next hst =>
        split
        · exact h.refuseField hr hg hst
        · exact h
      · next hst => exact h.unitOpened hr hg hst
      · exact Stands.giveMark h _ _
      · exact h.completeRelease _ _ _
      all_goals exact h

theorem altApplied (h : Sound c q s) (u : UnitIx) (n : Nat) (sent applied : BitVec 4) :
    Sound c q (s.altApplied u n sent applied) :=
  foldl_keeps (P := Sound c q) (fun _ o ht => reconcileApplied ht u o _ _) _ h

theorem takeMeter (h : Sound c q s) (u : UnitIx) (rebooted : Bool) (o : Outlet) (count : Half) :
    Sound c q (s.takeMeter u rebooted o count) := by
  simp only [State.takeMeter]
  split
  · exact Stands.onFlc h _
  · next i hi =>
    obtain ⟨p, hp, hg⟩ := slotOf_some hi
    split
    · next r hr =>
      obtain rfl := Option.some.inj (hp.symm.trans hr)
      exact Stands.onFlc (h.takeCount hr (r' := p.charge _) rfl rfl (h.kind_of_field hr hg)) _
    · exact Stands.onFlc h _

theorem altStatus (h : Sound c q s) (u : UnitIx) (n : Nat) (k : StatusReport) : Sound c q (s.altStatus u n k) := by
  have hrest : ∀ {t : State}, Sound c q t → Sound c q ((outletsBelow n).foldl
      (fun s o => s.takeMeter u k.rebooted o (k.counts.get o)) ((outletsBelow n).foldl
        (fun s o => s.reconcileStatus u o (k.closed.getLsbD o.val)) t)) := fun ht =>
    foldl_keeps (P := Sound c q) (fun _ o hv => takeMeter hv u _ o _) _
      (foldl_keeps (P := Sound c q) (fun _ o hv => reconcileStatus hv u o _) _ ht)
  simp only [State.altStatus]
  split
  · exact hrest (foldl_keeps (P := Sound c q) (fun _ o hv => takeDemand hv u o _) _ h)
  · exact hrest h

end Sound

end Sys2Proof.Machine
end

section
/-! SUPPORT. The requests' own changes of records, the soft restart, the reset and the passing of time keep what stands. -/

namespace Sys2Proof.Machine

-- One body after another: hypotheses with a default proof would else hold a thread each.
set_option Elab.async false

/-! ## The state after reset -/

/-- Every slot is VACANT after reset (R1). -/
@[simp] theorem reset_record (i : Slot) : State.reset.record i = none := by
  simp [State.record, State.reset, Alt.reset, Vector.get]

/-- Every relay is open after reset (R20). -/
@[simp] theorem reset_relay (n : Fin Config.relays) : State.reset.alt.relays.get n = false := by
  simp [State.reset, Alt.reset, Vector.get]

theorem reset_sound (c : Prop) (q : Slot → Prop) : Sound c q State.reset where
  targets i j r r' hr := by simp at hr
  kinds i r hr := by simp at hr
  relays n := by simp
  clutch := by
    refine ⟨⟨fun h => (nomatch h), ?_⟩, fun left h => (nomatch h), fun left h => (nomatch h)⟩
    rintro ⟨i, r, hr, -⟩
    simp at hr
  granted _ := by
    rw [grantedOk_iff]
    simp only [reset_record, counted, Finset.sum_const_zero]
    rfl
  spent i _ r hr := by simp at hr
  forward rate left h := nomatch h
  cutting h := nomatch h
  strict _ i h := nomatch h

/-! ## Balances of an amended record (R8) -/

theorem balanceAmend_same (s : State) (r r' : Allotment) :
    ((s.balanceAmend r r').alt.slots, (s.balanceAmend r r').alt.relays, (s.balanceAmend r r').alt.clutch,
      (s.balanceAmend r r').alt.wait, (s.balanceAmend r r').alt.strict, (s.balanceAmend r r').saw) =
    (s.alt.slots, s.alt.relays, s.alt.clutch, s.alt.wait, s.alt.strict, s.saw) := by
  have hstep : ∀ (u : State) (a b : Nat), (u.stepDifference a b).alt = u.alt ∧ (u.stepDifference a b).saw = u.saw := by
    intro u a b
    unfold State.stepDifference
    split <;> exact ⟨rfl, rfl⟩
  unfold State.balanceAmend
  split
  · rfl
  · split
    · dsimp only
      split
      · rw [(hstep ..).1, (hstep ..).2]
      · rw [(hstep ..).1, (hstep ..).2, (hstep ..).1, (hstep ..).2]
    · rw [(hstep ..).1, (hstep ..).2]
  all_goals rfl

theorem balanceAmend_gOut (s : State) {r r' : Allotment} (hst : r'.state = r.state) :
    (s.balanceAmend r r').alt.gOut = s.alt.gOut + counted (some r') - counted (some r) := by
  have hstep : ∀ (u : State) (a b : Nat), (u.stepDifference a b).alt = u.alt := by
    intro u a b
    unfold State.stepDifference
    split <;> rfl
  unfold State.balanceAmend
  split
  · next h => simp [counted, hst, h, State.onAlt]
  · next h =>
    rw [counted_of_ne (by simp [hst, h]), counted_of_ne (by simp [h])]
    split
    · dsimp only
      split
      · rw [hstep]
        rfl
      · rw [hstep, hstep]
        rfl
    · rw [hstep]
      rfl
  all_goals
    next h =>
    rw [counted_of_ne (by simp [hst, h]), counted_of_ne (by simp [h])]
    rfl

namespace Sound

variable {c : Prop} {q : Slot → Prop} {s : State} {i : Slot} {r r' : Allotment}

/-! ## Records stored by requests -/

/-- A record stored IDLE in a VACANT slot, its target named by none (R6). -/
theorem place (h : Sound c q s) (hi : s.record i = none) (htarget : ∀ j p, s.record j = some p → p.target ≠ r.target)
    (hkind : r.kind = .saw ↔ r.target = .clutch) (hst : r.state = .idle) : Sound c q (s.setRecord i (some r)) := by
  have hcases : ∀ {j p}, (s.setRecord i (some r)).record j = some p → (j = i ∧ r = p) ∨ s.record j = some p := by
    intro j p hp
    by_cases e : j = i
    · subst e
      exact .inl ⟨rfl, Option.some.inj ((record_setRecord_self ..).symm.trans hp)⟩
    · exact .inr ((record_setRecord_ne _ _ e).symm.trans hp)
  have hold : ∀ {j p}, s.record j = some p → (s.setRecord i (some r)).record j = some p := by
    intro j p hp
    rw [record_setRecord_ne]
    · exact hp
    · rintro rfl
      rw [hi] at hp
      cases hp
  have hon : ∀ g, (∃ j p, (s.setRecord i (some r)).record j = some p ∧ p.target = g ∧
      (p.state = .granted ∨ p.state = .live)) ↔
      ∃ j p, s.record j = some p ∧ p.target = g ∧ (p.state = .granted ∨ p.state = .live) := by
    refine fun g => ⟨fun ⟨j, p, hp, hrest⟩ => ?_, fun ⟨j, p, hp, hrest⟩ => ⟨j, p, hold hp, hrest⟩⟩
    rcases hcases hp with ⟨-, rfl⟩ | hs
    · simp [hst] at hrest
    · exact ⟨j, p, hs, hrest⟩
  refine ⟨?_, ?_, fun n => (h.relays n).trans (hon _).symm, ?_, fun hc => ?_, ?_, h.forward, fun hf => ?_, fun _ j hj => ?_⟩
  · intro j k p p' hp hp' hg
    rcases hcases hp with ⟨hj, rfl⟩ | hs <;> rcases hcases hp' with ⟨hk, rfl⟩ | hs'
    · rw [hj, hk]
    · exact absurd hg.symm (htarget k p' hs')
    · exact absurd hg (htarget j p hs)
    · exact h.targets j k p p' hs hs' hg
  · intro j p hp
    rcases hcases hp with ⟨-, rfl⟩ | hs
    · exact hkind
    · exact h.kinds j p hs
  · obtain ⟨hclutch, hengage, hrelease⟩ := h.clutch
    refine ⟨hclutch.trans (hon _).symm, fun left hw => ?_, fun left hw => ?_⟩
    · obtain ⟨j, p, hp, hrest⟩ := hengage left hw
      exact ⟨j, p, hold hp, hrest⟩
    · obtain ⟨j, p, d, hp, hrest⟩ := hrelease left hw
      exact ⟨j, p, d, hold hp, hrest⟩
  · rw [grantedOk_iff]
    refine (grantedOk_iff.mp (h.granted hc)).trans (Finset.sum_congr rfl fun j _ => ?_)
    by_cases e : j = i
    · subst e
      rw [record_setRecord_self, hi, counted_of_ne (by simp [hst])]
      rfl
    · rw [record_setRecord_ne _ _ e]
  · intro j hj p hp
    rcases hcases hp with ⟨-, rfl⟩ | hs
    · exact fun _ => by simp [hst]
    · exact h.spent j hj p hs
  · obtain ⟨j, p, hp, hrest⟩ := h.cutting hf
    exact ⟨j, p, hold hp, hrest⟩
  · have hc := h.strict trivial j hj
    obtain ⟨p, hp, -⟩ := candidate_cases hc
    simp only [State.isCandidate, hp] at hc
    simp only [State.isCandidate, hold hp, setRecord_saw]
    exact hc

/-- A record at rest leaves its slot VACANT (R9). -/
theorem vacate (h : Sound c q s) (hr : s.record i = some r) (hrest : r.state.atRest) :
    Sound c q (((s.setRecord i none).forgetChange i).checkStrict) :=
  Stands.refed (s := s) (Stands.checkStrict ((Stands.rest (x := none) (k' := False) h hr hrest
    (fun _ e => (nomatch e)) False.elim).forgetChange
    i)) (checkStrict_saw _)

/-- A waiting record is HELD by the host (R16). -/
theorem holdWaiting (h : Sound c q s) (hr : s.record i = some r) (hrest : r.state.atRest) :
    Sound c q ((s.setRecord i (some { r with state := .held .host })).checkStrict) := by
  refine Stands.refed (s := s) (Stands.checkStrict (Stands.rest (k' := False) h hr hrest (fun p hp => ?_) False.elim))
    (checkStrict_saw _)
  exact Option.some.inj hp ▸ ⟨⟨rfl, rfl⟩, by simp [RecState.atRest], fun _ => by simp⟩

/-- A releasing record is sent elsewhere (R9, R16). -/
theorem redirect (h : Sound c q s) (hr : s.record i = some r) {d d' : Dest} (hd : r.state = .releasing d)
    (hnamed : r'.target = r.target ∧ r'.kind = r.kind) (hd' : r'.state = .releasing d') :
    Sound c q (s.setRecord i (some r')) := by
  have w : Swap s (s.setRecord i (some r')) i r (some r') := by
    refine h.swap_quiet hr (fun p hp => Option.some.inj hp ▸ hnamed) ?_ ?_ fun w hw => ⟨r', rfl, ?_⟩
    · rw [Bool.eq_iff_iff]
      simp [switched_iff, hd, hd']
    · simp [counted, hd, hd']
    · cases w with
      | engage left => exact absurd (hd.symm.trans hw) (by simp)
      | release left => exact ⟨d', hd'⟩
  refine h.pass w rfl (isCandidate_eq_false hr (by simp [hd]) (by simp [hd]) (by simp [hd])) (by simp [hd])
    fun _ p hp _ => ?_
  rw [← Option.some.inj hp, hd']
  exact ⟨by simp, by simp, by simp⟩

/-- A HELD record is freed (R17). -/
theorem freed (h : Sound c q s) (hr : s.record i = some r) {x : HoldReason} (hst : r.state = .held x) :
    Sound c q (s.setRecord i (some r.freed)) := by
  refine Stands.rest_idle h hr (by simp [RecState.atRest, hst])
    (isCandidate_eq_false hr (by simp [hst]) (by simp [hst]) (by simp [hst])) fun p hp => ?_
  obtain rfl := Option.some.inj hp
  unfold Allotment.freed
  split
  · exact Allotment.toPending_rests _
  · exact ⟨⟨rfl, rfl⟩, by simp [RecState.atRest], fun _ => by simp⟩

theorem quotaRelease (h : Sound c q s) (i : Slot) : Sound c q (s.quotaRelease i) := by
  unfold State.quotaRelease
  split
  · exact h
  · next r hr =>
    split
    · next hst =>
      refine Stands.congr (s := s.setRecord i (some { r with state := if r.wanted then .pending else .idle }))
        (Stands.rest_idle h hr (by simp [RecState.atRest, hst.1])
          (isCandidate_eq_false hr (by simp [hst.1]) (by simp [hst.1]) (by simp [hst.1])) fun p hp => ?_) rfl
      obtain rfl := Option.some.inj hp
      refine ⟨⟨rfl, rfl⟩, ?_, fun hs => ?_⟩
      · dsimp only
        split <;> exact ⟨by simp, by simp, by simp⟩
      · have : r.spent = true := hs
        simp [hst.2] at this
    · exact h

/-- An amended record, balanced, follows the quota rules (R7, R8, R112, R113). -/
theorem amended (h : Sound c q s) (hr : s.record i = some r)
    (he : (r'.target, r'.kind, r'.state, r'.trimmed, r'.used) = (r.target, r.kind, r.state, r.trimmed, r.used))
    (hi : r.kind = .saw → r'.quota = 0) : Sound c q (s.amended i r r') := by
  simp only [Prod.mk.injEq] at he
  obtain ⟨htarget, hkind, hst, htrim, hused⟩ := he
  have hsame := balanceAmend_same (s.setRecord i (some r')) r r'
  simp only [Prod.mk.injEq] at hsame
  obtain ⟨hslots, hrelays, hclutch, hwait, hstrict, hsaw⟩ := hsame
  have w : Swap s ((s.setRecord i (some r')).balanceAmend r r') i r (some r') := by
    refine ⟨hr, record_of_slots hslots, fun p hp => Option.some.inj hp ▸ ⟨htarget, hkind⟩, fun n => ?_, ?_,
      fun w hw => ?_, balanceAmend_gOut _ hst, hsaw⟩
    · rw [hrelays]
      split
      · next hg => exact (h.relay_eq hr hg).trans (by simp [switched, hst])
      · rfl
    · rw [hclutch]
      split
      · next hg => exact (h.clutch_eq hr hg).trans (by simp [switched, hst])
      · rfl
    · rw [hwait] at hw
      by_cases hg : r.target = .clutch
      · refine .inr ⟨hg, r', rfl, ?_⟩
        have hfit := h.wait_fits hr hg hw
        cases w <;> simpa [ClutchWait.fits, hst] using hfit
      · exact .inl ⟨hg, hw⟩
  simp only [State.amended]
  split
  · next hquota =>
    refine Stands.refed (Stands.recast h w hst htrim hstrict fun hs => ?_) hsaw
    simpa only [Allotment.spent, hquota, hused] using hs
  · refine quotaRelease (Stands.refed (Stands.requota h w hst htrim hstrict fun hs hk => ?_) ?_) i
    · simp [Allotment.spent, hi hk] at hs
    · rw [quotaHold_saw]
      exact hsaw

/-- A demand change of a record that is not the saw's (R14). -/
theorem setWanted (h : Sound c q s) (hr : s.record i = some r) (hk : r.kind ≠ .saw) (b want : Bool) :
    Sound c q (s.setWanted b i want) :=
  Stands.refed (Stands.setWanted h b want fun hf => ⟨hf, fun _ hp => Option.some.inj (hr.symm.trans hp) ▸ hk⟩)
    (setWanted_saw ..)

/-! ## The saw's requests -/

theorem sawRestart (h : Sound c q s) : Sound c q s.sawRestart := by
  have hstop : Stands c q False True (((s.onSaw Saw.stopMotion).clearCutWanted.onSaw fun w =>
      { w.dropPhase with stopFlag := false, cuts := [], nextNumber := 0 }).sawWant false) :=
    Stands.sawWant (Stands.onSaw (Stands.clearCutWanted (Stands.onSaw_still h (g := Saw.stopMotion) (Saw.still_of_idle rfl)
      rfl)) rfl) false
  have hfeed : (((s.onSaw Saw.stopMotion).clearCutWanted.onSaw fun w =>
      { w.dropPhase with stopFlag := false, cuts := [], nextNumber := 0 }).sawWant false).saw.feed = .idle := by
    simp [Saw.dropPhase, Saw.stopMotion]
  simp only [State.sawRestart]
  generalize ((s.onSaw Saw.stopMotion).clearCutWanted.onSaw fun w =>
      { w.dropPhase with stopFlag := false, cuts := [], nextNumber := 0 }).sawWant false = u at hstop hfeed
  refine Stands.fed (Stands.onSaw_still hstop (Saw.still_of_idle hfeed) rfl) ?_
  rw [onSaw_saw]
  dsimp only
  split <;> simp

theorem abortWork (h : Sound c q s) : Stands c q False True s.abortWork ∧ s.abortWork.saw.Still := by
  refine ⟨Stands.sawWant (Stands.onSaw (Stands.clearCutWanted (Stands.onSaw_still h (g := Saw.stopMotion)
    (Saw.still_of_idle rfl) rfl)) rfl) false, Saw.still_of_idle ?_⟩
  simp [State.abortWork, Saw.dropPhase, Saw.stopMotion]

theorem sawStart (h : Sound c q s) (hst : s.saw.st = .idle) :
    Sound c q (((s.onSaw fun w => { w with stopFlag := false }).enterSaw .claiming).sawWant true) := by
  refine Stands.fed (Stands.sawWant (Stands.enterSaw (Stands.onSaw h rfl) ?_ .claiming) true) (by simp)
  exact (h.still (by simp [hst])).congr rfl

theorem sawReset (h : Sound c q s) (hst : s.saw.st = .fault) :
    Sound c q ((s.enterSaw .idle).onSaw fun w => { w with stopFlag := false }) :=
  Stands.fed (Stands.onSaw (Stands.enterSaw h (h.still (by simp [hst])) .idle) rfl) (by simp)

/-! ## Time -/

theorem tick (h : Sound c q s) : Sound c q s.tick := by
  unfold State.tick
  split
  · exact h.congr rfl
  · refine ⟨h.targets, h.kinds, h.relays, ?_, h.granted, h.spent, fun rate left e => ?_, h.cutting, h.strict⟩
    · obtain ⟨hon, hengage, hrelease⟩ := h.clutch
      refine ⟨hon, fun left e => ?_, fun left e => ?_⟩
      all_goals
        obtain ⟨w, hw, hdown⟩ := Option.map_eq_some_iff.mp e
        cases w
        all_goals cases hdown
      · exact hengage _ hw
      · exact hrelease _ hw
    · have hdown : s.saw.feed.countDown = .stepping true rate left := e
      cases hfeed : s.saw.feed with
      | idle =>
        rw [hfeed] at hdown
        cases hdown
      | stepping fwd rate' left' =>
        rw [hfeed] at hdown
        cases hdown
        exact h.forward _ _ hfeed

end Sound

/-! ## The day turn (R114) -/

theorem Allotment.dayTurn_same (r : Allotment) :
    (r.dayTurn.target, r.dayTurn.kind, r.dayTurn.share, r.dayTurn.trimmed, r.dayTurn.used, r.dayTurn.quota) =
      (r.target, r.kind, r.share, r.trimmed, 0, r.quota) := by
  unfold Allotment.dayTurn
  split <;> rfl

/-- After the day turn no quota is spent. -/
theorem Allotment.dayTurn_spent (r : Allotment) : r.dayTurn.spent = false := by
  have h := r.dayTurn_same
  simp only [Prod.mk.injEq] at h
  simp only [Allotment.spent, h.2.2.2.2.1, Bool.and_eq_false_imp, decide_eq_true_eq, decide_eq_false_iff_not]
  omega

/-- The day turn moves a record only out of a quota hold, or to another destination of its release. -/
theorem Allotment.dayTurn_state (r : Allotment) :
    r.dayTurn.state = r.state ∨ r.state = .held .quota ∨ ∃ d d', r.state = .releasing d ∧ r.dayTurn.state = .releasing d' := by
  unfold Allotment.dayTurn
  split
  · next h => exact .inr (.inl h)
  · next h => exact .inr (.inr ⟨_, _, h, rfl⟩)
  all_goals exact .inl rfl

theorem record_dayTurn (s : State) (i : Slot) : (s.onAlt Alt.dayTurn).record i = (s.record i).map Allotment.dayTurn :=
  Vector.get_map ..

/-- The day turn grants, confirms and releases nothing. -/
theorem Allotment.dayTurn_iff (r : Allotment) :
    (r.dayTurn.state = .granted ↔ r.state = .granted) ∧ (r.dayTurn.state = .live ↔ r.state = .live) := by
  unfold Allotment.dayTurn
  split
  · next h =>
    rw [h]
    dsimp only
    split <;> simp
  all_goals simp_all

theorem Sound.dayTurn {c : Prop} {q : Slot → Prop} {s : State} (h : Sound c q s) : Sound c q (s.onAlt Alt.dayTurn) := by
  have hback : ∀ {j p}, (s.onAlt Alt.dayTurn).record j = some p → ∃ r, s.record j = some r ∧ r.dayTurn = p := by
    intro j p hp
    rw [record_dayTurn] at hp
    exact Option.map_eq_some_iff.mp hp
  have hforth : ∀ {j r}, s.record j = some r → (s.onAlt Alt.dayTurn).record j = some r.dayTurn := by
    intro j r hr
    rw [record_dayTurn, hr]
    rfl
  have hsame : ∀ r : Allotment, r.dayTurn.target = r.target ∧ r.dayTurn.kind = r.kind ∧ r.dayTurn.share = r.share ∧
      r.dayTurn.trimmed = r.trimmed := by
    intro r
    have := r.dayTurn_same
    simp only [Prod.mk.injEq] at this
    exact ⟨this.1, this.2.1, this.2.2.1, this.2.2.2.1⟩
  have hon : ∀ g, (∃ j p, (s.onAlt Alt.dayTurn).record j = some p ∧ p.target = g ∧
      (p.state = .granted ∨ p.state = .live)) ↔
      ∃ j p, s.record j = some p ∧ p.target = g ∧ (p.state = .granted ∨ p.state = .live) := by
    refine fun g => ⟨fun ⟨j, p, hp, hg, hst⟩ => ?_, fun ⟨j, p, hp, hg, hst⟩ => ⟨j, _, hforth hp, ?_, ?_⟩⟩
    · obtain ⟨r, hr, rfl⟩ := hback hp
      rw [(hsame r).1] at hg
      rw [r.dayTurn_iff.1, r.dayTurn_iff.2] at hst
      exact ⟨j, r, hr, hg, hst⟩
    · exact (hsame p).1.trans hg
    · rwa [p.dayTurn_iff.1, p.dayTurn_iff.2]
  refine ⟨?_, ?_, fun n => (h.relays n).trans (hon _).symm, ?_, fun hc => ?_, ?_, h.forward, fun hf => ?_, fun _ j hj => ?_⟩
  · intro j k p p' hp hp' hg
    obtain ⟨r, hr, rfl⟩ := hback hp
    obtain ⟨r', hr', rfl⟩ := hback hp'
    exact h.targets j k r r' hr hr' ((hsame r).1.symm.trans (hg.trans (hsame r').1))
  · intro j p hp
    obtain ⟨r, hr, rfl⟩ := hback hp
    rw [(hsame r).1, (hsame r).2.1]
    exact h.kinds j r hr
  · obtain ⟨hclutch, hengage, hrelease⟩ := h.clutch
    refine ⟨hclutch.trans (hon _).symm, fun left hw => ?_, fun left hw => ?_⟩
    · obtain ⟨j, p, hp, hg, hst⟩ := hengage left hw
      exact ⟨j, _, hforth hp, (hsame p).1.trans hg, p.dayTurn_iff.1.mpr hst⟩
    · obtain ⟨j, p, d, hp, hg, hst⟩ := hrelease left hw
      rcases p.dayTurn_state with e | e | ⟨-, d', -, e⟩
      · exact ⟨j, _, d, hforth hp, (hsame p).1.trans hg, e.trans hst⟩
      · rw [hst] at e
        cases e
      · exact ⟨j, _, d', hforth hp, (hsame p).1.trans hg, e⟩
  · rw [grantedOk_iff]
    refine (grantedOk_iff.mp (h.granted hc)).trans (Finset.sum_congr rfl fun j _ => ?_)
    cases hr : s.record j with
    | none =>
      rw [record_dayTurn, hr]
      rfl
    | some r => simp only [hforth hr, counted, r.dayTurn_iff.1, (hsame r).2.2.1]
  · intro j _ p hp hs
    obtain ⟨r, -, rfl⟩ := hback hp
    simp [r.dayTurn_spent] at hs
  · obtain ⟨j, p, hp, hk, hst, htrim⟩ := h.cutting hf
    exact ⟨j, _, hforth hp, (hsame p).2.1.trans hk, p.dayTurn_iff.2.mpr hst, (hsame p).2.2.2.trans htrim⟩
  · have hc := h.strict trivial j hj
    obtain ⟨p, hp, -, hcase⟩ := candidate_cases hc
    have hst : p.dayTurn.state = p.state := by
      rcases p.dayTurn_state with e | e | ⟨d, -, e, -⟩
      · exact e
      · simp [e] at hcase
      · simp [e] at hcase
    simp only [State.isCandidate, hp, Bool.and_eq_true] at hc
    simp only [State.isCandidate, hforth hp, p.dayTurn_spent, (hsame p).2.1, (hsame p).2.2.2, hst, Bool.not_false,
      Bool.true_and]
    exact hc.2

end Sys2Proof.Machine
end

section
/-! SUPPORT. The standing properties that hold each by itself: the parameters, the ballast, the spare, the gate, the cut
list, the identities, the targets, the kinds, the CRITICAL records. What an update of one block must do to keep them, and
that every piece of work does. -/

namespace Sys2Proof.Machine

-- One body after another: hypotheses with a default proof would else hold a thread each.
set_option Elab.async false

/-- The second state has each standing property that the first one has. -/
structure Stays (s t : State) : Prop where
  params : s.ParamsOk → t.ParamsOk
  ballast : s.BallastOk → t.BallastOk
  spare : s.SpareOk → t.SpareOk
  gate : s.GateOk → t.GateOk
  cuts : s.CutsOk → t.CutsOk
  identities : s.IdentitiesOk → t.IdentitiesOk
  targets : s.TargetsOk → t.TargetsOk
  kinds : s.KindsOk → t.KindsOk
  critical : s.CriticalOk → t.CriticalOk

theorem Stays.refl {s : State} : Stays s s := ⟨id, id, id, id, id, id, id, id, id⟩

theorem Stays.trans {s t u : State} (h : Stays s t) (h' : Stays t u) : Stays s u where
  params hs := h'.params (h.params hs)
  ballast hs := h'.ballast (h.ballast hs)
  spare hs := h'.spare (h.spare hs)
  gate hs := h'.gate (h.gate hs)
  cuts hs := h'.cuts (h.cuts hs)
  identities hs := h'.identities (h.identities hs)
  targets hs := h'.targets (h.targets hs)
  kinds hs := h'.kinds (h.kinds hs)
  critical hs := h'.critical (h.critical hs)

/-! ## Records -/

/-- Every record of the second state follows the first one's in its slot. -/
def RecordsFollow (s t : State) : Prop := ∀ i r', t.record i = some r' → s.Passes i r'

/-- Records that follow name no new target. -/
theorem RecordsFollow.targets {s t : State} (h : RecordsFollow s t) (hs : s.TargetsOk) : t.TargetsOk := by
  intro i j r r' hr hr' htarget
  obtain ⟨q, hq, hqt, -⟩ := h i r hr
  obtain ⟨q', hq', hqt', -⟩ := h j r' hr'
  exact hs i j q q' hq hq' (by rw [← hqt, ← hqt', htarget])

/-- Records that follow keep kind and target. -/
theorem RecordsFollow.kinds {s t : State} (h : RecordsFollow s t) (hs : s.KindsOk) : t.KindsOk := by
  intro i r hr
  obtain ⟨q, hq, hqt, hqk, -⟩ := h i r hr
  rw [hqt, hqk]
  exact hs i q hq

/-- Records that follow bring no CRITICAL record nearer to a shed. -/
theorem RecordsFollow.critical {s t : State} (h : RecordsFollow s t) (hs : s.CriticalOk) : t.CriticalOk := by
  intro i r hr
  obtain ⟨q, hq, -, -, hcrit⟩ := h i r hr
  exact hcrit (hs i q hq)

theorem Allotment.Follows.refl (r : Allotment) : r.Follows r := ⟨rfl, rfl, id⟩

/-- The same records follow. -/
theorem recordsFollow_of_slots_eq {s t : State} (h : t.alt.slots = s.alt.slots) : RecordsFollow s t := by
  intro i r hr
  refine ⟨r, ?_, Allotment.Follows.refl r⟩
  rw [State.record, ← h]
  exact hr

/-- One slot stored with a record that follows. -/
theorem recordsFollow_setRecord_some {s : State} {i : Slot} {r : Allotment} (h : s.Passes i r) :
    RecordsFollow s (s.setRecord i (some r)) := by
  intro j r' hr'
  by_cases e : j = i
  · subst e
    rw [record_setRecord_self] at hr'
    exact Option.some.inj hr' ▸ h
  · rw [record_setRecord_ne _ _ e] at hr'
    exact ⟨r', hr', Allotment.Follows.refl r'⟩

/-- One slot made VACANT. -/
theorem recordsFollow_setRecord_none (s : State) (i : Slot) : RecordsFollow s (s.setRecord i none) := by
  intro j r' hr'
  by_cases e : j = i
  · subst e
    rw [record_setRecord_self] at hr'
    cases hr'
  · rw [record_setRecord_ne _ _ e] at hr'
    exact ⟨r', hr', Allotment.Follows.refl r'⟩

/-- An update of ALT whose records follow keeps all. -/
theorem stays_onAlt {s : State} {f : Alt → Alt} (h : RecordsFollow s (s.onAlt f)) : Stays s (s.onAlt f) where
  params := id
  ballast := id
  spare := id
  gate := id
  cuts := id
  identities := id
  targets := h.targets
  kinds := h.kinds
  critical := h.critical

/-! ## The governor -/

/-- What an update of GOV must do for the ballast, the spare and the gate (R70, R78, R92). -/
structure Gov.Kept (params : Params) (g g' : Gov) : Prop where
  acc : g.bAcc ≤ 16 * params.get .bCap → g'.bAcc ≤ 16 * params.get .bCap
  duty : (¬ g.inControl → g.duty = 1023) → ¬ g'.inControl → g'.duty = 1023
  spare : (g.st ≠ .regulating → g.spare = 0) → g'.st ≠ .regulating → g'.spare = 0
  gate : g.gatePos ≤ params.get .gateSpan → g'.gatePos ≤ params.get .gateSpan

theorem stays_onGov {s : State} {f : Gov → Gov} (h : s.gov.Kept s.params (f s.gov)) : Stays s (s.onGov f) where
  params := id
  ballast hs := ⟨h.acc hs.1, h.duty hs.2⟩
  spare := h.spare
  gate := h.gate
  cuts := id
  identities := id
  targets := id
  kinds := id
  critical := id

theorem Gov.Kept.trans {params : Params} {g g' g'' : Gov} (h : g.Kept params g') (h' : g'.Kept params g'') :
    g.Kept params g'' :=
  ⟨fun x => h'.acc (h.acc x), fun x => h'.duty (h.duty x), fun x => h'.spare (h.spare x), fun x => h'.gate (h.gate x)⟩

/-- An update that leaves state, accumulator, duty, spare and position. -/
theorem Gov.kept_of_eq {params : Params} {g g' : Gov} (hst : g'.st = g.st := by exact Eq.refl _)
    (hacc : g'.bAcc = g.bAcc := by exact Eq.refl _) (hduty : g'.duty = g.duty := by exact Eq.refl _)
    (hspare : g'.spare = g.spare := by exact Eq.refl _) (hgate : g'.gatePos = g.gatePos := by exact Eq.refl _) :
    g.Kept params g' := by
  refine ⟨?_, ?_, ?_, ?_⟩ <;> simp only [Gov.inControl, hst, hacc, hduty, hspare, hgate] <;> exact id

/-- An update of the gate's position within its span. -/
theorem Gov.kept_of_gate {params : Params} {g g' : Gov}
    (hgate : g.gatePos ≤ params.get .gateSpan → g'.gatePos ≤ params.get .gateSpan)
    (hst : g'.st = g.st := by exact Eq.refl _) (hacc : g'.bAcc = g.bAcc := by exact Eq.refl _)
    (hduty : g'.duty = g.duty := by exact Eq.refl _) (hspare : g'.spare = g.spare := by exact Eq.refl _) :
    g.Kept params g' := by
  refine ⟨?_, ?_, ?_, hgate⟩ <;> simp only [Gov.inControl, hst, hacc, hduty, hspare] <;> exact id

/-- Entry into a state out of control: the ballast full, no spare (R70, R78). -/
theorem Gov.kept_enterIdle (params : Params) (g : Gov) (st : GovState) : g.Kept params (g.enterIdle st) :=
  ⟨id, fun _ _ => rfl, fun _ _ => rfl, id⟩

/-- The accumulator set within the bank (R70, R78). -/
theorem Gov.kept_setBallast {params : Params} {g : Gov} {b : Nat}
    (h : g.bAcc ≤ 16 * params.get .bCap → b ≤ 16 * params.get .bCap) : g.Kept params (g.setBallast params b) := by
  unfold Gov.setBallast
  split
  · next hst => exact ⟨h, fun _ hc => absurd (.inl hst) hc, fun _ hc => absurd hst hc, id⟩
  · exact ⟨h, id, id, id⟩

theorem Gov.kept_ballastStep (params : Params) (g : Gov) (d : StepDir) (w : Nat) :
    g.Kept params (g.ballastStep params d w) := by
  rcases ballastStep_cases g params d w with h | ⟨-, h⟩
  · rw [h]
    exact Gov.kept_of_eq
  · rw [h]
    exact Gov.kept_setBallast fun hacc => stepped_le d w g.bAcc _ hacc

/-! ## The unit table and the found list -/

/-- The same identities in the same places, and the same found list. -/
def Flc.SameIds (f f' : Flc) : Prop :=
  (∀ u, (f'.units.get u).map UnitEntry.identity = (f.units.get u).map UnitEntry.identity) ∧ f'.found = f.found

theorem Flc.SameIds.refl (f : Flc) : f.SameIds f := ⟨fun _ => rfl, rfl⟩

theorem Flc.SameIds.trans {f f' f'' : Flc} (h : f.SameIds f') (h' : f'.SameIds f'') : f.SameIds f'' :=
  ⟨fun u => (h'.1 u).trans (h.1 u), h'.2.trans h.2⟩

/-- An entry of the second unit table has one of the same identity in its place in the first. -/
theorem Flc.SameIds.entry {f f' : Flc} (h : f.SameIds f') {u : UnitIx} {e' : UnitEntry} (he : f'.units.get u = some e') :
    ∃ e, f.units.get u = some e ∧ e.identity = e'.identity := by
  have hu := h.1 u
  rw [he] at hu
  simpa using hu.symm

theorem Flc.SameIds.distinct {f f' : Flc} (h : f.SameIds f') (hf : f.UnitsDistinct) : f'.UnitsDistinct := by
  intro u v e e' he he' hid
  obtain ⟨q, hq, hqid⟩ := h.entry he
  obtain ⟨q', hq', hqid'⟩ := h.entry he'
  exact hf u v q q' hq hq' (by rw [hqid, hqid', hid])

theorem Flc.SameIds.foundOk {f f' : Flc} (h : f.SameIds f') (hf : f.FoundOk) : f'.FoundOk := by
  obtain ⟨hlen, hord, hnot⟩ := hf
  refine ⟨by rwa [h.2], by rwa [h.2], fun u e' he' => ?_⟩
  obtain ⟨e, he, hid⟩ := h.entry he'
  rw [h.2, ← hid]
  exact hnot u e he

/-- An update of FLC that keeps the identities keeps each. -/
theorem stays_onFlc {s : State} {f : Flc → Flc}
    (h : s.flc.UnitsDistinct ∧ s.flc.FoundOk → (f s.flc).UnitsDistinct ∧ (f s.flc).FoundOk) :
    Stays s (s.onFlc f) where
  params := id
  ballast := id
  spare := id
  gate := id
  cuts := id
  identities := h
  targets := id
  kinds := id
  critical := id

theorem stays_onFlc_of_sameIds {s : State} {f : Flc → Flc} (h : s.flc.SameIds (f s.flc)) : Stays s (s.onFlc f) :=
  stays_onFlc fun hs => ⟨h.distinct hs.1, h.foundOk hs.2⟩

/-- An update of FLC that leaves the unit table and the found list. -/
theorem Flc.sameIds_of_eq {f f' : Flc} (hu : f'.units = f.units := by exact Eq.refl _)
    (hf : f'.found = f.found := by exact Eq.refl _) : f.SameIds f' := ⟨fun u => by rw [hu], hf⟩

/-- An entry stored over one of the same identity. -/
theorem Flc.sameIds_setUnit {f : Flc} {u : UnitIx} {e e' : UnitEntry} (he : f.units.get u = some e)
    (hid : e'.identity = e.identity) : f.SameIds (f.setUnit u (some e')) := by
  refine ⟨fun v => ?_, rfl⟩
  by_cases h : v = u
  · subst h
    simp [Flc.setUnit, vector_get_set_self, he, hid]
  · simp [Flc.setUnit, vector_get_set_ne _ _ h]

theorem Flc.sameIds_giveMark (f : Flc) (now : Nat) (cls : MarkClass) (u : UnitIx) : f.SameIds (f.giveMark now cls u) := by
  simp only [Flc.giveMark]
  split
  · exact .refl f
  · next e he =>
    split
    · refine (Flc.sameIds_setUnit he ?_).trans Flc.sameIds_of_eq
      split <;> rfl
    · refine Flc.sameIds_setUnit he ?_
      dsimp only
      split <;> rfl

/-! ## SAW, INU, RQP -/

theorem stays_onSaw {s : State} {f : Saw → Saw} (h : (f s.saw).cuts.length ≤ s.saw.cuts.length) : Stays s (s.onSaw f) where
  params := id
  ballast := id
  spare := id
  gate := id
  cuts := h.trans
  identities := id
  targets := id
  kinds := id
  critical := id

theorem stays_onInu (s : State) (f : Inu → Inu) : Stays s (s.onInu f) := ⟨id, id, id, id, id, id, id, id, id⟩

theorem stays_onRqp (s : State) (f : Rqp → Rqp) : Stays s (s.onRqp f) := ⟨id, id, id, id, id, id, id, id, id⟩

/-! ## The pieces of work -/

theorem WorkPiece.stays {s t : State} (h : WorkPiece s t) : Stays s t := by
  cases h with
  | alt f h => exact stays_onAlt (recordsFollow_of_slots_eq h)
  | record i r h => exact stays_onAlt (recordsFollow_setRecord_some h)
  | vacate i => exact stays_onAlt (recordsFollow_setRecord_none s i)
  | saw f h => exact stays_onSaw h.length_le
  | ballast d w => exact stays_onGov (Gov.kept_ballastStep ..)
  | mark cls u => exact stays_onFlc_of_sameIds (Flc.sameIds_giveMark ..)
  | raise c => exact stays_onRqp ..

/-- Every standing property of these is kept by the work of ALT, SAW and the field line. -/
theorem Works.stays {s t : State} (h : Works s t) : Stays s t :=
  h.keep (P := Stays s) (fun p hu => hu.trans p.stays) .refl

/-! ## All standing properties -/

/-- The second state has each standing property that the first one has, and all stands there as it stood. -/
structure Holds (s t : State) : Prop extends Stays s t where
  sound : ∀ (c : Prop) (q : Slot → Prop), Sound c q s → Sound c q t

theorem Holds.refl {s : State} : Holds s s := ⟨.refl, fun _ _ => id⟩

theorem Holds.trans {s t u : State} (h : Holds s t) (h' : Holds t u) : Holds s u :=
  ⟨h.toStays.trans h'.toStays, fun c q x => h'.sound c q (h.sound c q x)⟩

/-- What the host's own frames alone change at the port: its form and address, OVERRUN, the stored result. -/
def State.port (s : State) : PortForm × Bool × Bool × Answer :=
  (s.rqp.form, s.rqp.addrBit, s.rqp.overrun, s.rqp.stored)

/-- The work of ALT, SAW and the field line leaves the port. -/
theorem Works.port {s t : State} (h : Works s t) : t.port = s.port :=
  h.keep (P := fun u => u.port = s.port) (fun p hu => by cases p <;> exact hu) rfl

/-- The second state is one that an act of a block leads to: what stood stands, and the port is as it was. -/
structure Keeps (s t : State) : Prop extends Holds s t where
  port : t.port = s.port

theorem Keeps.refl {s : State} : Keeps s s := ⟨.refl, rfl⟩

theorem Keeps.trans {s t u : State} (h : Keeps s t) (h' : Keeps t u) : Keeps s u :=
  ⟨h.toHolds.trans h'.toHolds, h'.port.trans h.port⟩

theorem keeps_onGov {s : State} {f : Gov → Gov} (h : s.gov.Kept s.params (f s.gov)) : Keeps s (s.onGov f) :=
  ⟨⟨stays_onGov h, fun _ _ x => x.onGov f⟩, rfl⟩

/-- An update of FLC that keeps the identities keeps all. -/
theorem keeps_onFlc {s : State} {f : Flc → Flc}
    (h : s.flc.UnitsDistinct ∧ s.flc.FoundOk → (f s.flc).UnitsDistinct ∧ (f s.flc).FoundOk) : Keeps s (s.onFlc f) :=
  ⟨⟨stays_onFlc h, fun _ _ x => x.onFlc f⟩, rfl⟩

theorem keeps_onFlc_of_sameIds {s : State} {f : Flc → Flc} (h : s.flc.SameIds (f s.flc)) : Keeps s (s.onFlc f) :=
  ⟨⟨stays_onFlc_of_sameIds h, fun _ _ x => x.onFlc f⟩, rfl⟩

theorem keeps_onInu (s : State) (f : Inu → Inu) : Keeps s (s.onInu f) := ⟨⟨stays_onInu s f, fun _ _ x => x.onInu f⟩, rfl⟩

theorem holds_onRqp (s : State) (f : Rqp → Rqp) : Holds s (s.onRqp f) := ⟨stays_onRqp s f, fun _ _ x => x.onRqp f⟩

theorem keeps_onRqp {s : State} {f : Rqp → Rqp} (h : (s.onRqp f).port = s.port) : Keeps s (s.onRqp f) :=
  ⟨holds_onRqp s f, h⟩

end Sys2Proof.Machine
end

section
/-! SUPPORT. The acts of the governor, the inputs and the field line keep the standing properties: one lemma per shared
operation. -/

namespace Sys2Proof.Machine

-- One body after another: hypotheses with a default proof would else hold a thread each.
set_option Elab.async false

/-! ## What the updates of GOV and FLC keep -/

/-- A step that is not held leaves the gate within its span (R93). -/
theorem Gov.kept_issueStep {params : Params} {g : Gov} {m : Move}
    (h : g.stepHeld params m = false) : g.Kept params (g.issueStep params m) := by
  refine Gov.kept_of_gate fun hle => ?_
  unfold Gov.stepHeld at h
  unfold Gov.issueStep
  cases hd : m.dir <;> simp only [hd, decide_eq_false_iff_not, not_le] at h ⊢ <;> omega

theorem Flc.sameIds_beginVisit (f : Flc) (u : UnitIx) (cls : MarkClass) :
    f.SameIds (f.beginVisit u cls) := by
  simp only [Flc.beginVisit]
  split
  · exact .refl f
  · next e he => exact (Flc.sameIds_setUnit (e' := { e with mark := none }) he rfl).trans Flc.sameIds_of_eq

theorem Flc.sameIds_visitOf {f f' : Flc} {cls : MarkClass} (h : f.visitOf cls = some f') :
    f.SameIds f' := by
  obtain ⟨u, -, rfl⟩ := Option.map_eq_some_iff.mp h
  exact f.sameIds_beginVisit u cls

/-- Whatever work the free line is handed to, the identities stay. -/
theorem Flc.sameIds_nextWork {f f' : Flc} (h : f.nextWork = some f') : f.SameIds f' := by
  simp only [Flc.nextWork] at h
  split at h
  · obtain rfl := Option.some.inj h
    exact Flc.sameIds_of_eq
  · simp only [Option.or_eq_some_iff] at h
    rcases h with h | ⟨-, h | ⟨-, h | ⟨-, h | ⟨-, h | ⟨-, h⟩⟩⟩⟩⟩
    · exact Flc.sameIds_visitOf h
    · exact Flc.sameIds_visitOf h
    · split at h
      · obtain rfl := Option.some.inj h
        exact Flc.sameIds_of_eq
      · cases h
    · exact Flc.sameIds_visitOf h
    · split at h
      · obtain rfl := Option.some.inj h
        exact Flc.sameIds_of_eq
      · cases h
    · exact Flc.sameIds_visitOf h

theorem Flc.sameIds_arbitrate (f : Flc) : f.SameIds f.arbitrate := by
  simp only [Flc.arbitrate]
  split
  · exact .refl f
  · cases h : f.nextWork with
    | none => exact .refl f
    | some f' => exact Flc.sameIds_nextWork h

namespace Keeps

variable {s t : State}

/-- Work of ALT, SAW and the field line keeps each, and all stands where it ends as it stood. -/
theorem works {u : State} (h : Keeps s t) (w : Works t u) (hs : ∀ (c : Prop) (q : Slot → Prop), Sound c q t → Sound c q u) :
    Keeps s u := h.trans ⟨⟨w.stays, hs⟩, w.port⟩

theorem onGov {f : Gov → Gov} (h : Keeps s t) (hf : t.gov.Kept t.params (f t.gov)) : Keeps s (t.onGov f) :=
  h.trans (keeps_onGov hf)

/-- An update of GOV that leaves state, ballast and position. -/
theorem onGov_same {f : Gov → Gov} (h : Keeps s t) (hst : (f t.gov).st = t.gov.st := by exact Eq.refl _)
    (hacc : (f t.gov).bAcc = t.gov.bAcc := by exact Eq.refl _)
    (hduty : (f t.gov).duty = t.gov.duty := by exact Eq.refl _)
    (hspare : (f t.gov).spare = t.gov.spare := by exact Eq.refl _)
    (hgate : (f t.gov).gatePos = t.gov.gatePos := by exact Eq.refl _) : Keeps s (t.onGov f) :=
  h.onGov (Gov.kept_of_eq hst hacc hduty hspare hgate)

theorem onFlc {f : Flc → Flc} (h : Keeps s t) (hf : t.flc.SameIds (f t.flc)) : Keeps s (t.onFlc f) :=
  h.trans (keeps_onFlc_of_sameIds hf)

/-- An update of FLC that leaves the unit table and the found list. -/
theorem onFlc_same {f : Flc → Flc} (h : Keeps s t) (hu : (f t.flc).units = t.flc.units := by exact Eq.refl _)
    (hf : (f t.flc).found = t.flc.found := by exact Eq.refl _) : Keeps s (t.onFlc f) :=
  h.onFlc (Flc.sameIds_of_eq hu hf)

theorem onInu {f : Inu → Inu} (h : Keeps s t) : Keeps s (t.onInu f) := h.trans (keeps_onInu t f)

/-- An update of RQP that leaves the port's form, OVERRUN and the stored result. -/
theorem onRqp {f : Rqp → Rqp} (h : Keeps s t) (hf : (t.onRqp f).port = t.port := by exact Eq.refl _) :
    Keeps s (t.onRqp f) := h.trans (keeps_onRqp hf)

theorem raise {c : Cause} (h : Keeps s t) : Keeps s (t.raise c) := h.onRqp

theorem giveMark {cls : MarkClass} {u : UnitIx} (h : Keeps s t) : Keeps s (t.giveMark cls u) :=
  h.works Works.refl.giveMark fun _ _ x => x.giveMark cls u

theorem setChan {c : Channel} {x : Chan} (h : Keeps s t) : Keeps s (t.setChan c x) := h.onInu

theorem govReport (h : Keeps s t) : Keeps s t.govReport :=
  h.works Works.refl.govReport fun _ _ => Sound.govReport

theorem sawFault {c : FaultCause} (h : Keeps s t) : Keeps s (t.sawFault c) :=
  h.works Works.refl.sawFault fun _ _ x => x.sawFault c

theorem publish {p : Publication} (h : Keeps s t) : Keeps s (t.publish p) :=
  h.works Works.refl.publish fun _ _ x => x.publish p

theorem shedAll {reason : Reason} (h : Keeps s t) : Keeps s (t.shedAll reason) := by
  have hslots := h.works (Works.refl.shedAllSlots (reason := reason)) fun c q x =>
    foldl_keeps (P := Sound c q) (fun _ i ht => Sound.shedAllSlot ht reason i) allSlots x
  simp only [State.shedAll]
  generalize allSlots.foldl (State.shedAllSlot reason) t = u at hslots ⊢
  exact (hslots.works Works.refl.onAlt fun _ _ x => Stands.onAlt x rfl).onFlc_same

theorem enterIdle {st : GovState} (h : Keeps s t) : Keeps s (t.onGov fun g => g.enterIdle st) :=
  h.onGov (Gov.kept_enterIdle ..)

/-! ## The governor -/

theorem beginMove {p : MovePurpose} {d : GateDir} {n : Nat} (h : Keeps s t) : Keeps s (t.beginMove p d n) := by
  simp only [State.beginMove]
  refine h.onGov ?_
  unfold Gov.beginMove
  dsimp only
  split
  · cases d with
    | opening => exact Gov.kept_of_gate fun _ => le_refl _
    | closing => exact Gov.kept_of_gate fun _ => Nat.zero_le _
  · exact Gov.kept_of_eq

theorem beginShut (h : Keeps s t) : Keeps s t.beginShut := h.beginMove

theorem trip {c : TripCause} (h : Keeps s t) : Keeps s (t.trip c) := by
  have hidle : Keeps s (t.onGov fun g => { g.enterIdle .tripped with cause := c }) :=
    h.onGov ((Gov.kept_enterIdle ..).trans Gov.kept_of_eq)
  simp only [State.trip]
  split
  · exact hidle.onGov_same.shedAll.govReport
  · exact hidle.onGov_same.beginShut.shedAll.govReport

theorem shutEnded (h : Keeps s t) : Keeps s t.shutEnded := by
  simp only [State.shutEnded]
  split
  · exact h.enterIdle.govReport
  · exact h.raise
  all_goals exact h

theorem shutFailed (h : Keeps s t) : Keeps s t.shutFailed := by
  simp only [State.shutFailed]
  split
  · exact h.trip
  · exact h.onGov_same.raise
  · exact h.onGov_same.raise
  all_goals exact h

theorem beginRunup (h : Keeps s t) : Keeps s t.beginRunup := h.onGov_same.beginMove

theorem runupDue (h : Keeps s t) : Keeps s t.runupDue := by
  simp only [State.runupDue]
  split
  · exact h.trip
  · exact h.beginRunup

theorem moveEnded {p : MovePurpose} {b : Bool} (h : Keeps s t) : Keeps s (t.moveEnded p b) := by
  simp only [State.moveEnded]
  split
  · split
    · exact h.runupDue
    · exact h
  · exact h
  · split
    · exact h.shutEnded
    · exact h.shutFailed

theorem gateLimit {d : GateDir} (h : Keeps s t) : Keeps s (t.gateLimit d) := by
  simp only [State.gateLimit]
  split
  · split
    · refine (h.onGov ?_).moveEnded
      cases d with
      | opening => exact Gov.kept_of_gate fun _ => le_refl _
      | closing => exact Gov.kept_of_gate fun _ => Nat.zero_le _
    · exact h
  · exact h

theorem gateStep {m : Move} (h : Keeps s t) : Keeps s (t.gateStep m) := by
  simp only [State.gateStep]
  split
  · exact h.onGov_same.moveEnded
  · next hheld =>
    have hstep := h.onGov (f := fun g => g.issueStep t.params m) (Gov.kept_issueStep (by simpa using hheld))
    split
    · exact hstep
    · exact hstep.onGov_same.moveEnded

theorem trimDecision (h : Keeps s t) : Keeps s t.trimDecision := by
  simp only [State.trimDecision]
  repeat' split
  all_goals first | exact h | exact h.beginMove

theorem holdReturn (h : Keeps s t) : Keeps s t.holdReturn := by
  simp only [State.holdReturn]
  split
  · refine (h.onGov ⟨id, fun _ hc => ?_, fun _ hc => ?_, id⟩).govReport
    · exact absurd (.inl rfl) hc
    · exact absurd rfl hc
  · exact h

theorem countOverspeed (h : Keeps s t) : Keeps s (t.onGov fun g => g.countOverspeed t.params) := by
  refine h.onGov ?_
  unfold Gov.countOverspeed
  split <;> exact Gov.kept_of_eq

theorem enterRegulating (h : Keeps s t) : Keeps s t.enterRegulating := by
  refine (h.onGov ?_).govReport
  refine Gov.Kept.trans (g' := { t.gov.endRunupMove with
      st := .regulating, fPrev := none, collapse := 0, runupTimer := none
      trimTimer := secTimer (t.param .trimPeriod) }) ?_ (Gov.kept_setBallast fun _ => le_refl _)
  have hend : t.gov.endRunupMove.bAcc = t.gov.bAcc ∧ t.gov.endRunupMove.gatePos = t.gov.gatePos := by
    unfold Gov.endRunupMove
    repeat' split
    all_goals exact ⟨rfl, rfl⟩
  exact ⟨fun x => hend.1 ▸ x, fun _ hc => absurd (.inl rfl) hc, fun _ hc => absurd rfl hc, fun x => hend.2 ▸ x⟩

theorem regulatingStages {p : Nat} (h : Keeps s t) : Keeps s (t.regulatingStages p) := by
  have hreg : Keeps s (t.onGov fun g => (g.regulate t.params).countCollapse t.params) := by
    refine h.onGov (Gov.Kept.trans (Gov.kept_setBallast fun _ => ?_) Gov.kept_of_eq)
    exact Nat.min_le_left _ _
  simp only [State.regulatingStages]
  split
  · exact hreg.onGov_same.shedAll.publish
  · exact hreg.publish

theorem laterStages {p : Nat} (h : Keeps s t) : Keeps s (t.laterStages p) := by
  simp only [State.laterStages]
  split
  · split
    · exact h.enterRegulating.publish
    · exact h.publish
  · exact h.regulatingStages
  all_goals exact h.publish

theorem interval {p : Nat} (h : Keeps s t) : Keeps s (t.interval p) := by
  have hcount := (h.onGov_same (f := fun g => { g with fMeas := freqOf (clampPeriod p) })).holdReturn.countOverspeed
  simp only [State.interval]
  split
  · exact hcount.trip.publish
  · exact hcount.laterStages

theorem govTachLost (h : Keeps s t) : Keeps s t.govTachLost := by
  simp only [State.govTachLost]
  split
  · refine (h.onGov_same.onGov ⟨id, fun _ hc => ?_, fun _ _ => rfl, id⟩).govReport
    exact absurd (.inr rfl) hc
  · exact h.onGov_same

theorem govEstop (h : Keeps s t) : Keeps s t.govEstop := by
  simp only [State.govEstop]
  split
  iterate 4 exact h.trip
  all_goals exact h

/-! ## The inputs -/

theorem guardActive (h : Keeps s t) : Keeps s t.guardActive := by
  simp only [State.guardActive]
  split
  · exact h
  · exact h.onInu.raise.works Works.refl.sawGuard fun _ _ => Sound.sawGuard

theorem estopActive (h : Keeps s t) : Keeps s t.estopActive := by
  simp only [State.estopActive]
  split
  · exact h
  · exact h.onInu.raise.govEstop.sawFault

theorem tachEdge (h : Keeps s t) : Keeps s t.tachEdge := by
  simp only [State.tachEdge]
  split
  · exact h.onInu
  · exact h.onInu.interval

theorem deliver {c : Channel} {a : Bool} (h : Keeps s t) : Keeps s (t.deliver c a) := by
  cases c <;> simp only [State.deliver]
  case lowWater => exact h
  all_goals split
  case tach.isTrue => exact h.tachEdge
  case gateShut.isTrue => exact h.gateLimit
  case gateFull.isTrue => exact h.gateLimit
  case fwdLimit.isTrue => exact h.works Works.refl.fwdLimitActive fun _ _ => Sound.fwdLimitActive
  case revLimit.isTrue => exact h.works Works.refl.revLimitActive fun _ _ => Sound.revLimitActive
  case setDone.isTrue => exact h.works Works.refl.setDoneActive fun _ _ => Sound.setDoneActive
  case clutchIn.isTrue => exact h.works Works.refl.clutchIn fun _ _ => Sound.clutchIn
  case clutchIn.isFalse => exact h.works Works.refl.clutchOut fun _ _ => Sound.clutchOut
  case guard.isTrue => exact h.guardActive
  case estop.isTrue => exact h.estopActive
  all_goals exact h

theorem acceptChange {c : Channel} (h : Keeps s t) : Keeps s (t.acceptChange c) := by
  simp only [State.acceptChange]
  split
  · exact h
  · exact h.setChan.deliver

theorem tachLost (h : Keeps s t) : Keeps s t.tachLost := h.onInu.govTachLost

theorem encoderMove {a b z : Bool} (h : Keeps s t) : Keeps s (t.encoderMove a b z) := by
  simp only [State.encoderMove]
  split
  · exact h.onInu
  · exact h.onInu.onInu
  · split
    · exact h.onInu.onInu.works Works.refl.homeMark fun _ _ => Sound.homeMark
    · exact h.onInu.onInu
  · exact h.onInu.onInu

/-! ## The field line -/

theorem arbitrate (h : Keeps s t) : Keeps s t.arbitrate := h.onFlc (Flc.sameIds_arbitrate _)

end Keeps

end Sys2Proof.Machine
end

section
/-! SUPPORT. SET_PARAM's values (R185, R186): what each parameter holds after it, and that ranges and cross-limits stay. -/

namespace Sys2Proof.Machine

-- One body after another: hypotheses with a default proof would else hold a thread each.
set_option Elab.async false

/-! ## The parameters that the cross-limits tie together (R186) -/

/-- The parameter stands in a cross-limit. -/
def Param.tied (p : Param) : Prop :=
  p = .fSet ∨ p = .fTrip ∨ p = .shedBand ∨ p = .fFloor ∨ p = .trimHighPct ∨ p = .trimLowPct

/-- A parameter in no cross-limit moves no other and is stored as clamped. -/
theorem Param.of_not_tied {p : Param} (h : ¬ p.tied) : p.movable = [] ∧ ∀ v x, storedValue v p x = p.clamp x := by
  cases p <;> first | exact ⟨rfl, fun _ _ => rfl⟩ | exact absurd (by simp [Param.tied]) h

/-- A parameter that moves no other is the only one stored. -/
theorem setParams_of_movable_nil {v : Params} {p : Param} {x : Nat} (h : p.movable = []) :
    setParams v p x = v.put p (storedValue v p x) := by
  simp only [setParams, h, applyLimits, List.foldl_nil]

/-- A stored parameter read: the value itself, or what stood in another's place. -/
theorem Params.get_put (v : Params) (p q : Param) (x : Nat) : (v.put p x).get q = if q = p then x else v.get q := by
  split
  · next h => rw [h, Params.get_put_self]
  · next h => exact Params.get_put_ne v x h

/-- SET_PARAM of f_set: the trip frequency and the floor follow it. -/
theorem setParams_fSet (v : Params) (x : Nat) :
    setParams v .fSet x =
      (((v.put .fSet (Param.clamp .fSet x)).put .fTrip
        (max (Param.clamp .fTrip (v.get .fTrip)) (Param.clamp .fSet x + 100))).put .fFloor
        (min (Param.clamp .fFloor (v.get .fFloor)) (Param.clamp .fSet x - v.get .shedBand))) := by
  simp [setParams, applyLimits, Param.movable, limited, storedValue, Params.get_put]

/-- SET_PARAM of shed_band: the floor follows it. -/
theorem setParams_shedBand (v : Params) (x : Nat) :
    setParams v .shedBand x =
      (v.put .shedBand (Param.clamp .shedBand x)).put .fFloor
        (min (Param.clamp .fFloor (v.get .fFloor)) (v.get .fSet - Param.clamp .shedBand x)) := by
  simp [setParams, applyLimits, Param.movable, limited, storedValue, Params.get_put]

/-- SET_PARAM of trim_high_pct: the low limit follows it. -/
theorem setParams_trimHighPct (v : Params) (x : Nat) :
    setParams v .trimHighPct x =
      (v.put .trimHighPct (Param.clamp .trimHighPct x)).put .trimLowPct
        (min (Param.clamp .trimLowPct (v.get .trimLowPct)) (Param.clamp .trimHighPct x - 5)) := by
  simp [setParams, applyLimits, Param.movable, limited, storedValue, Params.get_put]

/-! ## Ranges and cross-limits stay (R185, R186) -/

theorem Params.inRange_put {v : Params} (h : v.inRange) {p : Param} {x : Nat} (hx : p.range.1 ≤ x ∧ x ≤ p.range.2) :
    (v.put p x).inRange := by
  intro q
  rw [Params.get_put]
  split
  · next e => exact e ▸ hx
  · exact h q

/-- A value within its range is clamped to itself. -/
theorem Param.clamp_of_inRange {p : Param} {x : Nat} (h : p.range.1 ≤ x ∧ x ≤ p.range.2) : p.clamp x = x := by
  unfold Param.clamp
  omega

/-- A parameter in no cross-limit leaves them. -/
theorem Params.crossLimits_put_of_not_tied {v : Params} (h : v.crossLimits) {p : Param} (hp : ¬ p.tied) (x : Nat) :
    (v.put p x).crossLimits := by
  simp only [Param.tied, not_or] at hp
  obtain ⟨h1, h2, h3, h4, h5, h6⟩ := hp
  unfold Params.crossLimits
  rw [Params.get_put_ne v x (Ne.symm h1), Params.get_put_ne v x (Ne.symm h2), Params.get_put_ne v x (Ne.symm h3),
    Params.get_put_ne v x (Ne.symm h4), Params.get_put_ne v x (Ne.symm h5), Params.get_put_ne v x (Ne.symm h6)]
  exact h

/-- What SET_PARAM stores lies in the parameter's range: the room that the cross-limits leave overlaps it (R185, R186). -/
theorem storedValue_inRange {v : Params} (hr : v.inRange) (p : Param) (x : Nat) :
    p.range.1 ≤ storedValue v p x ∧ storedValue v p x ≤ p.range.2 := by
  have hx := p.clamp_inRange x
  have hfSet := hr .fSet
  have hshed := hr .shedBand
  have hhigh := hr .trimHighPct
  by_cases hp : p.tied
  · rcases hp with rfl | rfl | rfl | rfl | rfl | rfl
    all_goals
      simp only [Param.range, storedValue] at *
      omega
  · rw [(Param.of_not_tied hp).2]
    exact hx

/-- SET_PARAM keeps every parameter in its range (R185). -/
theorem setParams_inRange {v : Params} (hr : v.inRange) (p : Param) (x : Nat) : (setParams v p x).inRange := by
  have hfold : ∀ (ps : List Param) (w : Params), w.inRange → (applyLimits w ps).inRange := by
    intro ps
    induction ps with
    | nil => exact fun w hw => hw
    | cons q ps ih => exact fun w hw => ih _ (Params.inRange_put hw (storedValue_inRange hw q _))
  exact hfold _ _ (Params.inRange_put hr (storedValue_inRange hr p x))

/-- SET_PARAM keeps the cross-limits (R186). -/
theorem setParams_crossLimits {v : Params} (hr : v.inRange) (hc : v.crossLimits) (p : Param) (x : Nat) :
    (setParams v p x).crossLimits := by
  have hx := p.clamp_inRange x
  have hfSet := hr .fSet
  have hhigh := hr .trimHighPct
  have hshed := hr .shedBand
  by_cases hp : p.tied
  · rcases hp with rfl | rfl | rfl | rfl | rfl | rfl
    all_goals
      simp only [setParams_fSet, setParams_shedBand, setParams_trimHighPct,
        setParams_of_movable_nil (p := .fTrip) (Eq.refl _), setParams_of_movable_nil (p := .fFloor) (Eq.refl _),
        setParams_of_movable_nil (p := .trimLowPct) (Eq.refl _), Param.range, storedValue, Params.crossLimits,
        Params.get_put, reduceCtorEq, if_false, if_true] at *
      omega
  · obtain ⟨hmov, -⟩ := Param.of_not_tied hp
    rw [setParams_of_movable_nil hmov]
    exact Params.crossLimits_put_of_not_tied hc hp _

/-- A parameter that SET_PARAM neither names nor moves stays. -/
theorem setParams_get_of_ne (v : Params) {p q : Param} (x : Nat) (hq : q ≠ p) (hm : q ∉ p.movable) :
    (setParams v p x).get q = v.get q := by
  have hfold : ∀ (ps : List Param) (w : Params), q ∉ ps → (applyLimits w ps).get q = w.get q := by
    intro ps
    induction ps with
    | nil => exact fun w _ => rfl
    | cons a ps ih =>
      intro w hnot
      rw [List.mem_cons, not_or] at hnot
      exact (ih _ hnot.2).trans (Params.get_put_ne _ _ hnot.1)
  exact (hfold p.movable _ hm).trans (Params.get_put_ne _ _ hq)

end Sys2Proof.Machine
end

section
/-! SUPPORT. The acts of the field line and the saw that no shared operation covers keep the standing properties. -/

namespace Sys2Proof.Machine

-- One body after another: hypotheses with a default proof would else hold a thread each.
set_option Elab.async false

/-! ## The found list -/

/-- An identity placed in the found list is there, with those that were. -/
theorem placeFound_perm (x : Identity) (l : List Identity) : (placeFound x l).Perm (x :: l) := by
  induction l with
  | nil => exact .refl _
  | cons y ys ih =>
    simp only [placeFound]
    split
    · exact .refl _
    · exact (ih.cons y).trans (.swap x y ys)

/-- A new identity is placed in ascending order (R139). -/
theorem placeFound_ascending {x : Identity} {l : List Identity} (hl : l.Pairwise fun a b => a.toNat < b.toNat)
    (hx : x ∉ l) : (placeFound x l).Pairwise fun a b => a.toNat < b.toNat := by
  induction l with
  | nil => exact List.pairwise_singleton _ _
  | cons y ys ih =>
    obtain ⟨hy, htail⟩ := List.pairwise_cons.mp hl
    rw [List.mem_cons, not_or] at hx
    simp only [placeFound]
    split
    · next hlt =>
      refine List.pairwise_cons.mpr ⟨fun z hz => ?_, hl⟩
      rcases List.mem_cons.mp hz with rfl | hz
      · exact hlt
      · exact hlt.trans (hy z hz)
    · next hge =>
      refine List.pairwise_cons.mpr ⟨fun z hz => ?_, ih htail hx.2⟩
      rcases List.mem_cons.mp ((placeFound_perm x ys).mem_iff.mp hz) with hzx | hz
      · have hne : x.toNat ≠ y.toNat := fun e => hx.1 (BitVec.eq_of_toNat_eq e)
        rw [hzx]
        omega
      · exact hy z hz

/-- A unit search answers a unit that holds the identity. -/
theorem unitOf_some {f : Flc} {x : Identity} {u : UnitIx} (h : f.unitOf x = some u) :
    ∃ e, f.units.get u = some e ∧ e.identity = x := by
  have := List.find?_some h
  split at this
  · next e he => exact ⟨e, he, by simpa using this⟩
  · cases this

/-- No entry holds an identity for which no unit is found. -/
theorem unitOf_none {f : Flc} {x : Identity} (h : f.unitOf x = none) {u : UnitIx} {e : UnitEntry}
    (he : f.units.get u = some e) : e.identity ≠ x := by
  have := List.find?_eq_none.mp h u (List.mem_finRange u)
  simpa [he] using this

/-! ## Entries of the unit table -/

/-- The entry of a visit stands in the unit table. -/
theorem Visit.entry_some {v : Visit} {f : Flc} {e : UnitEntry} (h : v.entry f = some e) :
    v.dropped = false ∧ f.units.get v.unit = some e := by
  unfold Visit.entry at h
  split at h
  · cases h
  · next hd => exact ⟨by simpa using hd, h⟩

theorem visitOk_identity (e : UnitEntry) (v : Visit) : (e.visitOk v).1.identity = e.identity := by
  unfold UnitEntry.visitOk
  split <;> rfl

theorem visitFailed_identity (e : UnitEntry) (v : Visit) (now : Nat) :
    (e.visitFailed v now).1.identity = e.identity := by
  unfold UnitEntry.visitFailed
  dsimp only
  repeat' split
  all_goals rfl

namespace Keeps

variable {s t : State}

/-! ## Visits -/

theorem visitEnd {v : Visit} {success : Bool} (h : Keeps s t) : Keeps s (t.visitEnd v success) := by
  have hfree := h.onFlc_same (f := fun f => { f with tx := none })
  simp only [State.visitEnd]
  split
  · exact hfree
  · next e he =>
    obtain ⟨-, he⟩ := Visit.entry_some he
    generalize hq : (if success = true then e.visitOk v else e.visitFailed v (t.onFlc _).now) = q
    have hid : q.1.identity = e.identity := by
      rw [← hq]
      split
      · exact visitOk_identity e v
      · exact visitFailed_identity e v _
    obtain ⟨e', moved⟩ := q
    dsimp only
    split
    · exact (hfree.onFlc (Flc.sameIds_setUnit he hid)).raise
    · exact hfree.onFlc (Flc.sameIds_setUnit he hid)

theorem onVisit {g : Visit → Visit} (h : Keeps s t) : Keeps s (t.onVisit g) := by
  refine h.onFlc ?_
  split
  · exact Flc.sameIds_of_eq
  · exact .refl _

theorem nextBlock {b : Block} (h : Keeps s t) : Keeps s (t.nextBlock b) := h.onVisit

theorem ackOrEnd (h : Keeps s t) : Keeps s t.ackOrEnd := by
  simp only [State.ackOrEnd]
  split
  · split
    · exact h.nextBlock
    · exact h.visitEnd
  · exact h

theorem onEntry {v : Visit} {g : UnitEntry → UnitEntry} (h : Keeps s t) (hg : ∀ e, (g e).identity = e.identity) :
    Keeps s (t.onEntry v g) := by
  simp only [State.onEntry]
  split
  · next e he => exact h.onFlc (Flc.sameIds_setUnit (Visit.entry_some he).2 (hg e))
  · exact h

theorem plateReply {v : Visit} {reply : List Byte} (h : Keeps s t) : Keeps s (t.plateReply v reply) := by
  simp only [State.plateReply]
  split
  · exact (h.onEntry (by exact fun _ => Eq.refl _)).onVisit.nextBlock
  · exact h.visitEnd

theorem afterStatus {v : Visit} {k : StatusReport} (h : Keeps s t) : Keeps s (t.afterStatus v k) := by
  simp only [State.afterStatus]
  repeat' split
  all_goals first | exact h.onVisit.ackOrEnd | exact h.onVisit.nextBlock

theorem takeMeter {u : UnitIx} {rebooted : Bool} {o : Outlet} {count : Half} (h : Keeps s t) :
    Keeps s (t.takeMeter u rebooted o count) := by
  have hmeter : ∀ {w : State}, Keeps s w → Keeps s (w.onFlc fun f => f.setMeter u o count) := by
    intro w hw
    refine hw.onFlc ?_
    unfold Flc.setMeter
    cases he : w.flc.units.get u with
    | some e => exact Flc.sameIds_setUnit he rfl
    | none =>
      refine ⟨fun v => ?_, rfl⟩
      by_cases hv : v = u
      · subst hv
        simp [Flc.setUnit, vector_get_set_self, he]
      · simp [Flc.setUnit, vector_get_set_ne _ _ hv]
  simp only [State.takeMeter]
  split
  · exact hmeter h
  · next i hi =>
    obtain ⟨p, hp, hg⟩ := slotOf_some hi
    split
    · next r hr =>
      obtain rfl := Option.some.inj (hp.symm.trans hr)
      exact hmeter (h.works (Works.refl.takeCount (passes_fields hr)) fun _ _ x =>
        x.takeCount (r' := p.charge _) hr rfl rfl (x.kind_of_field hr hg))
    · exact hmeter h

theorem altStatus {u : UnitIx} {n : Nat} {k : StatusReport} (h : Keeps s t) : Keeps s (t.altStatus u n k) := by
  have hmeters : ∀ {l : List Outlet} {w : State}, Keeps s w →
      Keeps s (l.foldl (fun w o => w.takeMeter u k.rebooted o (k.counts.get o)) w) := by
    intro l
    induction l with
    | nil => exact id
    | cons o l ih => exact fun hw => ih hw.takeMeter
  have hstatus : ∀ {l : List Outlet} {w : State},
      Works w (l.foldl (fun w o => w.reconcileStatus u o (k.closed.getLsbD o.val)) w) :=
    Works.refl.foldl (fun _ ho => ho.reconcileStatus) _
  have hdemand : ∀ {l : List Outlet} {w : State},
      Works w (l.foldl (fun w o => w.takeDemand u o (k.demand.getLsbD o.val)) w) :=
    Works.refl.foldl (fun _ ho => ho.takeDemand) _
  have hsound : ∀ {w : State} (c : Prop) (q : Slot → Prop), Sound c q w →
      Sound c q ((outletsBelow n).foldl (fun w o => w.reconcileStatus u o (k.closed.getLsbD o.val)) w) :=
    fun c q x => foldl_keeps (P := Sound c q) (fun _ o hv => Sound.reconcileStatus hv u o _) _ x
  simp only [State.altStatus]
  split
  · exact hmeters ((h.works hdemand fun c q x =>
      foldl_keeps (P := Sound c q) (fun _ o hv => Sound.takeDemand hv u o _) _ x).works hstatus hsound)
  · exact hmeters (h.works hstatus hsound)

theorem statusReply {v : Visit} {reply : List Byte} (h : Keeps s t) : Keeps s (t.statusReply v reply) := by
  simp only [State.statusReply]
  split
  · split
    · exact (h.onEntry (by exact fun _ => Eq.refl _)).afterStatus
    · exact (h.onEntry (by exact fun _ => Eq.refl _)).altStatus.afterStatus
  · exact h.visitEnd

theorem appliedReply {v : Visit} {sent : BitVec 4} {reply : List Byte} (h : Keeps s t) :
    Keeps s (t.appliedReply v sent reply) := by
  simp only [State.appliedReply]
  split
  · split
    · exact (h.onEntry (by exact fun _ => Eq.refl _)).ackOrEnd
    · exact ((h.onEntry (by exact fun _ => Eq.refl _)).works Works.refl.altApplied
      fun _ _ x => Sound.altApplied x ..).ackOrEnd
  · exact h.visitEnd

theorem ackReply {v : Visit} {reply : List Byte} (h : Keeps s t) : Keeps s (t.ackReply v reply) := h.visitEnd

/-! ## Seeks -/

theorem endEnrolment {ended : EnrolEnd} (h : Keeps s t) : Keeps s (t.endEnrolment ended) := h.onFlc_same.raise

theorem enrolNext {fork : Option Nat} (h : Keeps s t) : Keeps s (t.enrolNext fork) := by
  simp only [State.enrolNext]
  split
  · exact h
  · exact h.endEnrolment

/-- A new identity taken into the found list: it has no entry, stands not in the list, and there is a place (R140). -/
theorem foundPlaced {x : Identity} (h : Keeps s t) (hunit : t.flc.unitOf x = none) (hx : x ∉ t.flc.found)
    (hlen : t.flc.found.length < Config.foundPlaces) :
    Keeps s (t.onFlc fun f => { f with found := placeFound x f.found }) := by
  refine h.trans (keeps_onFlc fun ⟨hd, _, hord, hnot⟩ => ⟨hd, ?_, placeFound_ascending hord hx, fun u e he hin => ?_⟩)
  · rw [(placeFound_perm x _).length_eq]
    exact hlen
  · rcases List.mem_cons.mp ((placeFound_perm x _).mem_iff.mp hin) with hid | hin
    · exact unitOf_none hunit he hid
    · exact hnot u e he hin

theorem enrolTake {x : Identity} {fork : Option Nat} (h : Keeps s t) : Keeps s (t.enrolTake x fork) := by
  simp only [State.enrolTake]
  split
  · exact h.enrolNext
  · next hnew =>
    simp only [Bool.or_eq_true, not_or, Bool.not_eq_true, Option.isSome_eq_false_iff, Option.isNone_iff_eq_none,
      List.contains_eq_mem, decide_eq_false_iff_not] at hnew
    split
    · exact h.onFlc_same.endEnrolment
    · next hlen => exact (h.foundPlaced hnew.1 hnew.2 (not_le.mp hlen)).enrolNext

theorem enrolSeek {outcome : SeekOutcome} (h : Keeps s t) : Keeps s (t.enrolSeek outcome) := by
  cases outcome with
  | ok x fork => exact h.enrolTake
  | none => exact h.endEnrolment
  | noPresence => exact h.endEnrolment
  | lineError => exact h.endEnrolment

theorem endSweep (h : Keeps s t) : Keeps s t.endSweep := h.onFlc_same

theorem sweepSeek {outcome : SeekOutcome} (h : Keeps s t) : Keeps s (t.sweepSeek outcome) := by
  cases outcome with
  | ok x fork =>
    dsimp only [State.sweepSeek]
    have hfound := h.onFlc_same (f := fun f => { f with sweep := { f.sweep with found := f.sweep.found + 1 } })
    generalize (t.onFlc fun f => { f with sweep := { f.sweep with found := f.sweep.found + 1 } }) = u at hfound ⊢
    have hmark : ∀ {v}, Keeps s (u.giveMark .demand v) := hfound.giveMark
    split <;> split
    · exact hmark
    · exact hmark.endSweep
    · exact hfound
    · exact hfound.endSweep
  | none => exact h.endSweep
  | noPresence => exact h.endSweep
  | lineError => exact h.endSweep

theorem seekDone {owner : SeekOwner} {outcome : SeekOutcome} (h : Keeps s t) : Keeps s (t.seekDone owner outcome) := by
  have hseries : Keeps s (t.onFlc fun f => { f with tx := none }.seriesAfter owner outcome) := by
    cases owner
    · exact h.onFlc_same
    · exact h.onFlc_same
  cases owner
  · exact hseries.enrolSeek
  · exact hseries.sweepSeek

theorem noPresence (h : Keeps s t) : Keeps s t.noPresence := by
  simp only [State.noPresence]
  split
  · exact h.onFlc_same
  · split
    · exact h
    · exact h.visitEnd
  · exact h.seekDone
  · exact h

theorem pollUnit {u : UnitIx} (h : Keeps s t) : Keeps s (t.pollUnit u) := by
  simp only [State.pollUnit]
  split
  · split
    · exact h.giveMark
    · exact h
  · exact h

theorem pollUnits {l : List UnitIx} (h : Keeps s t) : Keeps s (l.foldl State.pollUnit t) := by
  induction l generalizing t with
  | nil => exact h
  | cons u l ih => exact ih h.pollUnit

/-! ## The soft restart -/

theorem flcRestart (h : Keeps s t) : Keeps s t.flcRestart := by
  refine h.onFlc ⟨fun u => ?_, Eq.refl _⟩
  rw [Vector.get_ofFn, Option.map_map]
  congr 1

theorem sawRestart (h : Keeps s t) : Keeps s t.sawRestart := by
  refine h.works ?_ fun _ _ => Sound.sawRestart
  simp only [State.sawRestart]
  exact (Works.refl.onSaw.clearCutWanted.onSaw (List.nil_suffix)).sawWant.onSaw

theorem softRestart (h : Keeps s t) : Keeps s t.softRestart := h.onInu.flcRestart.sawRestart.onRqp

/-! ## The requests of the governor and the inputs -/

theorem startRunup (h : Keeps s t) : Keeps s t.startRunup := h.enterIdle.beginRunup.govReport

theorem stopSet (h : Keeps s t) : Keeps s t.stopSet := by
  have hstop : Keeps s (t.onGov fun g => (g.endMove).enterIdle .stopping) :=
    h.onGov ((Gov.kept_of_eq (g' := t.gov.endMove)).trans (Gov.kept_enterIdle ..))
  simp only [State.stopSet]
  split
  · exact hstop.shedAll.beginShut.govReport.shutEnded
  · exact hstop.shedAll.beginShut.govReport

theorem homeGate (h : Keeps s t) : Keeps s t.homeGate := by
  have hzero := h.onGov (f := fun g => { g with gateValid := false, gatePos := 0 })
    (Gov.kept_of_gate fun _ => Nat.zero_le _)
  simp only [State.homeGate]
  split
  · exact hzero.beginShut.shutEnded
  · exact hzero.beginShut

theorem runupExpiry (h : Keeps s t) : Keeps s t.runupExpiry := by
  simp only [State.runupExpiry]
  split
  · exact h.onGov_same.runupDue
  · exact h.onGov_same

theorem setup {c : Channel} {activeLow : Bool} {filter : Nat} (h : Keeps s t) : Keeps s (t.setup c activeLow filter) := by
  simp only [State.setup]
  repeat' split
  all_goals first
    | exact h
    | exact h.setChan
    | exact h.setChan.onInu
    | exact h.setChan.acceptChange
    | exact h.setChan.onInu.acceptChange

end Keeps

end Sys2Proof.Machine
end

section
/-! SUPPORT. Every command, and so every step, keeps the standing properties that hold each by itself. -/

namespace Sys2Proof.Machine

-- One body after another: hypotheses with a default proof would else hold a thread each.
set_option Elab.async false

/-! ## What an outcome leads to -/

/-- The outcome is a next state with a property. -/
def Leads (P : State → Prop) (o : Out) : Prop := ∃ t, o = .next t ∧ P t

theorem Leads.of_next {P : State → Prop} {o : Out} {t : State} (h : Leads P o) (ht : o = .next t) : P t := by
  obtain ⟨u, hu, hp⟩ := h
  obtain rfl : u = t := by simpa [hu] using ht
  exact hp

theorem leads_next {P : State → Prop} {t : State} (h : P t) : Leads P (.next t) := ⟨t, rfl, h⟩

/-- An accepted request keeps what its act keeps and the port's own fields do not touch (R181). -/
theorem accept_keeps {P : State → Prop} (hport : ∀ {t : State} (f : Rqp → Rqp), P t → P (t.onRqp f)) {s : State}
    {act : Act} (hs : P s) (hact : ∀ t, P t → P (act t).1) : P (s.accept act) :=
  hport (fun r => { r with exec := some (act (s.onRqp fun r => { r with overrun := false })).2 })
    (hact _ (hport (fun r => { r with overrun := false }) hs))

/-- A request keeps what its act keeps and the port's own fields do not touch (R181, R183). -/
theorem leads_request {P : State → Prop} (hport : ∀ {t : State} (f : Rqp → Rqp), P t → P (t.onRqp f)) {s : State}
    {act : Act} (hs : P s) (hact : ∀ t, P t → P (act t).1) : Leads P (s.request act) := by
  refine leads_next ?_
  split
  · exact hs
  · split
    · exact hport _ hs
    · exact accept_keeps hport hs hact

/-- An event keeps what its effect keeps. -/
theorem leads_event {P : State → Prop} {s : State} {act : State → State} (hs : P s) (hact : P (act s)) :
    Leads P (s.event act) := by
  refine leads_next ?_
  split
  · exact hs
  · exact hact

/-- The state in which a request's act runs: OVERRUN is clear (R181). -/
def State.cleared (s : State) : State := s.onRqp fun q => { q with overrun := false }

/-- The outcome of a request: what stood stands, and at a ready port its answer is in execution, OVERRUN clear, and the rest of
the port as it was (R181). -/
def Requested (s : State) (o : Out) : Prop :=
  ∃ t, o = .next t ∧ Holds s t ∧ (s.Ready → ∃ a, t.rqp.exec = some a ∧ t.port = s.cleared.port)

theorem Requested.leads {s : State} {o : Out} (h : Requested s o) : Leads (Holds s) o := by
  obtain ⟨t, ht, hs, -⟩ := h
  exact ⟨t, ht, hs⟩

/-- An act on a record keeps what it keeps where the record stands. -/
theorem onRecord_keeps {P : State → Prop} {slot : Byte} {act : State → Slot → Allotment → State × Answer} {t : State}
    (h : P t) (hact : ∀ i r, t.record i = some r → P (act t i r).1) : P (onRecord slot act t).1 := by
  unfold onRecord
  split
  · exact h
  · split
    · exact h
    · next r hr => exact hact _ r hr

/-- An act on an entry of the unit table keeps what it keeps where the entry stands. -/
theorem onUnit_keeps {P : State → Prop} {index : Byte} {act : State → UnitIx → UnitEntry → State × Answer} {t : State}
    (h : P t) (hact : ∀ u e, t.flc.units.get u = some e → P (act t u e).1) : P (onUnit index act t).1 := by
  unfold onUnit
  split
  · exact h
  · split
    · exact h
    · next e he => exact hact _ e he

theorem onCauses_keeps {P : State → Prop} {causes : Byte} {act : State → CauseSet → State × Answer} {t : State}
    (h : P t) (hact : ∀ c, P (act t c).1) : P (onCauses causes act t).1 := by
  unfold onCauses
  split
  · exact h
  · exact hact _

theorem arbitrated_keeps {P : State → Prop} (harb : ∀ {t : State}, P t → P t.arbitrate) {act : Act} {t : State}
    (h : P (act t).1) : P (arbitrated act t).1 := by
  unfold arbitrated
  dsimp only
  split
  · exact harb h
  · exact h

/-! ## The requests on allotments -/

namespace Keeps

variable {s t : State}

theorem request {act : Act} (hact : ∀ t, Keeps s.cleared t → Keeps s.cleared (act t).1) : Requested s (s.request act) := by
  have hkeep : Keeps s.cleared (act s.cleared).1 := hact _ .refl
  have haccept : Holds s (s.accept act) :=
    (holds_onRqp s _).trans (hkeep.toHolds.trans
      (holds_onRqp (act s.cleared).1 fun r => { r with exec := some (act s.cleared).2 }))
  refine ⟨_, rfl, ?_, fun hready => ⟨(act s.cleared).2, ?_, ?_⟩⟩
  · split
    · exact .refl
    · split
      · exact holds_onRqp s _
      · exact haccept
  · simp only [hready.1, hready.2, Option.isSome_none, Bool.false_eq_true, if_false]
    rfl
  · simp only [hready.1, hready.2, Option.isSome_none, Bool.false_eq_true, if_false]
    exact hkeep.port

theorem event {act : State → State} (hact : Keeps s (act s)) : Leads (Holds s) (s.event act) :=
  leads_event .refl hact.toHolds

theorem arbitrated {act : Act} (h : Keeps s (act t).1) : Keeps s (arbitrated act t).1 :=
  arbitrated_keeps (P := Keeps s) arbitrate h

/-- An update of ALT that leaves the records, the switches, G_out and the strict slot. -/
theorem onAlt {f : Alt → Alt} (h : Keeps s t) (hf : (f t.alt).face = t.alt.face := by exact Eq.refl _) :
    Keeps s (t.onAlt f) := h.works (Works.refl.onAlt (congrArg Prod.fst hf)) fun _ _ x => Stands.onAlt x hf

end Keeps

/-- A posted record stands as R6 places it: IDLE. -/
theorem postedRecord_idle {kind : Byte} {target : TargetBytes} {claim idle quota tag : Half} {priority locked : Byte}
    {r : Allotment} (h : postedRecord kind target claim idle priority quota tag locked = some r) : r.state = .idle := by
  unfold postedRecord at h
  split at h
  · obtain rfl := Option.some.inj h
    rfl
  · cases h

/-- The constraints tie the kind SAW to the clutch and keep a CRITICAL record from a quota (R3). -/
theorem constraints_kind {s : State} {r : Allotment} (h : s.constraints r = true) :
    (r.kind = .saw ↔ r.target = .clutch) ∧ (r.kind = .critical → r.quota = 0) := by
  unfold State.constraints at h
  split at h <;> simp_all

/-- The constraints keep a SAW record from a quota (R3). -/
theorem constraints_saw {s : State} {r : Allotment} (h : s.constraints r = true) (hk : r.kind = .saw) : r.quota = 0 := by
  unfold State.constraints at h
  split at h <;> simp_all

/-- An IDLE record stored in a VACANT slot: a target that none names, a kind that goes with it, not CRITICAL or safe. -/
theorem Keeps.placeRecord {s t : State} {i : Slot} {r : Allotment} (h : Keeps s t) (hi : t.record i = none)
    (hnew : ∀ j q, t.record j = some q → q.target ≠ r.target) (hkind : r.kind = .saw ↔ r.target = .clutch)
    (hcrit : r.critSafe) (hst : r.state = .idle) : Keeps s (t.setRecord i (some r)) := by
  have htarget : ∀ j q, j ≠ i → t.record j = some q → q.target ≠ r.target := fun j q _ => hnew j q
  have hrec : ∀ j q, (t.setRecord i (some r)).record j = some q → (j = i ∧ q = r) ∨ (j ≠ i ∧ t.record j = some q) := by
    intro j q hq
    by_cases e : j = i
    · subst e
      rw [record_setRecord_self] at hq
      exact .inl ⟨rfl, (Option.some.inj hq).symm⟩
    · rw [record_setRecord_ne _ _ e] at hq
      exact .inr ⟨e, hq⟩
  refine h.trans ⟨⟨⟨id, id, id, id, id, id, fun hs => ?_, fun hs => ?_, fun hs => ?_⟩,
    fun _ _ x => x.place hi hnew hkind hst⟩, rfl⟩
  · intro j k q q' hq hq' heq
    rcases hrec j q hq with ⟨rfl, rfl⟩ | ⟨hj, hq⟩ <;> rcases hrec k q' hq' with ⟨rfl, rfl⟩ | ⟨hk, hq'⟩
    · rfl
    · exact absurd heq.symm (htarget k _ hk hq')
    · exact absurd heq (htarget j _ hj ‹t.record j = some _›)
    · exact hs j k q q' hq hq' heq
  · intro j q hq
    rcases hrec j q hq with ⟨rfl, rfl⟩ | ⟨-, hq⟩
    · exact hkind
    · exact hs j q hq
  · intro j q hq
    rcases hrec j q hq with ⟨rfl, rfl⟩ | ⟨-, hq⟩
    · exact hcrit
    · exact hs j q hq

namespace Keeps

variable {s t : State}

theorem post {r : Allotment} (h : Keeps s t) (hidle : r.state = .idle) (hc : t.constraints r = true) :
    Keeps s (t.post r).1 := by
  simp only [State.post]
  split
  · exact h
  · next htaken =>
    simp only [Bool.or_eq_true, not_or, Bool.not_eq_true, Option.isSome_eq_false_iff,
      Option.isNone_iff_eq_none] at htaken
    split
    · exact h
    · next i hi =>
      refine (h.placeRecord (freeSlot_some hi) (fun j q hq heq => ?_) (constraints_kind hc).1 (fun hk => ?_) hidle).onAlt
        (f := fun a => { a with changed := a.changed.set i false })
      · exact slotOf_none htaken.1.1 hq heq
      · exact ⟨(constraints_kind hc).2 hk, by simp [hidle], by simp [hidle], by simp [hidle], by simp [hidle]⟩

end Keeps

namespace Works

variable {s t : State}

theorem stepDifference {before after : Nat} (h : Works s t) : Works s (t.stepDifference before after) := by
  unfold State.stepDifference
  split
  · exact h.ballastStep
  · exact h.ballastStep

theorem balanceAmend {before after : Allotment} (h : Works s t) : Works s (t.balanceAmend before after) := by
  unfold State.balanceAmend
  split
  · exact h.onAlt
  · split
    · dsimp only
      split
      · exact h.stepDifference
      · exact h.stepDifference.stepDifference
    · exact h.stepDifference
  all_goals exact h

theorem quotaRelease {i : Slot} (h : Works s t) : Works s (t.quotaRelease i) := by
  unfold State.quotaRelease
  split
  · exact h
  · next r hr =>
    split
    · have hcrit : RecState.critFree (if r.wanted then .pending else .idle) := by
        split <;> simp [RecState.critFree]
      exact (h.setRecord_some (passes_critFree hr (hst := hcrit))).noteChange
    · exact h

theorem amended {i : Slot} {r r' : Allotment} (h : Works s t) (hp : t.Passes i r') : Works s (t.amended i r r') := by
  unfold State.amended
  dsimp only
  split
  · exact (h.setRecord_some hp).balanceAmend
  · exact ((h.setRecord_some hp).balanceAmend.quotaHold).quotaRelease

end Works

/-- An amended record that meets the constraints follows: a CRITICAL one is given no quota (R3). -/
theorem passes_amend {t : State} {i : Slot} {r : Allotment} (hr : t.record i = some r) {flags priority locked : Byte}
    {claim idle quota tag : Half} (hc : t.constraints (r.amend flags claim idle priority quota locked tag) = true) :
    t.Passes i (r.amend flags claim idle priority quota locked tag) :=
  ⟨r, hr, rfl, rfl, fun hsafe hk => ⟨(constraints_kind hc).2 hk, (hsafe hk).2⟩⟩

/-- What FREE makes of a record follows (R17). -/
theorem Allotment.follows_freed (r : Allotment) : r.Follows r.freed := by
  unfold Allotment.freed
  split
  · exact r.follows_toPending
  · exact follows_of_critFree rfl rfl rfl (by simp [RecState.critFree])

/-- The day turn changes no target, kind or quota, and sheds no CRITICAL record: none is quota-held (R114). -/
theorem Allotment.follows_dayTurn (r : Allotment) : r.Follows r.dayTurn := by
  unfold Allotment.dayTurn
  split
  · next h => exact ⟨rfl, rfl, fun hc hk => absurd h (hc hk).2.2.2.1⟩
  · next h => exact ⟨rfl, rfl, fun hc hk => absurd h (hc hk).2.2.2.2⟩
  all_goals exact follows_of_eq rfl rfl rfl rfl

namespace Keeps

variable {s t : State}

theorem dayTurn (h : Keeps s t) : Keeps s (t.onAlt Alt.dayTurn) := by
  refine h.trans ⟨⟨stays_onAlt fun i r' hr' => ?_, fun _ _ => Sound.dayTurn⟩, rfl⟩
  rw [record_dayTurn] at hr'
  obtain ⟨r, hr, rfl⟩ := Option.map_eq_some_iff.mp hr'
  exact ⟨r, hr, r.follows_dayTurn⟩

theorem hostDemand {slot : Byte} {want : Bool} (h : Keeps s t) : Keeps s (hostDemand slot want t).1 := by
  refine onRecord_keeps (P := Keeps s) h fun i r hr => ?_
  split
  · exact h
  · next hk => exact h.works Works.refl.setWanted fun _ _ x => x.setWanted hr hk _ _

end Keeps

end Sys2Proof.Machine
end

section
/-! SUPPORT. Every command, and so every step, keeps the standing properties that hold each by itself. -/

namespace Sys2Proof.Machine

-- One body after another: hypotheses with a default proof would else hold a thread each.
set_option Elab.async false

/-! ## The state after reset -/

/-- Every position of the unit table is empty after reset (R134). -/
@[simp] theorem reset_unit (u : UnitIx) : State.reset.flc.units.get u = none := by simp [State.reset, Flc.reset, Vector.get]

theorem Params.defaults_get (p : Param) : Params.defaults.get p = p.default := by
  cases p <;> rfl

theorem reset_paramsOk : State.reset.ParamsOk := by
  refine ⟨fun p => ?_, ?_⟩
  · show p.range.1 ≤ Params.defaults.get p ∧ Params.defaults.get p ≤ p.range.2
    rw [Params.defaults_get]
    cases p <;> decide
  · show Params.defaults.crossLimits
    simp only [Params.crossLimits, Params.defaults_get]
    decide

theorem reset_identitiesOk : State.reset.IdentitiesOk := by
  refine ⟨fun u v e e' he => ?_, Nat.zero_le _, List.Pairwise.nil, fun _ _ _ => List.not_mem_nil⟩
  simp at he

/-- Whatever a state has, the state after reset has too. -/
theorem holds_reset (s : State) : Holds s State.reset where
  params _ := reset_paramsOk
  ballast _ := ⟨Nat.zero_le _, fun _ => rfl⟩
  spare _ _ := rfl
  gate _ := Nat.zero_le _
  cuts _ := Nat.zero_le _
  identities _ := reset_identitiesOk
  targets _ _ _ _ _ hr := by simp at hr
  kinds _ _ _ hr := by simp at hr
  critical _ _ _ hr := by simp at hr
  sound c q _ := reset_sound c q

namespace Keeps

variable {s t : State}

/-! ## The unit table -/

/-- The unit table without an entry has the identities it had. -/
theorem dropUnit {u : UnitIx} (h : Keeps s t) : Keeps s (t.onFlc fun f => f.dropUnit u) := by
  have hsub : ∀ v e, (t.flc.dropUnit u).units.get v = some e → t.flc.units.get v = some e := by
    intro v e he
    by_cases hv : v = u
    · subst hv
      exact absurd ((vector_get_set_self ..).symm.trans he) (by simp)
    · exact (vector_get_set_ne _ _ hv).symm.trans he
  refine h.trans (keeps_onFlc fun ⟨hd, hlen, hord, hnot⟩ => ⟨fun v w e e' he he' => ?_, hlen, hord, fun v e he => ?_⟩)
  · exact hd v w e e' (hsub v e he) (hsub w e' he')
  · exact hnot v e (hsub v e he)

/-- A new entry of an identity that none holds, taken out of the found list (R136). -/
theorem adoptUnit {u : UnitIx} {x : Identity} {now : Nat} (h : Keeps s t) (hnone : t.flc.unitOf x = none) :
    Keeps s (t.onFlc fun f =>
      { f.setUnit u (some (newEntry x now)) with found := f.found.filter fun y => y != x }) := by
  have hentry : ∀ v e, (t.flc.setUnit u (some (newEntry x now))).units.get v = some e →
      (v = u ∧ e.identity = x) ∨ (v ≠ u ∧ t.flc.units.get v = some e) := by
    intro v e he
    by_cases hv : v = u
    · subst hv
      obtain rfl := Option.some.inj ((vector_get_set_self ..).symm.trans he)
      exact .inl ⟨rfl, rfl⟩
    · exact .inr ⟨hv, (vector_get_set_ne _ _ hv).symm.trans he⟩
  refine h.trans (keeps_onFlc fun ⟨hd, hlen, hord, hnot⟩ =>
    ⟨fun v w e e' he he' hid => ?_, (List.length_filter_le ..).trans hlen, hord.filter _, fun v e he hin => ?_⟩)
  · rcases hentry v e he with ⟨hv, hex⟩ | ⟨hv, he⟩ <;> rcases hentry w e' he' with ⟨hw, hex'⟩ | ⟨hw, he'⟩
    · rw [hv, hw]
    · exact absurd (hid.symm.trans hex) (unitOf_none hnone he')
    · exact absurd (hid.trans hex') (unitOf_none hnone he)
    · exact hd v w e e' he he' hid
  · obtain ⟨hin, hne⟩ := List.mem_filter.mp hin
    rcases hentry v e he with ⟨-, hex⟩ | ⟨-, he⟩
    · simp [hex] at hne
    · exact hnot v e he hin

theorem enrol (h : Keeps s t) (e : Enrolment) : Keeps s (t.onFlc fun f => { f with found := [], enrol := e }) :=
  h.trans (keeps_onFlc fun ⟨hd, _, _, _⟩ => ⟨hd, Nat.zero_le _, List.Pairwise.nil, fun _ _ _ => List.not_mem_nil⟩)

/-- The lowest identity taken out of the found list (R139). -/
theorem takeFound {x : Identity} {rest : List Identity} (h : Keeps s t) (hfound : t.flc.found = x :: rest) :
    Keeps s (t.onFlc fun f => { f with found := rest }) := by
  refine h.trans (keeps_onFlc fun ⟨hd, hlen, hord, hnot⟩ => ⟨hd, ?_, ?_, fun u e he hin => ?_⟩)
  · rw [hfound] at hlen
    exact (Nat.le_succ _).trans hlen
  · rw [hfound] at hord
    exact hord.of_cons
  · exact hnot u e he (hfound ▸ List.mem_cons_of_mem _ hin)

/-! ## The parameters -/

/-- New parameters that keep the bank and the span leave every other standing property. -/
theorem onParams {f : Params → Params} (h : Keeps s t) (hparams : t.ParamsOk → (f t.params).inRange ∧ (f t.params).crossLimits)
    (hcap : (f t.params).get .bCap = t.param .bCap) (hspan : (f t.params).get .gateSpan = t.param .gateSpan) :
    Keeps s (t.onParams f) := by
  refine h.trans ⟨⟨⟨hparams, fun hs => ⟨?_, hs.2⟩, id, fun hs => ?_, id, id, id, id, id⟩, fun _ _ x => x.onParams f⟩, rfl⟩
  · exact hs.1.trans (le_of_eq (by rw [← hcap]; rfl))
  · exact le_of_le_of_eq hs hspan.symm

/-- A changed B_cap acts at once (R82): the accumulator is cut to the bank. -/
theorem capChanged {f : Params → Params} (h : Keeps s t)
    (hparams : t.ParamsOk → (f t.params).inRange ∧ (f t.params).crossLimits)
    (hspan : (f t.params).get .gateSpan = t.param .gateSpan) : Keeps s (t.onParams f).capChanged := by
  have hkept : t.gov.Kept (f t.params) (t.onParams f).capChanged.gov := Gov.kept_setBallast fun _ => Nat.min_le_right _ _
  have hacc : (t.onParams f).capChanged.gov.bAcc ≤ 16 * (f t.params).get .bCap := by
    refine le_of_eq_of_le ?_ (Nat.min_le_right t.gov.bAcc _)
    simp only [State.capChanged, Gov.setBallast, State.onGov, apply_ite Gov.bAcc, ite_self]
    rfl
  exact h.trans ⟨⟨⟨hparams, fun hs => ⟨hacc, hkept.duty hs.2⟩, hkept.spare,
    fun hs => hkept.gate (le_of_le_of_eq hs hspan.symm), id, id, id, id, id⟩, fun _ _ x => x.congr rfl⟩, rfl⟩

/-- A changed gate_span acts at once (R98): the position is cut to the span. -/
theorem spanChanged {f : Params → Params} (h : Keeps s t)
    (hparams : t.ParamsOk → (f t.params).inRange ∧ (f t.params).crossLimits)
    (hcap : (f t.params).get .bCap = t.param .bCap) : Keeps s (t.onParams f).spanChanged := by
  have hacc : ∀ {n : Nat}, n ≤ 16 * t.param .bCap → n ≤ 16 * (f t.params).get .bCap := by
    intro n hn
    rwa [hcap]
  unfold State.spanChanged
  split
  · exact h.trans ⟨⟨⟨hparams, fun hs => ⟨hacc hs.1, hs.2⟩, id, fun _ => le_refl _, id, id, id, id, id⟩,
      fun _ _ x => x.congr rfl⟩, rfl⟩
  · next hle =>
    exact h.trans ⟨⟨⟨hparams, fun hs => ⟨hacc hs.1, hs.2⟩, id, fun _ => not_lt.mp hle, id, id, id, id, id⟩,
      fun _ _ x => x.congr rfl⟩, rfl⟩

theorem paramSet {p : Param} {x : Nat} (h : Keeps s t) : Keeps s (t.paramSet p x) := by
  have hparams : t.ParamsOk → (setParams t.params p x).inRange ∧ (setParams t.params p x).crossLimits :=
    fun ⟨hr, hc⟩ => ⟨setParams_inRange hr p x, setParams_crossLimits hr hc p x⟩
  have hmove : ∀ q : Param, q = .bCap ∨ q = .gateSpan → q ≠ p → (setParams t.params p x).get q = t.param q := by
    intro q hq hne
    refine setParams_get_of_ne t.params x hne ?_
    rcases hq with rfl | rfl <;> cases p <;> simp [Param.movable]
  simp only [State.paramSet]
  split
  · next hsame =>
    have hkeep : ∀ q : Param, q = .bCap ∨ q = .gateSpan → (setParams t.params p x).get q = t.param q := by
      intro q hq
      by_cases hqp : q = p
      · rw [hqp]
        exact hsame
      · exact hmove q hq hqp
    exact h.onParams hparams (hkeep _ (.inl rfl)) (hkeep _ (.inr rfl))
  · split
    · next hp => exact h.capChanged hparams (hmove _ (.inr rfl) (by simp [hp]))
    · next hp =>
      split
      · next hp' => exact h.spanChanged hparams (hmove _ (.inl rfl) (by simp [hp']))
      · next hp' => exact h.onParams hparams (hmove _ (.inl rfl) (Ne.symm hp)) (hmove _ (.inr rfl) (Ne.symm hp'))

/-! ## The resets -/

theorem hardReset : Holds s s.hardReset :=
  (holds_reset s).trans ⟨⟨id, id, id, id, id, id, id, id, id⟩, fun _ _ x => x.congr rfl⟩

theorem resetEnds {a b : Bool} (h : Keeps s t) : Holds s (t.resetEnds a b) := by
  have hstraps := (h.onInu (f := fun u => u.resetEnds t.now)).toHolds.trans
    (holds_onRqp _ fun r => { r with form := if a then .i2c else .spi, addrBit := b })
  exact hstraps.trans ⟨⟨id, id, id, id, id, id, id, id, id⟩, fun _ _ x => x.congr rfl⟩

theorem tick : Holds s s.tick := by
  refine ⟨?_, fun _ _ => Sound.tick⟩
  unfold State.tick
  split
  · exact ⟨id, id, id, id, id, id, id, id, id⟩
  · exact ⟨id, id, id, id, id, id, id, id, id⟩

/-! ## The saw's own acts -/

theorem abortSaw (h : Keeps s t) : Keeps s t.abortSaw.1 := by
  have hwork : Works t t.abortWork := ((Works.refl.onSaw.clearCutWanted).onSaw).sawWant
  simp only [State.abortSaw]
  split
  · rw [done_fst]
    exact h.works hwork.afterReturn fun _ _ x => Stands.afterReturn (Sound.abortWork x).1 (Sound.abortWork x).2 _
  · rw [accepted_fst]
    exact h.works hwork.enterReturning fun _ _ x => Stands.enterReturning (Sound.abortWork x).1 (Sound.abortWork x).2 _

end Keeps

end Sys2Proof.Machine
end

section
/-! SUPPORT. Each command keeps the standing properties that hold each by itself; so does every step. -/

namespace Sys2Proof.Machine

-- One body after another: hypotheses with a default proof would else hold a thread each.
set_option Elab.async false

namespace Keeps

variable {s : State}

/-- What an act keeps before it answers, it keeps. -/
theorem done {t : State} {p : List Byte} (h : Keeps s t) : Keeps s (done t p).1 := h

theorem accepted {t : State} (h : Keeps s t) : Keeps s (accepted t).1 := h

/-! ## The requests on allotments -/

theorem execPost {kind : Byte} {target : TargetBytes} {claim idle : Half} {priority : Byte} {quota tag : Half}
    {locked : Byte} : Requested s (execPost kind target claim idle priority quota tag locked s) := by
  refine request fun t h => ?_
  split
  · exact h
  · next r hr =>
    split
    · next hc => exact h.post (postedRecord_idle hr) (Bool.and_eq_true_iff.mp hc).2
    · exact h

theorem execAmend {slot flags : Byte} {claim idle : Half} {priority : Byte} {quota : Half} {locked : Byte} {tag : Half} :
    Requested s (execAmend slot flags claim idle priority quota locked tag s) := by
  refine request fun t h => arbitrated ?_
  split
  · refine onRecord_keeps (P := Keeps _) h fun i r hr => ?_
    dsimp only
    split
    · exact h
    · split
      · exact h
      · next hc =>
        split
        · exact h
        · have hfits : t.constraints (r.amend flags claim idle priority quota locked tag) = true := by simp_all
          exact (h.works (Works.refl.amended (passes_amend hr hfits)) fun _ _ x =>
            x.amended hr rfl fun hk => constraints_saw hfits hk).done
  · exact h

theorem execRetire {slot : Byte} : Requested s (execRetire slot s) := by
  refine request fun t h => arbitrated (onRecord_keeps (P := Keeps _) h fun i r hr => ?_)
  have hvacate : t.record i = some r → r.state.atRest → Keeps s.cleared (((t.setRecord i none).forgetChange i).checkStrict) :=
    fun hr hrest => h.works Works.refl.setRecord_none.forgetChange.checkStrict fun _ _ x => x.vacate hr hrest
  split
  · exact h
  · next hsaw =>
    have hrelease : Keeps s.cleared (t.release false i .vacant (some .retired)) := by
      refine h.works (Works.refl.release (mayRelease_of_critFree (by simp [Dest.critFree]) i)) fun _ _ x => ?_
      by_cases hk : r.kind = .saw
      · have hst : t.saw.st ≠ .feeding := fun e => hsaw ⟨hk, by simp [e], by simp [e]⟩
        exact x.release (.inl (.inr hst)) false _
      · exact x.release (.inr fun p hp => Option.some.inj (hr.symm.trans hp) ▸ hk) false _
    split
    · next hst => exact hvacate hr (by simp [RecState.atRest, hst])
    · next hst => exact hvacate hr (by simp [RecState.atRest, hst])
    · next hst => exact hvacate hr (by simp [RecState.atRest, hst])
    · next hst => exact hvacate hr (by simp [RecState.atRest, hst])
    · exact hrelease
    · exact hrelease
    · next hst =>
      exact h.works (Works.refl.setRecord_some (passes_critFree hr)) fun _ _ x => x.redirect hr hst ⟨rfl, rfl⟩ rfl

theorem execHold {slot : Byte} : Requested s (execHold slot s) := by
  refine request fun t h => arbitrated (onRecord_keeps (P := Keeps _) h fun i r hr => ?_)
  have hwaiting : r.state.atRest → Keeps s.cleared ((t.setRecord i (some { r with state := .held .host })).checkStrict) :=
    fun hrest => h.works (Works.refl.setRecord_some (passes_critFree hr)).checkStrict fun _ _ x => x.holdWaiting hr hrest
  have hrelease : Keeps s.cleared (t.release false i (.held .host) none) :=
    h.works (Works.refl.release (mayRelease_of_critFree (by simp [Dest.critFree]) i)) fun _ _ x =>
      x.release (.inl (.inl (.inr ⟨_, rfl⟩))) false _
  have hredirect : ∀ d, r.state = .releasing d →
      Keeps s.cleared (t.setRecord i (some { r with state := .releasing (.held .host) })) := fun d hst =>
    h.works (Works.refl.setRecord_some (passes_critFree hr)) fun _ _ x => x.redirect hr hst ⟨rfl, rfl⟩ rfl
  split
  · next hst => exact hwaiting (by simp [RecState.atRest, hst])
  · next hst => exact hwaiting (by simp [RecState.atRest, hst])
  · exact hrelease
  · exact hrelease
  · next hst => exact hredirect _ hst
  · next hst => exact hredirect _ hst
  all_goals exact h

theorem execFree {slot : Byte} : Requested s (execFree slot s) := by
  refine request fun t h => onRecord_keeps (P := Keeps _) h fun i r hr => ?_
  have hfreed : ∀ x, r.state = .held x → Keeps s.cleared (t.setRecord i (some r.freed)) := fun x hst =>
    h.works (Works.refl.setRecord_some ⟨r, hr, r.follows_freed⟩) fun _ _ y => y.freed hr hst
  split
  · next hst => exact hfreed _ hst
  · next hst => exact hfreed _ hst
  · next hst =>
    split
    · exact h
    · exact hfreed _ hst
  all_goals exact h

theorem answerFound {t : State} (h : Keeps s t) {i : Option Slot} : Keeps s (t.answerFound i).1 := by
  cases i <;> exact h

theorem execWalkFrom {slot : Byte} : Requested s (execWalkFrom slot s) := by
  refine request fun t h => ?_
  split
  · exact h.onAlt.done
  · exact h

theorem execWalkNext : Requested s (execWalkNext s) := by
  refine request fun t h => ?_
  split
  · exact h.onAlt.done
  · exact h

theorem execNextChanged : Requested s (execNextChanged s) := by
  refine request fun t h => ?_
  split
  · exact h.works Works.refl.forgetChange fun _ _ x => x.forgetChange _
  · exact h

theorem execFind {target : TargetBytes} : Requested s (execFind target s) := by
  refine request fun t h => ?_
  split
  · exact h.answerFound
  · exact h

theorem execFindTag {tag : Half} : Requested s (execFindTag tag s) := by
  refine request fun t h => ?_
  split
  · exact h
  · exact h.answerFound

theorem execLookup {slot : Byte} : Requested s (execLookup slot s) :=
  request fun _ h => onRecord_keeps (P := Keeps _) h fun _ _ _ => h

/-! ## The governor -/

theorem execStart : Requested s (execStart s) := by
  refine request fun t h => ?_
  split
  · exact h
  · split
    · exact h
    · split
      · exact h
      · exact h.startRunup.accepted

theorem execStop : Requested s (execStop s) := by
  refine request fun t h => arbitrated ?_
  split
  iterate 3 exact h.stopSet.accepted
  all_goals exact h

theorem execClearTrip : Requested s (execClearTrip s) := by
  refine request fun t h => ?_
  split
  · exact h.enterIdle.govReport
  · exact h

theorem execGateHome : Requested s (execGateHome s) := by
  refine request fun t h => ?_
  repeat' split
  all_goals first | exact h | exact h.homeGate.accepted

theorem execHoldTimerExpiry : Leads (Holds s) (execHoldTimerExpiry s) := by
  refine event ?_
  split
  · exact refl.trip.arbitrate
  · exact refl

theorem execGateStepTimer : Leads (Holds s) (execGateStepTimer s) := by
  refine event ?_
  split
  · exact refl.gateStep.arbitrate
  · exact refl

theorem execRunupTimerExpiry : Leads (Holds s) (execRunupTimerExpiry s) := by
  refine event ?_
  split
  · exact refl.runupExpiry.arbitrate
  · exact refl

theorem execTrimTimerExpiry : Leads (Holds s) (execTrimTimerExpiry s) := by
  refine event ?_
  split
  · exact refl.onGov_same.trimDecision
  · exact refl

theorem execBallastPwmPeriod : Leads (Holds s) (execBallastPwmPeriod s) := by
  refine event ?_
  exact refl.onGov_same

/-! ## The inputs -/

theorem execInputSetup {channel polarity filter : Byte} : Requested s (execInputSetup channel polarity filter s) := by
  refine request fun t h => arbitrated ?_
  split
  · split
    · exact h.setup
    · exact h
  · exact h

theorem clearLatch {t : State} {c : Channel} {f : Inu → Inu} (h : Keeps s t) : Keeps s (t.clearLatch c f).1 := by
  unfold State.clearLatch
  split
  · exact h
  · exact h.onInu

theorem execInputClear {channel : Byte} : Requested s (execInputClear channel s) := by
  refine request fun t h => ?_
  repeat' split
  all_goals first | exact h | exact h.clearLatch

theorem execInputRawChange {channel : Channel} {high : Bool} :
    Leads (Holds s) (execInputRawChange channel high s) := leads_next refl.setChan.toHolds

theorem execTachLossTimer : Leads (Holds s) (execTachLossTimer s) := by
  refine event ?_
  split
  · exact refl.tachLost
  · exact refl

theorem execEncoderChange {a b z : Bool} : Leads (Holds s) (execEncoderChange a b z s) := by
  refine leads_next ?_
  split
  · exact refl.onInu.toHolds
  · exact refl.encoderMove.toHolds

/-! ## The outlet units and the line -/

theorem execEnrol : Requested s (execEnrol s) := by
  refine request fun t h => arbitrated ?_
  split
  · exact h
  · exact h.enrol _

theorem execAdopt {identity : Identity} : Requested s (execAdopt identity s) := by
  refine request fun t h => arbitrated ?_
  split
  · exact h
  · split
    · exact h
    · next hnone =>
      split
      · exact h
      · exact h.adoptUnit (by simpa using hnone)

theorem execDropUnit {index : Byte} : Requested s (execDropUnit index s) := by
  refine request fun t h => onUnit_keeps (P := Keeps _) h fun u e _ => ?_
  split
  · exact h
  · exact h.dropUnit

theorem execTakeFound : Requested s (execTakeFound s) := by
  refine request fun t h => ?_
  split
  · exact h
  · next hfound => exact h.takeFound hfound

theorem execPollTimerExpiry : Leads (Holds s) (execPollTimerExpiry s) := by
  refine event ?_
  split
  · exact refl.onFlc_same.pollUnits.arbitrate
  · exact refl

theorem execSweepTimerExpiry : Leads (Holds s) (execSweepTimerExpiry s) := by
  refine event ?_
  split
  · exact refl.onFlc_same.arbitrate
  · exact refl

theorem execBroadcastEnd : Leads (Holds s) (execBroadcastEnd s) := by
  refine event ?_
  split
  · exact refl.onFlc_same.arbitrate
  all_goals exact refl

theorem execReadStatusReply {reply : List Byte} : Leads (Holds s) (execReadStatusReply reply s) := by
  refine event ?_
  split
  · split
    · exact refl.statusReply.arbitrate
    all_goals exact refl
  · exact refl

theorem execSetOutletsReply {reply : List Byte} : Leads (Holds s) (execSetOutletsReply reply s) := by
  refine event ?_
  split
  · split
    · exact refl.appliedReply.arbitrate
    all_goals exact refl
  · exact refl

theorem execAckDemandReply {reply : List Byte} : Leads (Holds s) (execAckDemandReply reply s) := by
  refine event ?_
  split
  · split
    · exact refl.ackReply.arbitrate
    all_goals exact refl
  · exact refl

theorem execReadPlateReply {reply : List Byte} : Leads (Holds s) (execReadPlateReply reply s) := by
  refine event ?_
  split
  · split
    · exact refl.plateReply.arbitrate
    all_goals exact refl
  · exact refl

theorem execSeekEnd {readings : List Reading} : Leads (Holds s) (execSeekEnd readings s) := by
  refine event ?_
  split
  · exact refl.seekDone.arbitrate
  all_goals exact refl

/-! ## The port, the parameters, attention -/

theorem execWriteFrameDiscarded {frame : List Byte} : Leads (Holds s) (execWriteFrameDiscarded frame s) := by
  refine leads_event .refl ?_
  split
  · exact holds_onRqp s _
  · exact .refl

theorem execRequestDecodeFail {frame : List Byte} : Leads (Holds s) (execRequestDecodeFail frame s) := by
  refine leads_event .refl ?_
  have hport : ∀ {t : State} (f : Rqp → Rqp), Holds s t → Holds s (t.onRqp f) := fun f h => h.trans (holds_onRqp _ f)
  split
  · split
    · split
      · exact hport _ .refl
      · exact accept_keeps hport .refl fun _ h => h
    · exact .refl
  · exact .refl

theorem execRequestActEnd : Leads (Holds s) (execRequestActEnd s) := by
  refine leads_event .refl ?_
  split
  · exact holds_onRqp s _
  · exact .refl

theorem execSetParam {number : Byte} {value : Half} : Requested s (execSetParam number value s) := by
  refine request fun t h => ?_
  split
  · exact h
  · dsimp only
    split <;> exact h.paramSet

theorem execGetParam {number : Byte} : Requested s (execGetParam number s) := by
  refine request fun t h => ?_
  split <;> exact h

theorem execResetEnd {a b : Bool} : Leads (Holds s) (execResetEnd a b s) := by
  refine leads_next ?_
  split
  · exact refl.resetEnds
  · exact .refl

/-! ## The saw -/

theorem execCutAdd {thickness stroke ceiling : Half} : Requested s (execCutAdd thickness stroke ceiling s) := by
  refine request fun t h => ?_
  split
  · exact h
  · split
    · exact h
    · next hlen =>
      refine h.trans ⟨⟨⟨id, id, id, id, fun _ => ?_, id, id, id, id⟩, fun _ _ x => x.congr rfl⟩, rfl⟩
      show (t.saw.cuts ++ [_]).length ≤ Config.cutOrders
      rw [List.length_append]
      exact not_le.mp hlen

theorem execCutClear : Requested s (execCutClear s) := by
  refine request fun t h => ?_
  split
  · exact (h.works (Works.refl.onSaw (f := fun w => { w with cuts := [] }) List.nil_suffix) fun _ _ x => Stands.onSaw x rfl).done
  · exact h

theorem execSawStart : Requested s (execSawStart s) := by
  refine request fun t h => ?_
  split
  · exact h
  · split
    · exact h
    · next hidle =>
      split
      · exact h
      · exact (h.works Works.refl.onSaw.enterSaw.sawWant fun _ _ x => x.sawStart (by simpa using (not_or.mp hidle).2)).accepted

theorem execSawStop : Requested s (execSawStop s) := by
  refine request fun t h => ?_
  split
  · exact h
  · exact (h.works (Works.refl.onSaw (f := fun w => { w with stopFlag := true })) fun _ _ x => Stands.onSaw x rfl).done

theorem execSawAbort : Requested s (execSawAbort s) := by
  refine request fun t h => ?_
  split
  · exact h
  · exact h
  · exact h
  · split
    · exact h
    · exact h.abortSaw
  all_goals exact h.abortSaw

theorem execSawReset : Requested s (execSawReset s) := by
  refine request fun t h => ?_
  split
  · exact h
  · next hst =>
    split
    · exact h
    · split
      · exact h
      · exact (h.works Works.refl.enterSaw.onSaw fun _ _ x => x.sawReset (not_not.mp hst)).done

theorem execSpinupTimerExpiry : Leads (Holds s) (execSpinupTimerExpiry s) := by
  refine event ?_
  split
  · next hst => exact refl.works Works.refl.spunUp fun _ _ x => x.spunUp (by simp [hst.2])
  · exact refl

theorem setworksStep {k : SettingRec} (hst : s.saw.st = .setting) : Keeps s (s.setworksStep k) := by
  simp only [State.setworksStep]
  split
  · exact refl.works Works.refl.onSaw.beginSetWait fun _ _ x =>
      Stands.beginSetWait (Stands.onSaw x rfl) (by simp [hst])
  · exact refl.works Works.refl.onSaw.onSaw fun _ _ x => Stands.onSaw (Stands.onSaw x rfl) rfl

theorem execSetworksStep : Leads (Holds s) (execSetworksStep s) := by
  refine event ?_
  split
  · split
    · next hst => exact setworksStep hst.1
    · exact refl
  · exact refl

theorem execSetworksWaitExpiry : Leads (Holds s) (execSetworksWaitExpiry s) := by
  refine event ?_
  split
  · exact refl.sawFault
  · exact refl

theorem execSettleTimerExpiry : Leads (Holds s) (execSettleTimerExpiry s) := by
  refine event ?_
  split
  · next hst =>
    refine refl.works Works.refl.onSaw.enterFeedWait fun _ _ x => Stands.enterFeedWait (Stands.onSaw x rfl) ?_
    exact (x.still (by simp [hst.2])).congr rfl
  · exact refl

theorem feedStep {k : StrokeRec} (hst : s.saw.st = .feeding) : Keeps s (s.feedStep k) := by
  simp only [State.feedStep]
  split
  · exact refl.works Works.refl.onSaw.strokeEnd fun _ _ x => Stands.strokeEnd (Stands.onSaw_feeding x hst rfl)
  · exact refl.works Works.refl.onSaw fun _ _ x => Stands.onSaw_feeding x hst rfl

theorem execFeedStep : Leads (Holds s) (execFeedStep s) := by
  refine event ?_
  split
  · split
    · next hst => exact feedStep hst.1
    · exact refl
  · exact refl

theorem returnStep {k : ReturnRec} : Keeps s (s.returnStep k) := by
  have hstep : ∀ (c : Prop) (q : Slot → Prop), Sound c q s → Sound c q (s.onSaw fun w =>
      { w with ret := some { k with issued := k.issued + 1 }, feed := .stepping false w.feedRate (stepInterval w.feedRate) }) :=
    fun _ _ x => Stands.onSaw_still x (fun _ _ e => (nomatch e)) rfl
  simp only [State.returnStep]
  split
  · exact refl.works Works.refl.onSaw.sawFault fun c q x => Stands.sawFault (hstep c q x) _
  · exact refl.works Works.refl.onSaw hstep

theorem execReturnStep : Leads (Holds s) (execReturnStep s) := by
  refine event ?_
  split
  · split
    · exact returnStep
    · exact refl
  · exact refl

theorem execClutchEngageTimeout : Leads (Holds s) (execClutchEngageTimeout s) := by
  refine event ?_
  split
  · next hw => exact refl.works Works.refl.clutchFails fun _ _ x => x.clutchFails hw
  all_goals exact refl

theorem execClutchReleaseTimeout : Leads (Holds s) (execClutchReleaseTimeout s) := by
  refine event ?_
  split
  · exact refl.works Works.refl.clutchSticks fun _ _ => Sound.clutchSticks
  all_goals exact refl

end Keeps

/-! ## Every command, every step -/

/-- Whatever request is executed, its act keeps what stands and leaves the port. -/
theorem exec_requested {c : Instr} (h : isRequest c = true) (s : State) : Requested s (exec c s) := by
  cases c with
  | post => exact Keeps.execPost
  | amend => exact Keeps.execAmend
  | retire => exact Keeps.execRetire
  | lookup => exact Keeps.execLookup
  | find => exact Keeps.execFind
  | findTag => exact Keeps.execFindTag
  | walkFrom => exact Keeps.execWalkFrom
  | walkNext => exact Keeps.execWalkNext
  | want => exact Keeps.request fun _ h => h.hostDemand
  | drop => exact Keeps.request fun _ h => Keeps.arbitrated h.hostDemand
  | hold => exact Keeps.execHold
  | free => exact Keeps.execFree
  | nextChanged => exact Keeps.execNextChanged
  | dayTurn => exact Keeps.request fun _ h => h.dayTurn
  | start => exact Keeps.execStart
  | stop => exact Keeps.execStop
  | clearTrip => exact Keeps.execClearTrip
  | gateHome => exact Keeps.execGateHome
  | govStatus => exact Keeps.request fun _ h => h
  | inputSetup => exact Keeps.execInputSetup
  | inputRead => exact Keeps.request fun _ h => h
  | inputClear => exact Keeps.execInputClear
  | enrol => exact Keeps.execEnrol
  | adopt => exact Keeps.execAdopt
  | dropUnit => exact Keeps.execDropUnit
  | unitInfo => exact Keeps.request fun _ h => onUnit_keeps (P := Keeps _) h fun _ _ _ => h
  | takeFound => exact Keeps.execTakeFound
  | cutAdd => exact Keeps.execCutAdd
  | cutClear => exact Keeps.execCutClear
  | cutList => exact Keeps.request fun _ h => h
  | sawStart => exact Keeps.execSawStart
  | sawStop => exact Keeps.execSawStop
  | sawAbort => exact Keeps.execSawAbort
  | sawReset => exact Keeps.execSawReset
  | sawStatus => exact Keeps.request fun _ h => h
  | setParam => exact Keeps.execSetParam
  | getParam => exact Keeps.execGetParam
  | attnMaskSet => exact Keeps.request fun _ h => onCauses_keeps (P := Keeps _) h fun _ => h.onRqp.done
  | attnMaskClear => exact Keeps.request fun _ h => onCauses_keeps (P := Keeps _) h fun _ => h.onRqp.done
  | attnRead => exact Keeps.request fun _ h => h
  | attnAck => exact Keeps.request fun _ h => onCauses_keeps (P := Keeps _) h fun _ => h.onRqp.done
  | restart => exact Keeps.request fun _ h => Keeps.arbitrated h.softRestart
  | identify => exact Keeps.request fun _ h => h
  | _ => cases h

/-- Whatever command is executed, the standing properties that hold each by itself are kept. -/
theorem exec_keeps (c : Instr) (s : State) : Leads (Holds s) (exec c s) := by
  cases c with
  | powerOnReset => exact leads_next Keeps.hardReset
  | pinReset => exact leads_next Keeps.hardReset
  | writeFrameDiscarded => exact Keeps.execWriteFrameDiscarded
  | requestDecodeFail => exact Keeps.execRequestDecodeFail
  | inputRawChange => exact Keeps.execInputRawChange
  | debounceAccept => exact Keeps.event (act := fun s => (s.acceptChange _).arbitrate) Keeps.refl.acceptChange.arbitrate
  | tachLossTimer => exact Keeps.execTachLossTimer
  | holdTimerExpiry => exact Keeps.execHoldTimerExpiry
  | gateStepTimer => exact Keeps.execGateStepTimer
  | runupTimerExpiry => exact Keeps.execRunupTimerExpiry
  | trimTimerExpiry => exact Keeps.execTrimTimerExpiry
  | clutchEngageTimeout => exact Keeps.execClutchEngageTimeout
  | clutchReleaseTimeout => exact Keeps.execClutchReleaseTimeout
  | spinupTimerExpiry => exact Keeps.execSpinupTimerExpiry
  | setworksStep => exact Keeps.execSetworksStep
  | setworksWaitExpiry => exact Keeps.execSetworksWaitExpiry
  | settleTimerExpiry => exact Keeps.execSettleTimerExpiry
  | feedStep => exact Keeps.execFeedStep
  | returnStep => exact Keeps.execReturnStep
  | encoderChange => exact Keeps.execEncoderChange
  | pollTimerExpiry => exact Keeps.execPollTimerExpiry
  | sweepTimerExpiry => exact Keeps.execSweepTimerExpiry
  | noPresence => exact Keeps.event (act := fun s => s.noPresence.arbitrate) Keeps.refl.noPresence.arbitrate
  | broadcastEnd => exact Keeps.execBroadcastEnd
  | readStatusReply => exact Keeps.execReadStatusReply
  | setOutletsReply => exact Keeps.execSetOutletsReply
  | ackDemandReply => exact Keeps.execAckDemandReply
  | readPlateReply => exact Keeps.execReadPlateReply
  | seekEnd => exact Keeps.execSeekEnd
  | requestActEnd => exact Keeps.execRequestActEnd
  | resetEnd => exact Keeps.execResetEnd
  | ballastPwmPeriod => exact Keeps.execBallastPwmPeriod
  | _ => exact (exec_requested rfl s).leads

/-- A property that every command, a microsecond and the queue keep, every step keeps. -/
theorem step_keeps {P : State → Prop} (hexec : ∀ (c : Instr) (s : State), P s → Leads P (exec c s))
    (htick : ∀ s : State, P s → P s.tick) (hqueue : ∀ (s : State) (q : List Instr), P s → P { s with pending := q })
    {s t : State} (hs : P s) (ht : step s = .next t) : P t := by
  unfold step at ht
  split at ht
  · exact (hexec _ _ (hqueue _ _ hs)).of_next ht
  · unfold State.idleStep at ht
    split at ht
    · exact (hexec _ _ hs).of_next ht
    · exact (leads_next (htick _ hs)).of_next ht

/-- Every step keeps the standing properties that hold each by itself. -/
theorem keeps_step {s t : State} (ht : step s = .next t) : Holds s t := by
  refine step_keeps (P := Holds s) (fun c u hu => ?_) (fun u hu => hu.trans Keeps.tick) (fun u q hu => hu.trans ?_) .refl ht
  · obtain ⟨v, hv, hk⟩ := exec_keeps c u
    exact ⟨v, hv, hu.trans hk⟩
  · exact ⟨⟨id, id, id, id, id, id, id, id, id⟩, fun _ _ x => x.congr rfl⟩

end Sys2Proof.Machine
end

section
/-! SUPPORT. The standing properties of every step. -/

namespace Sys2Proof.Machine

/-- Settles O58, from what every command keeps: SET_PARAM stores within the range and applies the cross-limits. -/
theorem parametersStayInRange : Obligations.ParametersStayInRange :=
  fun _ _ hs ht => (keeps_step ht).params hs

/-- Settles O30, from what every command keeps. -/
theorem ballastSpareGateAndCutsStayInRange : Obligations.BallastSpareGateAndCutsStayInRange :=
  fun _ _ ht => ⟨(keeps_step ht).ballast, (keeps_step ht).spare, (keeps_step ht).gate, (keeps_step ht).cuts⟩

/-- Settles O49, from what every command keeps. -/
theorem identitiesStayDistinct : Obligations.IdentitiesStayDistinct :=
  fun _ _ hs ht => (keeps_step ht).identities hs

/-- Settles O27, from what every command keeps. -/
theorem recordsStayDistinctAndCriticalKept : Obligations.RecordsStayDistinctAndCriticalKept :=
  fun _ _ ht => ⟨(keeps_step ht).targets, (keeps_step ht).critical⟩

/-- The switches, the strict slot, and under `c` G_out and the quotas, as one promise. -/
theorem sound_iff {c : Prop} {s : State} :
    Sound c (fun _ => c) s ↔ s.SwitchesOk ∧ s.StrictOk ∧ (c → s.GrantedOk ∧ s.SpentOk) := by
  have hrest : ∀ r : Allotment, r.mayRest ↔ (0 < r.quota → r.quota ≤ r.used →
      r.state ≠ .pending ∧ r.state ≠ .granted ∧ r.state ≠ .live) := by
    intro r
    rw [Allotment.mayRest, Allotment.spent_iff, and_imp]
  constructor
  · intro h
    exact ⟨⟨h.targets, h.kinds, h.relays, h.clutch, h.forward, h.cutting⟩, h.strict trivial,
      fun hc => ⟨h.granted hc, fun i r hr => (hrest r).mp (h.spent i hc r hr)⟩⟩
  · rintro ⟨⟨htargets, hkinds, hrelays, hclutch, hforward, hcutting⟩, hstrict, hcount⟩
    exact ⟨htargets, hkinds, hrelays, hclutch, fun hc => (hcount hc).1,
      fun i hc r hr => (hrest r).mpr ((hcount hc).2 i r hr), hforward, hcutting, fun _ => hstrict⟩

/-- Settles O56: every command keeps what stands between records, switches, feed and strict slot. -/
theorem switchesFollowTheirRecords : Obligations.SwitchesFollowTheirRecords := by
  intro s t hswitches hstrict ht
  obtain ⟨hswitches', hstrict', -⟩ :=
    sound_iff.mp ((keeps_step ht).sound False _ (sound_iff.mpr ⟨hswitches, hstrict, False.elim⟩))
  exact ⟨hswitches', hstrict'⟩

/-- With the strict slot a candidate its check changes nothing (R49). -/
theorem checkStrict_of_candidate {s : State} {i : Slot} (hi : s.alt.strict = some i) (hc : s.isCandidate i = true) :
    s.checkStrict = s := by
  simp [State.checkStrict, hi, hc]

/-- The strict slot given up: absent, its record's starve count 0 (R49). -/
theorem checkStrict_of_not_candidate {s : State} {i : Slot} (hi : s.alt.strict = some i) (hc : s.isCandidate i = false) :
    s.checkStrict = { s with alt := { s.alt with
      strict := none, slots := s.alt.slots.set i ((s.record i).map fun r => { r with starve := 0 }) } } := by
  simp only [State.checkStrict, hi, hc] <;> rfl

/-- Which records are candidates, by kind, state and quota (R41). -/
theorem isCandidate_of_record {s : State} {i : Slot} {r : Allotment} (hr : s.record i = some r) :
    s.isCandidate i = (!(decide (0 < r.quota ∧ r.quota ≤ r.used)) &&
      (match r.kind with
      | .ordinary => r.state == .pending || r.state == .shed
      | .critical => r.state == .pending
      | .saw => r.state == .pending || r.state == .shed || (r.state == .live && r.trimmed && s.saw.cutWanted))) := by
  simp only [State.isCandidate, hr, Allotment.spent, Bool.decide_and] <;> rfl

/-- Settles O15: every command keeps what stands, with G_out and the quotas counted; then the strict slot's check. -/
theorem strictSlotTotalAndQuotasHold : Obligations.StrictSlotTotalAndQuotasHold := by
  refine ⟨fun s t ht hswitches hstrict hgranted hspent => ?_, fun s => ⟨checkStrict_of_none, fun i => checkStrict_of_candidate,
    fun i => checkStrict_of_not_candidate, fun i r => isCandidate_of_record⟩⟩
  obtain ⟨-, hstrict', hcounted⟩ :=
    sound_iff.mp ((keeps_step ht).sound True _ (sound_iff.mpr ⟨hswitches, hstrict, fun _ => ⟨hgranted, hspent⟩⟩))
  exact ⟨hstrict', hcounted trivial⟩

/-- Settles O60: nothing is posted, adopted or switched after reset, and every parameter has its default. -/
theorem resetMeetsEveryInvariant : Obligations.ResetMeetsEveryInvariant := by
  obtain ⟨hswitches, hstrict, hcounted⟩ := sound_iff.mp (reset_sound True fun _ => True)
  exact ⟨reset_paramsOk, ⟨Nat.zero_le _, fun _ => rfl⟩, fun _ => rfl, Nat.zero_le _, fun i r hr => by simp at hr,
    hswitches.1, hswitches, hstrict, (hcounted trivial).1, (hcounted trivial).2, reset_identitiesOk, Nat.zero_le _⟩

/-- Settles O1: a step takes the command at the front of the queue. -/
theorem stepRunsTheFrontCommand : Obligations.StepRunsTheFrontCommand := by
  intro c rest s h
  simp only [step, h]

end Sys2Proof.Machine
end

section
/-! SUPPORT. The port's requests at a ready port, whatever their answer; the attention set bit by bit (R187 to R189); the bytes
of a record's payload (Table 11-5). -/

namespace Sys2Proof.Machine

-- each theorem's proof is checked before the next begins, so that few threads are needed
set_option Elab.async false

/-! ## Answers at a ready port -/




section
variable {s t : State} {act : Act} {c : ResultCode} {p : List Byte}

/-- A request at a ready port puts its act's answer in execution (R181). -/
theorem request_answers (h : s.Ready) (e : act s.cleared = (t.cleared, ⟨c, p⟩)) :
    s.request act = .next (t.answered c p) := by
  rw [request_of_ready h]
  exact congrArg (fun x : State × Answer => Host.Outcome.next (x.1.onRqp fun r => { r with exec := some x.2 })) e

/-- A request that ends with the arbitration of the line, carried out at a ready port (R145, R181). -/
theorem request_arbitrates (h : s.Ready) (e : act s.cleared = (t.cleared, ⟨c, p⟩)) (hc : c.carriedOut = true) :
    s.request (arbitrated act) = .next (t.arbitrate.answered c p) := by
  refine request_answers h ?_
  rw [arbitrated, e]
  exact congrArg (fun x => (x, (⟨c, p⟩ : Answer))) (if_pos hc)

/-- A request that would end with the arbitration of the line, refused at a ready port (R182). -/
theorem request_arbitrates_not (h : s.Ready) (e : act s.cleared = (t.cleared, ⟨c, p⟩)) (hc : c.carriedOut = false) :
    s.request (arbitrated act) = .next (t.answered c p) := by
  refine request_answers h ?_
  rw [arbitrated, e]
  exact congrArg (fun x => (x, (⟨c, p⟩ : Answer))) (if_neg (by simp [hc]))

end

/-! ## The attention set (R187 to R189) -/

/-- A request that names a set of causes, with bit 7 clear. -/
theorem causesOf_of_clear {causes : Byte} (h : causes.getLsbD 7 = false) : causesOf causes = some (causes.setWidth 7) := by
  simp only [causesOf, h, Bool.false_eq_true, if_false]

/-- Bit 7 names no cause. -/
theorem causesOf_of_set {causes : Byte} (h : causes.getLsbD 7 = true) : causesOf causes = none := by
  simp only [causesOf, h, if_true]

/-- A request on causes with bit 7 set is refused (R188). -/
theorem onCauses_of_set {causes : Byte} (h : causes.getLsbD 7 = true) (act : State → CauseSet → State × Answer) (s : State) :
    onCauses causes act s = refuse s .badField := by
  simp only [onCauses, causesOf_of_set h]

/-- A request on causes with bit 7 clear names the seven below it (R188). -/
theorem onCauses_of_clear {causes : Byte} (h : causes.getLsbD 7 = false) (act : State → CauseSet → State × Answer)
    (s : State) : onCauses causes act s = act s (causes.setWidth 7) := by
  simp only [onCauses, causesOf_of_clear h]

/-- The raw set does not depend on the mask. -/
theorem rawSet_onMask (s : State) (m : CauseSet) : (s.onRqp fun r => { r with mask := m }).rawSet = s.rawSet := rfl

/-- The latched causes are those of the bits from 2 up. -/
theorem latchedCauses_getLsbD : ∀ n < 7, latchedCauses.getLsbD n = decide (2 ≤ n) := by decide

/-- The level causes are those of the bits 0 and 1. -/
theorem levelCauses_getLsbD (s : State) {n : Nat} (h : 2 ≤ n) : s.levelCauses.getLsbD n = false := by
  unfold State.levelCauses
  rcases Nat.lt_or_ge n 7 with hn | hn
  · split <;> split <;> (interval_cases n <;> decide)
  · exact BitVec.getLsbD_of_ge _ _ hn

/-- An acknowledgement takes the named latched causes out of the raw set and leaves the level causes (R187, R189). -/
theorem rawSet_ack (s : State) (c : CauseSet) {n : Nat} (hn : n < 7) :
    (s.ack c).rawSet.getLsbD n = (s.rawSet.getLsbD n && (!c.getLsbD n || decide (n < 2))) := by
  have hlevel : (s.ack c).levelCauses = s.levelCauses := rfl
  simp only [State.rawSet, hlevel, BitVec.getLsbD_or, BitVec.getLsbD_and, latchedCauses_getLsbD n hn]
  rcases Nat.lt_or_ge n 2 with h2 | h2
  · simp [Nat.not_le.mpr h2, h2]
  · simp only [levelCauses_getLsbD s h2, Bool.or_false, Nat.not_lt.mpr h2, decide_false, h2, decide_true, Bool.and_true]
    simp [State.ack, hn]

/-- The line is pulled low exactly while a cause is raised and unmasked (R188). -/
theorem attention_iff {s : State} (h : s.inReset = false) :
    s.attention = true ↔ ∃ n, n < 7 ∧ s.rawSet.getLsbD n = true ∧ s.rqp.mask.getLsbD n = true := by
  have hzero : s.maskedSet = 0 ↔ ∀ n, n < 7 → s.maskedSet.getLsbD n = false := by
    constructor
    · intro hz n _
      rw [hz]
      exact BitVec.getLsbD_zero
    · intro hz
      exact BitVec.eq_of_getLsbD_eq fun n hn => (hz n hn).trans BitVec.getLsbD_zero.symm
  have hne : s.attention = true ↔ ¬ s.maskedSet = 0 := by simp [State.attention, h]
  rw [hne, hzero]
  simp [State.maskedSet, BitVec.getLsbD_and]

/-- The level cause of the found list (R187). -/
theorem rawSet_found (s : State) : s.rawSet.getLsbD 1 = !s.flc.found.isEmpty := by
  have hlatched : latchedCauses.getLsbD 1 = false := by decide
  simp only [State.rawSet, BitVec.getLsbD_or, BitVec.getLsbD_and, hlatched, Bool.and_false, Bool.false_or,
    State.levelCauses]
  cases s.anyChanged <;> cases s.flc.found.isEmpty <;> rfl

/-- Settles O59: a set of causes by its bit 7, then each request's set bit by bit; the line by the masked set. -/
theorem attentionFollowsTheMaskedSet : Obligations.AttentionFollowsTheMaskedSet := by
  intro s causes hready
  refine ⟨fun hset => ?_, fun hclear => ?_, attention_iff hready.1, fun i hi => ?_, fun hfound => ?_⟩
  · exact ⟨request_refused hready (onCauses_of_set hset _), request_refused hready (onCauses_of_set hset _),
      request_refused hready (onCauses_of_set hset _)⟩
  · refine ⟨⟨s.onRqp fun r => { r with mask := s.rqp.mask ||| causes.setWidth 7 },
        request_answers hready (onCauses_of_clear hclear _ _), rfl, rfl, fun n hn => ?_⟩,
      ⟨s.onRqp fun r => { r with mask := s.rqp.mask &&& ~~~(causes.setWidth 7) },
        request_answers hready (onCauses_of_clear hclear _ _), rfl, rfl, fun n hn => ?_⟩,
      ⟨s.ack (causes.setWidth 7), request_answers hready (onCauses_of_clear hclear _ _), rfl, fun n hn => ?_⟩⟩
    · simp [hn]
    · simp [hn]
    · rw [rawSet_ack s _ hn]
      simp [hn]
  · rw [rawSet_changed, anyChanged_iff]
    exact ⟨i, hi⟩
  · rw [rawSet_found]
    simpa using hfound

end Sys2Proof.Machine
end

section
/-! SUPPORT. The bytes of payloads: quantities, flags, and the places of a record's fields (Table 11-5). -/

namespace Sys2Proof.Machine

-- each theorem's proof is checked before the next begins, so that few threads are needed
set_option Elab.async false

/-! ## Quantities and flags -/

theorem beBytes_one (n : Nat) : beBytes 1 n = [BitVec.ofNat 8 n] := by simp [beBytes]

theorem beBytes_two (n : Nat) : beBytes 2 n = [BitVec.ofNat 8 (n / 256), BitVec.ofNat 8 n] := by simp [beBytes]

theorem beBytes_four (n : Nat) :
    beBytes 4 n = [BitVec.ofNat 8 (n / 16777216), BitVec.ofNat 8 (n / 65536), BitVec.ofNat 8 (n / 256), BitVec.ofNat 8 n] := by
  simp [beBytes]

@[simp] theorem byteAt_cons_zero (b : Byte) (l : List Byte) : byteAt (b :: l) 0 = b := rfl

@[simp] theorem byteAt_cons_succ (b : Byte) (l : List Byte) (n : Nat) : byteAt (b :: l) (n + 1) = byteAt l n := rfl

/-- A quantity below 2^16 is read back from its two bytes. -/
theorem two_bytes {n : Nat} (h : n < 65536) :
    (BitVec.ofNat 8 (n / 256)).toNat * 256 + (BitVec.ofNat 8 n).toNat = n := by
  simp only [BitVec.toNat_ofNat]
  omega

/-- The two bytes of a quantity are its low sixteen bits. -/
theorem two_bytes_mod (n : Nat) : (BitVec.ofNat 8 (n / 256) ++ BitVec.ofNat 8 n : Half).toNat = n % 65536 := by
  rw [BitVec.toNat_append, Nat.shiftLeft_eq, Nat.mul_comm, ← Nat.two_pow_add_eq_or_of_lt (BitVec.isLt _)]
  simp only [BitVec.toNat_ofNat]
  omega

/-- A quantity below 2^32 is read back from its four bytes. -/
theorem four_bytes {n : Nat} (h : n < 4294967296) :
    (BitVec.ofNat 8 (n / 16777216) ++ BitVec.ofNat 8 (n / 65536) : Half).toNat * 65536 +
      (BitVec.ofNat 8 (n / 256) ++ BitVec.ofNat 8 n : Half).toNat = n := by
  have hhigh : n / 16777216 = n / 65536 / 256 := by omega
  rw [hhigh, two_bytes_mod, two_bytes_mod]
  omega

/-! ## A record's payload (Table 11-5) -/

/-- The bytes of a record, each at its place. -/
theorem recordBytes_eq (i : Slot) (r : Allotment) :
    ∃ a b c : Byte, r.target.bytes = [a, b, c] ∧ recordBytes i (some r) =
      [BitVec.ofNat 8 i.val, r.state.code, r.state.destCode, r.state.holdCode,
        (match r.reason with | some x => x.code | none => 0), r.kind.code, a, b, c,
        BitVec.ofNat 8 (r.claim / 256), BitVec.ofNat 8 r.claim, BitVec.ofNat 8 (r.idle / 256), BitVec.ofNat 8 r.idle,
        BitVec.ofNat 8 r.priority, BitVec.ofNat 8 (r.quota / 256), BitVec.ofNat 8 r.quota,
        BitVec.ofNat 8 (r.used / 256), BitVec.ofNat 8 r.used,
        BitVec.ofNat 8 (r.residue / 16777216), BitVec.ofNat 8 (r.residue / 65536), BitVec.ofNat 8 (r.residue / 256),
        BitVec.ofNat 8 r.residue, BitVec.ofNat 8 (r.tag / 256), BitVec.ofNat 8 r.tag,
        flagsByte [r.wanted, r.locked, r.trimmed], BitVec.ofNat 8 r.starve] := by
  have h3 : ∃ a b c : Byte, r.target.bytes = [a, b, c] := by
    cases r.target <;> exact ⟨_, _, _, rfl⟩
  obtain ⟨a, b, c, ht⟩ := h3
  refine ⟨a, b, c, ht, ?_⟩
  simp only [recordBytes, ht, beBytes_one, beBytes_two, beBytes_four]
  rfl

/-- Three flags in a byte. -/
theorem flagsByte_three : ∀ a b c : Bool, (flagsByte [a, b, c]).getLsbD 0 = a ∧ (flagsByte [a, b, c]).getLsbD 1 = b ∧
    (flagsByte [a, b, c]).getLsbD 2 = c ∧ (flagsByte [a, b, c]).toNat < 8 := by decide

/-- Settles O17: the payload written out place by place, then each field read back at its place. -/
theorem recordPayloadLayout : Obligations.RecordPayloadLayout := by
  intro i r
  obtain ⟨a, b, c, ht, hbytes⟩ := recordBytes_eq i r
  rw [hbytes]
  refine ⟨⟨rfl, rfl⟩, rfl, ?_, ?_, fun h => ?_, fun h => ?_, fun h => ?_, ?_⟩
  · refine ht.symm.trans ?_
    cases r.target <;> rfl
  · intro place value hplace hvalue
    simp only [List.mem_cons, Prod.mk.injEq, List.not_mem_nil, or_false] at hplace
    rcases hplace with ⟨rfl, rfl⟩ | ⟨rfl, rfl⟩ | ⟨rfl, rfl⟩ | ⟨rfl, rfl⟩ | ⟨rfl, rfl⟩ <;> exact two_bytes hvalue
  · exact four_bytes h
  · exact Nat.mod_eq_of_lt h
  · exact Nat.mod_eq_of_lt h
  · exact flagsByte_three _ _ _

end Sys2Proof.Machine
end

section
/-! SUPPORT. The check byte (R128): run on through the right byte, each bit of it meets itself at the top of the register. -/

namespace Sys2Proof.Machine

-- each theorem's proof is checked before the next begins, so that few threads are needed
set_option Elab.async false

/-- The register before a data bit, from the register after it. -/
def crcUnbit (after : Byte) (bit : Bool) : Byte :=
  if after.getLsbD 0 then ((after ^^^ 7) >>> 1) ||| (if bit then 0 else 0x80)
  else (after >>> 1) ||| (if bit then 0x80 else 0)

/-- No data bit loses what the register held. -/
theorem crcUnbit_crcBit (reg : Byte) (bit : Bool) : crcUnbit (crcBit reg bit) bit = reg := by
  have h : ∀ n : Fin 256, ∀ x, crcUnbit (crcBit (BitVec.ofFin n) x) x = BitVec.ofFin n := by decide +kernel
  exact h reg.toFin bit

/-- A data bit that equals the register's top bit shifts the register. -/
theorem crcBit_of_msb {reg : Byte} {bit : Bool} (h : reg.msb = bit) : crcBit reg bit = reg <<< 1 := if_pos h

/-- After the bit `i` of a byte the register holds the lower bits of the byte at its top exactly when it held the bits from `i`
down before. -/
theorem crcBit_eq_shift_iff {reg b : Byte} {i : Nat} (hi : i < 8) :
    crcBit reg (b.getLsbD i) = b <<< (8 - i) ↔ reg = b <<< (7 - i) := by
  have htop : (b <<< (7 - i)).msb = b.getLsbD i := by
    have hplace : 8 - 1 - (7 - i) = i := by omega
    have hlow : ¬ 8 - 1 < 7 - i := by omega
    rw [BitVec.msb_eq_getLsbD_last, BitVec.getLsbD_shiftLeft, hplace, decide_eq_false hlow]
    rfl
  have hshift : crcBit (b <<< (7 - i)) (b.getLsbD i) = b <<< (8 - i) := by
    have hsum : 8 - i = 7 - i + 1 := by omega
    rw [crcBit_of_msb htop, hsum, ← BitVec.shiftLeft_add]
  constructor
  · intro h
    rw [← crcUnbit_crcBit reg (b.getLsbD i), h, ← hshift, crcUnbit_crcBit]
  · rintro rfl
    exact hshift

/-- After a byte the register is 0 exactly when it held that byte. -/
theorem crcByte_eq_zero_iff (reg b : Byte) : crcByte reg b = 0 ↔ reg = b := by
  have hend : (0 : Byte) = b <<< (8 - 0) := by
    rw [BitVec.shiftLeft_eq_zero le_rfl]
    rfl
  have hstart : b <<< (7 - 7) = b := BitVec.shiftLeft_zero b
  simp only [crcByte, List.foldl_cons, List.foldl_nil]
  rw [hend, crcBit_eq_shift_iff (by omega), show 7 - 0 = 8 - 1 from rfl, crcBit_eq_shift_iff (by omega),
    show 7 - 1 = 8 - 2 from rfl, crcBit_eq_shift_iff (by omega), show 7 - 2 = 8 - 3 from rfl,
    crcBit_eq_shift_iff (by omega), show 7 - 3 = 8 - 4 from rfl, crcBit_eq_shift_iff (by omega),
    show 7 - 4 = 8 - 5 from rfl, crcBit_eq_shift_iff (by omega), show 7 - 5 = 8 - 6 from rfl,
    crcBit_eq_shift_iff (by omega), show 7 - 6 = 8 - 7 from rfl, crcBit_eq_shift_iff (by omega), hstart]

/-- Settles O48: the register before the last byte is the check of the bytes before it. -/
theorem checkByteLeavesZero : Obligations.CheckByteLeavesZero := by
  intro bytes b
  rw [crc8, List.foldl_append, List.foldl_cons, List.foldl_nil, crcByte_eq_zero_iff, eq_comm]
  rfl

end Sys2Proof.Machine
end

section
/-! SUPPORT. The requests on records that are not switched: a demand change by the state it meets (Table 1-5), the searches by a
key and the walk (R11, R12), the day turn (R114). -/

namespace Sys2Proof.Machine

-- each theorem's proof is checked before the next begins, so that few threads are needed
set_option Elab.async false

/-! ## Records and the request's own change of the port -/

/-- A slot stored with what it holds stays as it is. -/
theorem setRecord_self {s : State} {i : Slot} {r : Option Allotment} (h : s.record i = r) : s.setRecord i r = s := by
  have hslots : s.alt.slots.set i r = s.alt.slots := by
    rw [← h]
    exact Vector.set_getElem_self _
  simp [State.setRecord, State.onAlt, hslots]

@[simp] theorem record_cleared (s : State) (i : Slot) : s.cleared.record i = s.record i := rfl

@[simp] theorem cleared_saw (s : State) : s.cleared.saw = s.saw := rfl

@[simp] theorem cleared_alt (s : State) : s.cleared.alt = s.alt := rfl

/-- The strict slot's check does not touch the port. -/
@[simp] theorem checkStrict_cleared (s : State) : s.cleared.checkStrict = s.checkStrict.cleared := by
  have hcand : ∀ i, s.cleared.isCandidate i = s.isCandidate i := fun _ => rfl
  unfold State.checkStrict
  simp only [cleared_alt, hcand, record_cleared]
  split
  · rfl
  · split <;> rfl

/-- A request on a slot that holds a record is the act on that record (R5). -/
theorem onRecord_of_slot {s : State} {slot : Byte} {i : Slot} {r : Allotment} (hi : slotNumber slot = some i)
    (hr : s.record i = some r) (act : State → Slot → Allotment → State × Answer) : onRecord slot act s = act s i r := by
  simp only [onRecord, hi, hr]

/-! ## A demand change (R13, Table 1-5) -/

section
variable {s : State} {i : Slot} {r : Allotment} {b : Bool}

/-- The demand is what is asked: nothing changes. -/
theorem setWanted_same (hr : s.record i = some r) {want : Bool} (hw : r.wanted = want) : s.setWanted b i want = s := by
  simp only [State.setWanted, hr, hw, if_true]

/-- Demand on an IDLE record: it becomes PENDING, or HELD for its quota. -/
theorem setWanted_on_idle (hr : s.record i = some r) (hw : r.wanted = false) (hst : r.state = .idle) :
    s.setWanted b i true =
      (s.setRecord i (some { r with wanted := true, reason := some .demandOn }.toPending)).noteChange b i := by
  simp only [State.setWanted, hr, hw, hst, Bool.false_eq_true, if_false]

/-- Demand on a record in another state is only noted. -/
theorem setWanted_on_other (hr : s.record i = some r) (hw : r.wanted = false) (hst : r.state ≠ .idle) :
    s.setWanted b i true = s.setRecord i (some { r with wanted := true }) := by
  simp only [State.setWanted, hr, hw, Bool.false_eq_true, if_false]
  cases hst' : r.state
  case idle => exact absurd hst' hst
  all_goals rfl

/-- Demand off a waiting record: it becomes IDLE, and the strict slot is checked. -/
theorem setWanted_off_waiting (hr : s.record i = some r) (hw : r.wanted = true)
    (hst : r.state = .pending ∨ r.state = .shed) :
    s.setWanted b i false =
      ((s.setRecord i (some { r with wanted := false, state := .idle, reason := some .demandOff })).noteChange b i).checkStrict := by
  rcases hst with hst | hst <;> simp only [State.setWanted, hr, hw, hst, Bool.true_eq_false, if_false]

/-- Demand off a switched record: it is released toward IDLE. -/
theorem setWanted_off_switched (hr : s.record i = some r) (hw : r.wanted = true)
    (hst : r.state = .granted ∨ r.state = .live) :
    s.setWanted b i false =
      (s.setRecord i (some { r with wanted := false })).beginRelease b i .idle (some .demandOff) := by
  rcases hst with hst | hst <;> simp only [State.setWanted, hr, hw, hst, Bool.true_eq_false, if_false]

/-- Demand off an IDLE, RELEASING or HELD record is only noted. -/
theorem setWanted_off_resting (hr : s.record i = some r)
    (hst : r.state = .idle ∨ (∃ d, r.state = .releasing d) ∨ ∃ h, r.state = .held h) :
    s.setWanted b i false = s.setRecord i (some { r with wanted := false }) := by
  cases hw : r.wanted
  · rw [setWanted_same hr hw, setRecord_self (by rw [hr, ← hw])]
  · rcases hst with hst | ⟨d, hst⟩ | ⟨h, hst⟩ <;> simp only [State.setWanted, hr, hw, hst, Bool.true_eq_false, if_false]

end

/-- A demand change by the host on a record that is not the saw's (R14). -/
theorem hostDemand_of_slot {s : State} {slot : Byte} {i : Slot} {r : Allotment} (hi : slotNumber slot = some i)
    (hr : s.record i = some r) (hk : r.kind ≠ .saw) (want : Bool) :
    hostDemand slot want s = done (s.setWanted false i want) [] := by
  rw [hostDemand, onRecord_of_slot hi hr, if_neg hk]

/-- A demand change by the host on the saw record is refused (R14). -/
theorem hostDemand_of_saw {s : State} {slot : Byte} {i : Slot} {r : Allotment} (hi : slotNumber slot = some i)
    (hr : s.record i = some r) (hk : r.kind = .saw) (want : Bool) : hostDemand slot want s = refuse s .wrongState := by
  rw [hostDemand, onRecord_of_slot hi hr, if_pos hk]

/-- A record that becomes PENDING, or HELD for its quota, written out (R13). -/
theorem toPending_eq (r : Allotment) :
    r.toPending = if 0 < r.quota ∧ r.quota ≤ r.used then { r with state := .held .quota, reason := some .quota }
      else { r with state := .pending } := by
  simp [Allotment.toPending, Allotment.spent]

/-- Settles O12: the host's demand by the state the record is in. -/
theorem hostDemandFollowsTheTable : Obligations.HostDemandFollowsTheTable := by
  intro s slot i r hready hi hr
  have hr' : s.cleared.record i = some r := hr
  refine ⟨fun hk => ⟨?_, ?_⟩, fun hk => ?_, fun hk hw hst => ?_, fun hk hst => ?_⟩
  · exact request_answers (t := s) hready (hostDemand_of_saw hi hr' hk true)
  · exact request_arbitrates_not (t := s) hready (hostDemand_of_saw hi hr' hk false) rfl
  · refine request_answers hready ((hostDemand_of_slot hi hr' hk true).trans (congrArg (done · []) ?_))
    cases hw : r.wanted
    · by_cases hst : r.state = .idle
      · rw [setWanted_on_idle hr' hw hst, toPending_eq]
        simp only [hst, ne_eq, not_true_eq_false, or_false, Bool.false_eq_true, if_false]
        split <;> rfl
      · rw [setWanted_on_other hr' hw hst, if_pos (.inr hst)]
        rfl
    · rw [setWanted_same hr' hw, if_pos (.inl rfl), setRecord_self (by rw [hr, ← hw])]
  · refine request_arbitrates hready ((hostDemand_of_slot hi hr' hk false).trans (congrArg (done · []) ?_)) rfl
    rw [setWanted_off_waiting hr' hw hst]
    exact checkStrict_cleared (s.setRecord i (some _))
  · refine request_arbitrates hready ((hostDemand_of_slot hi hr' hk false).trans (congrArg (done · []) ?_)) rfl
    rw [setWanted_off_resting hr' hst]
    rfl

/-! ## Finding records (R11, R12) -/

/-- The one slot that passes a test is the slot the search answers. -/
theorem slotSearch_of_unique {p : Slot → Bool} {i : Slot} (h : p i = true) (hone : ∀ j, p j = true → j = i) :
    allSlots.find? p = some i :=
  slotSearch_eq_some_iff.mpr ⟨h, fun j hj => Bool.eq_false_iff.mpr fun hp => hj.ne (hone j hp)⟩

/-- The slot of the one record that names a target. -/
theorem slotOf_of_unique {s : State} {i : Slot} {r : Allotment} (hr : s.record i = some r)
    (hone : ∀ j r', s.record j = some r' → r'.target = r.target → j = i) : s.slotOf r.target = some i := by
  refine slotSearch_of_unique (by simp [hr]) fun j hj => ?_
  rcases hj' : s.record j with _ | r'
  · simp [hj'] at hj
  · exact hone j r' hj' (by simpa [hj'] using hj)

/-- The place of a slot in a walk from a position. -/
def walkPlace (start i : Slot) : Nat := (i.val + 48 - start.val) % 48

/-- A walk's order lists the slot that stands at each place. -/
theorem walkOrder_getElem {start : Slot} {k : Nat} (hk : k < (walkOrder start).length) :
    walkPlace start (walkOrder start)[k] = k := by
  have hlen : (walkOrder start).length = 48 := by simp [walkOrder, allSlots]
  have hstart := start.isLt
  simp only [walkPlace, walkOrder, allSlots, List.getElem_map, List.getElem_finRange, Fin.val_add, Fin.val_cast]
  simp only [Config.slots] at *
  omega

/-- A walk meets first, of the slots that pass, the one at the least place. -/
theorem walk_find {start i : Slot} {p : Slot → Bool} (hi : p i = true)
    (hmin : ∀ j, walkPlace start j < walkPlace start i → p j = false) : (walkOrder start).find? p = some i := by
  have hlen : (walkOrder start).length = 48 := by simp [walkOrder, allSlots]
  have hplace : walkPlace start i < (walkOrder start).length := hlen ▸ Nat.mod_lt _ (by decide)
  have hat : (walkOrder start)[walkPlace start i] = i := by
    have h := walkOrder_getElem hplace
    have hi := i.isLt
    have hs := start.isLt
    have hw := ((walkOrder start)[walkPlace start i]).isLt
    refine Fin.ext ?_
    simp only [walkPlace, Config.slots] at *
    omega
  rw [List.find?_eq_some_iff_getElem]
  refine ⟨hi, walkPlace start i, hplace, hat, fun j hj => ?_⟩
  rw [hmin _ ((walkOrder_getElem (hj.trans hplace)).symm ▸ hj), Bool.not_false]

/-- Settles O18: each search answers the one slot its key names; a walk the first that holds a record. -/
theorem findAndWalkReturnRecords : Obligations.FindAndWalkReturnRecords := by
  refine ⟨fun s i r hready hr => ⟨fun target htarget hone => ?_, fun tag htag hrtag hone => ?_⟩, fun s hready =>
    ⟨fun slot i hi => ?_, fun i r hr hmin => ?_, fun hnone => ?_⟩⟩
  · refine request_done hready ?_
    simp only [htarget]
    have hslot : (s.onRqp fun q => { q with overrun := false }).slotOf r.target = some i := slotOf_of_unique hr hone
    simp only [State.answerFound, hslot, record_onRqp, hr]
  · refine request_done hready ?_
    have hslot : (allSlots.find? fun j => (s.record j).any fun r => r.tag == tag.toNat) = some i := by
      refine slotSearch_of_unique (by simp [hr, hrtag]) fun j hj => ?_
      obtain ⟨r', hr', htag'⟩ := (Option.any_eq_true _ _).mp hj
      exact hone j r' hr' ((beq_iff_eq.mp htag').trans hrtag.symm)
    simp only [htag, if_false, record_onRqp, hslot, State.answerFound, hr]
  · refine request_answers hready ?_
    simp only [slotNumber_of_val hi]
    rfl
  · refine request_answers hready ?_
    have hfind : ((walkOrder s.alt.walk).find? fun j => (s.record j).isSome) = some i :=
      walk_find (by simp [hr]) fun j hj => by simp [hmin j hj]
    simp only [cleared_alt, record_cleared, hfind, hr]
    rfl
  · refine request_answers (t := s) hready ?_
    have hfind : ((walkOrder s.alt.walk).find? fun j => (s.record j).isSome) = none :=
      List.find?_eq_none.mpr fun j _ => by simp [hnone j]
    simp only [cleared_alt, record_cleared, hfind]
    rfl

/-! ## The day turn (R114) -/

/-- A record through the day turn, written out by its state (R114). -/
theorem Allotment.dayTurn_eq (r : Allotment) : r.dayTurn = { r with
    used := 0
    state := if r.state = .held .quota then (if r.wanted then .pending else .idle)
      else if r.state = .releasing (.held .quota) then .releasing (if r.wanted then .shed else .idle)
      else r.state } := by
  unfold Allotment.dayTurn
  split <;> simp_all

/-- The change set after the day turn (R28, R114). -/
theorem changed_dayTurn (a : Alt) (i : Slot) :
    a.dayTurn.changed.get i = (a.changed.get i || (a.slots.get i).any Allotment.turned) := by
  show (Vector.ofFn _)[i.val] = _
  simp

/-- The slots whose records the day turn moves are those whose states differ before and after it. -/
theorem turnedSlots_eq (s : State) : s.turnedSlots = (List.finRange 48).filter fun i =>
    ((s.onAlt Alt.dayTurn).record i).map Allotment.state != (s.record i).map Allotment.state := by
  refine List.filter_congr fun i _ => ?_
  rw [record_dayTurn]
  rcases s.record i with _ | r
  · rfl
  · exact Bool.eq_iff_iff.mpr (by simp [Allotment.turned])

/-- Settles O20: the day turn is the table's own map over the slots, counted by the states it changes. -/
theorem dayTurnLiftsQuotaHolds : Obligations.DayTurnLiftsQuotaHolds := by
  intro s hready
  refine ⟨s.onAlt Alt.dayTurn, ?_, fun i => ⟨fun hnone => ?_, fun r hr => ?_⟩⟩
  · rw [← turnedSlots_eq]
    exact request_answers hready rfl
  · refine ⟨by rw [record_dayTurn, hnone, Option.map_none], ?_⟩
    rw [onAlt_alt, changed_dayTurn, show s.alt.slots.get i = none from hnone, Option.any_none, Bool.or_false]
  · refine ⟨r.dayTurn.state, ?_, ?_, ?_⟩
    · rw [record_dayTurn, hr, Option.map_some, Allotment.dayTurn_eq]
    · rw [Allotment.dayTurn_eq]
    · rw [onAlt_alt, changed_dayTurn, show s.alt.slots.get i = some r from hr, Option.any_some, Allotment.turned]

end Sys2Proof.Machine
end

section
/-! SUPPORT. Write frames and requests (R182, Table 11-2): what each decode check asks, and that the decoder and the encoder undo
each other. -/

namespace Sys2Proof

-- each theorem's proof is checked before the next begins, so that few threads are needed
set_option Elab.async false

/-! ## The checks of a frame (R182) -/

/-- A frame whose code names no request (R182). -/
theorem decodeFrame_unknown {code len : Byte} {params : List Byte} (h : code ∉ requestCodes) :
    decodeFrame (code :: len :: params) = .error .unknownRequest := by
  simp [decodeFrame, h]

/-- A frame of a known code whose length byte is above 32, not its parameters' number, or not the request's (R182). -/
theorem decodeFrame_badLength {code len : Byte} {params : List Byte} (hcode : code ∈ requestCodes)
    (h : 32 < len.toNat ∨ len.toNat ≠ params.length ∨ decodeRequest code params = none) :
    decodeFrame (code :: len :: params) = .error .badLength := by
  by_cases hlen : 32 < len.toNat ∨ len.toNat ≠ params.length
  · simp [decodeFrame, hcode, hlen]
  · have hreq : decodeRequest code params = none := by tauto
    simp [decodeFrame, hcode, hlen, hreq]

/-- A frame decodes to a request exactly when it passes every check. -/
theorem decodeFrame_eq_ok_iff {code len : Byte} {params : List Byte} {i : Instr} :
    decodeFrame (code :: len :: params) = .ok i ↔
      code ∈ requestCodes ∧ ¬ 32 < len.toNat ∧ len.toNat = params.length ∧ decodeRequest code params = some i := by
  by_cases hcode : code ∈ requestCodes
  · by_cases hlen : 32 < len.toNat ∨ len.toNat ≠ params.length
    · rw [decodeFrame_badLength hcode (by tauto)]
      exact ⟨nofun, fun ⟨_, h32, heq, _⟩ => absurd hlen (by tauto)⟩
    · obtain ⟨h32, heq⟩ : ¬ 32 < len.toNat ∧ len.toNat = params.length := by tauto
      rcases hreq : decodeRequest code params with _ | j
      · rw [decodeFrame_badLength hcode (.inr (.inr hreq))]
        simp
      · simp only [decodeFrame, hreq, List.contains_eq_mem, hcode, heq]
        simp [← heq, h32]
  · rw [decodeFrame_unknown hcode]
    simp [hcode]

/-! ## The bytes of quantities (R193, R194) -/

/-- The bits of a run whose last byte is known. -/
theorem getLsbD_byte_append {m : Nat} (hi : BitVec m) (lo : Byte) (n : Nat) :
    (hi ++ lo).getLsbD n = if n < 8 then lo.getLsbD n else hi.getLsbD (n - 8) := by
  rw [BitVec.getLsbD_append]

/-- A half is sent as its two bytes (R193). -/
theorem halfBytes_append (hi lo : Byte) : halfBytes (hi ++ lo) = [hi, lo] := by
  have hhigh : (hi ++ lo : Half).extractLsb' 8 8 = hi := BitVec.eq_of_getLsbD_eq fun n hn => by
    rw [BitVec.getLsbD_extractLsb', getLsbD_byte_append]
    simp [hn]
  have hlow : (hi ++ lo : Half).extractLsb' 0 8 = lo := BitVec.eq_of_getLsbD_eq fun n hn => by
    rw [BitVec.getLsbD_extractLsb', getLsbD_byte_append]
    simp [hn]
  rw [halfBytes, hhigh, hlow]

/-- A half comes back from its bytes. -/
theorem half_of_bytes (x : Half) : x.extractLsb' 8 8 ++ x.extractLsb' 0 8 = x := by
  refine BitVec.eq_of_getLsbD_eq fun n hn => ?_
  rw [getLsbD_byte_append, BitVec.getLsbD_extractLsb', BitVec.getLsbD_extractLsb']
  split
  · next h => simp [h]
  · next h => simp [show n - 8 < 8 by omega, show 8 + (n - 8) = n by omega]

/-- An identity comes back from its five bytes. -/
theorem identity_of_bytes (x : Identity) :
    x.extractLsb' 32 8 ++ x.extractLsb' 24 8 ++ x.extractLsb' 16 8 ++ x.extractLsb' 8 8 ++ x.extractLsb' 0 8 = x := by
  refine BitVec.eq_of_getLsbD_eq fun n hn => ?_
  interval_cases n <;> simp only [getLsbD_byte_append, BitVec.getLsbD_extractLsb'] <;> rfl

/-- The five bytes of an identity, read back. -/
theorem bytes_of_identity (a b c d e : Byte) :
    (a ++ b ++ c ++ d ++ e : Identity).extractLsb' 32 8 = a ∧ (a ++ b ++ c ++ d ++ e : Identity).extractLsb' 24 8 = b ∧
    (a ++ b ++ c ++ d ++ e : Identity).extractLsb' 16 8 = c ∧ (a ++ b ++ c ++ d ++ e : Identity).extractLsb' 8 8 = d ∧
    (a ++ b ++ c ++ d ++ e : Identity).extractLsb' 0 8 = e := by
  refine ⟨?_, ?_, ?_, ?_, ?_⟩ <;> refine BitVec.eq_of_getLsbD_eq fun n hn => ?_ <;>
    interval_cases n <;> simp only [getLsbD_byte_append, BitVec.getLsbD_extractLsb'] <;> rfl

/-! ## AMEND's fields (R194) -/

/-- A field of one byte comes back from what was sent. -/
theorem takeByte_sentWhen {sent : Bool} {b : Byte} (h : absentIsZero sent b = true) (rest : List Byte) :
    takeByte sent (sentWhen sent [b] ++ rest) = some (b, rest) := by
  cases sent <;> simp_all [takeByte, sentWhen, absentIsZero]

/-- A field of two bytes comes back from what was sent. -/
theorem takeHalf_sentWhen {sent : Bool} {x : Half} (h : absentIsZero sent x = true) (rest : List Byte) :
    takeHalf sent (sentWhen sent (halfBytes x) ++ rest) = some (x, rest) := by
  cases sent
  · simp_all [takeHalf, sentWhen, absentIsZero]
  · simp [takeHalf, sentWhen, halfBytes, half_of_bytes]

/-- What a field of one byte took was sent. -/
theorem sentWhen_of_takeByte {sent : Bool} {b : Byte} {fields rest : List Byte} (h : takeByte sent fields = some (b, rest)) :
    fields = sentWhen sent [b] ++ rest ∧ absentIsZero sent b = true := by
  cases sent
  · obtain ⟨rfl, rfl⟩ : 0 = b ∧ fields = rest := by simpa [takeByte] using h
    simp [sentWhen, absentIsZero]
  · rcases fields with _ | ⟨c, fields⟩
    · simp [takeByte] at h
    · obtain ⟨rfl, rfl⟩ : c = b ∧ fields = rest := by simpa [takeByte] using h
      simp [sentWhen, absentIsZero]

/-- What a field of two bytes took was sent. -/
theorem sentWhen_of_takeHalf {sent : Bool} {x : Half} {fields rest : List Byte} (h : takeHalf sent fields = some (x, rest)) :
    fields = sentWhen sent (halfBytes x) ++ rest ∧ absentIsZero sent x = true := by
  cases sent
  · obtain ⟨rfl, rfl⟩ : 0 = x ∧ fields = rest := by simpa [takeHalf] using h
    simp [sentWhen, absentIsZero]
  · rcases fields with _ | ⟨hi, _ | ⟨lo, fields⟩⟩
    · simp [takeHalf] at h
    · simp [takeHalf] at h
    · obtain ⟨rfl, rfl⟩ : hi ++ lo = x ∧ fields = rest := by simpa [takeHalf] using h
      simp [sentWhen, absentIsZero, halfBytes_append]

/-- AMEND's fields come back from its parameters. -/
theorem decodeAmend_sent {slot flags priority locked : Byte} {claim idle quota tag : Half}
    (h : (Instr.amend slot flags claim idle priority quota locked tag).wellFormed = true) :
    decodeRequest 0x11 (amendParams slot flags claim idle priority quota locked tag) =
      some (.amend slot flags claim idle priority quota locked tag) := by
  simp only [Instr.wellFormed, Bool.and_eq_true] at h
  obtain ⟨⟨⟨⟨⟨hclaim, hidle⟩, hpriority⟩, hquota⟩, hlocked⟩, htag⟩ := h
  have hlast := takeHalf_sentWhen htag []
  rw [List.append_nil] at hlast
  simp only [amendParams, List.append_assoc, List.cons_append, List.nil_append]
  show decodeAmend slot flags _ = _
  simp only [decodeAmend, takeHalf_sentWhen hclaim, takeHalf_sentWhen hidle, takeByte_sentWhen hpriority, takeHalf_sentWhen hquota,
    takeByte_sentWhen hlocked, hlast, Option.bind_eq_bind, Option.bind_some, List.isEmpty_nil, if_true]

/-- What decodes to AMEND is its parameters. -/
theorem amendParams_of_decode {slot flags : Byte} {fields : List Byte} {i : Instr} (h : decodeAmend slot flags fields = some i) :
    requestBytes i = some (0x11, slot :: flags :: fields) ∧ i.wellFormed = true := by
  simp only [decodeAmend, Option.bind_eq_bind, Option.bind_eq_some_iff, Prod.exists] at h
  obtain ⟨claim, f1, h1, idle, f2, h2, priority, f3, h3, quota, f4, h4, locked, f5, h5, tag, f6, h6, hend⟩ := h
  obtain ⟨hnil, rfl⟩ : f6 = [] ∧ Instr.amend slot flags claim idle priority quota locked tag = i := by simpa using hend
  obtain ⟨rfl, hclaim⟩ := sentWhen_of_takeHalf h1
  obtain ⟨rfl, hidle⟩ := sentWhen_of_takeHalf h2
  obtain ⟨rfl, hpriority⟩ := sentWhen_of_takeByte h3
  obtain ⟨rfl, hquota⟩ := sentWhen_of_takeHalf h4
  obtain ⟨rfl, hlocked⟩ := sentWhen_of_takeByte h5
  obtain ⟨rfl, htag⟩ := sentWhen_of_takeHalf h6
  refine ⟨?_, by simp only [Instr.wellFormed, hclaim, hidle, hpriority, hquota, hlocked, htag, Bool.and_self]⟩
  simp [requestBytes, amendParams, hnil]

/-! ## Requests by the number of their parameter bytes (Table 11-2) -/

/-- The decoder's parameters are the encoder's. -/
def Faithful (code : Byte) : Prop :=
  ∀ params i, decodeRequest code params = some i → requestBytes i = some (code, params) ∧ i.wellFormed = true

/-- The codes of the requests without parameters. -/
def bareCodes : List Byte :=
  [0x17, 0x1C, 0x1D, 0x20, 0x21, 0x22, 0x23, 0x24, 0x29, 0x30, 0x34, 0x41, 0x42, 0x43, 0x44, 0x45, 0x46, 0x47, 0x54, 0x56,
    0x57]

theorem faithful_bare : ∀ code ∈ bareCodes, Faithful code := by
  simp only [bareCodes, List.forall_mem_cons]
  repeat' apply And.intro
  case right => exact fun _ h => absurd h List.not_mem_nil
  all_goals
    rintro (_ | ⟨a, params⟩) i h <;> cases h
    exact ⟨rfl, rfl⟩

/-- The codes of the requests with one parameter byte. -/
def byteCodes : List Byte := [0x12, 0x13, 0x16, 0x18, 0x19, 0x1A, 0x1B, 0x2A, 0x32, 0x33, 0x51, 0x52, 0x53, 0x55]

theorem faithful_byte : ∀ code ∈ byteCodes, Faithful code := by
  simp only [byteCodes, List.forall_mem_cons]
  repeat' apply And.intro
  case right => exact fun _ h => absurd h List.not_mem_nil
  all_goals
    rintro (_ | ⟨a, _ | ⟨b, params⟩⟩) i h <;> cases h
    exact ⟨rfl, rfl⟩

/-- The codes of the other requests: of those with two bytes or more, and AMEND. -/
def longCodes : List Byte := [0x10, 0x11, 0x14, 0x15, 0x28, 0x31, 0x40, 0x50]

theorem faithful_post : Faithful 0x10 := by
  rintro (_ | ⟨a, _ | ⟨b, _ | ⟨c, _ | ⟨d, _ | ⟨e, _ | ⟨f, _ | ⟨g, _ | ⟨h, _ | ⟨k, _ | ⟨l, _ | ⟨m, _ | ⟨n, _ | ⟨o, _ |
    ⟨p, _ | ⟨q, params⟩⟩⟩⟩⟩⟩⟩⟩⟩⟩⟩⟩⟩⟩⟩) i hi <;> cases hi
  simp [requestBytes, halfBytes_append, Instr.wellFormed]

theorem faithful_amend : Faithful 0x11 := by
  rintro (_ | ⟨a, _ | ⟨b, params⟩⟩) i hi
  · cases hi
  · cases hi
  · exact amendParams_of_decode hi

theorem faithful_find : Faithful 0x14 := by
  rintro (_ | ⟨a, _ | ⟨b, _ | ⟨c, _ | ⟨d, params⟩⟩⟩⟩) i hi <;> cases hi
  exact ⟨rfl, rfl⟩

theorem faithful_findTag : Faithful 0x15 := by
  rintro (_ | ⟨a, _ | ⟨b, _ | ⟨c, params⟩⟩⟩) i hi <;> cases hi
  simp [requestBytes, halfBytes_append, Instr.wellFormed]

theorem faithful_inputSetup : Faithful 0x28 := by
  rintro (_ | ⟨a, _ | ⟨b, _ | ⟨c, _ | ⟨d, params⟩⟩⟩⟩) i hi <;> cases hi
  exact ⟨rfl, rfl⟩

theorem faithful_adopt : Faithful 0x31 := by
  rintro (_ | ⟨a, _ | ⟨b, _ | ⟨c, _ | ⟨d, _ | ⟨e, _ | ⟨f, params⟩⟩⟩⟩⟩⟩) i hi <;> cases hi
  obtain ⟨ha, hb, hc, hd, he⟩ := bytes_of_identity a b c d e
  simp [requestBytes, Instr.wellFormed, ha, hb, hc, hd, he]

theorem faithful_cutAdd : Faithful 0x40 := by
  rintro (_ | ⟨a, _ | ⟨b, _ | ⟨c, _ | ⟨d, _ | ⟨e, _ | ⟨f, _ | ⟨g, params⟩⟩⟩⟩⟩⟩⟩) i hi <;> cases hi
  simp [requestBytes, halfBytes_append, Instr.wellFormed]

theorem faithful_setParam : Faithful 0x50 := by
  rintro (_ | ⟨a, _ | ⟨b, _ | ⟨c, _ | ⟨d, params⟩⟩⟩⟩) i hi <;> cases hi
  simp [requestBytes, halfBytes_append, Instr.wellFormed]

theorem faithful_long : ∀ code ∈ longCodes, Faithful code := by
  simp only [longCodes, List.forall_mem_cons]
  exact ⟨faithful_post, faithful_amend, faithful_find, faithful_findTag, faithful_inputSetup, faithful_adopt,
    faithful_cutAdd, faithful_setParam, fun _ h => absurd h List.not_mem_nil⟩

/-- Every code's request has the decoder's parameters for its own. -/
theorem faithful_of_mem {code : Byte} (h : code ∈ requestCodes) : Faithful code := by
  have hcodes : ∀ c ∈ requestCodes, c ∈ bareCodes ∨ c ∈ byteCodes ∨ c ∈ longCodes := by decide
  rcases hcodes code h with h | h | h
  · exact faithful_bare code h
  · exact faithful_byte code h
  · exact faithful_long code h

/-- AMEND sends at most its eleven bytes. -/
theorem amendParams_length (slot flags priority locked : Byte) (claim idle quota tag : Half) :
    (amendParams slot flags claim idle priority quota locked tag).length ≤ 12 := by
  have hsent : ∀ (f : Bool) (l : List Byte), (sentWhen f l).length ≤ l.length := by
    intro f l
    cases f <;> simp [sentWhen]
  have h0 := hsent (flags.getLsbD 0) (halfBytes claim)
  have h1 := hsent (flags.getLsbD 1) (halfBytes idle)
  have h2 := hsent (flags.getLsbD 2) [priority]
  have h3 := hsent (flags.getLsbD 3) (halfBytes quota)
  have h4 := hsent (flags.getLsbD 4) [locked]
  have h5 := hsent (flags.getLsbD 5) (halfBytes tag)
  simp only [halfBytes, List.length_cons, List.length_nil, amendParams, List.length_append] at *
  omega

/-- The bytes of a well-formed request pass the checks of its frame. -/
theorem decodeRequest_of_bytes {i : Instr} (hwf : i.wellFormed = true) {code : Byte} {params : List Byte}
    (h : requestBytes i = some (code, params)) :
    code ∈ requestCodes ∧ params.length ≤ 32 ∧ decodeRequest code params = some i := by
  cases i with
  | amend =>
    obtain ⟨rfl, rfl⟩ := Prod.mk.inj (Option.some.inj h)
    exact ⟨by decide, (amendParams_length ..).trans (by decide), decodeAmend_sent hwf⟩
  | post kind target claim idle priority quota tag locked =>
    obtain ⟨rfl, rfl⟩ := Prod.mk.inj (Option.some.inj h)
    refine ⟨by decide, by simp [halfBytes], Eq.trans (b := some (Instr.post kind target (claim.extractLsb' 8 8 ++ claim.extractLsb' 0 8)
      (idle.extractLsb' 8 8 ++ idle.extractLsb' 0 8) priority (quota.extractLsb' 8 8 ++ quota.extractLsb' 0 8)
      (tag.extractLsb' 8 8 ++ tag.extractLsb' 0 8) locked)) rfl ?_⟩
    simp only [half_of_bytes]
  | findTag tag =>
    obtain ⟨rfl, rfl⟩ := Prod.mk.inj (Option.some.inj h)
    exact ⟨by decide, by simp [halfBytes], congrArg (fun x => some (Instr.findTag x)) (half_of_bytes tag)⟩
  | cutAdd thickness stroke ceiling =>
    obtain ⟨rfl, rfl⟩ := Prod.mk.inj (Option.some.inj h)
    refine ⟨by decide, by simp [halfBytes], Eq.trans (b := some (Instr.cutAdd (thickness.extractLsb' 8 8 ++ thickness.extractLsb' 0 8)
      (stroke.extractLsb' 8 8 ++ stroke.extractLsb' 0 8) (ceiling.extractLsb' 8 8 ++ ceiling.extractLsb' 0 8))) rfl ?_⟩
    simp only [half_of_bytes]
  | setParam number value =>
    obtain ⟨rfl, rfl⟩ := Prod.mk.inj (Option.some.inj h)
    exact ⟨by decide, by simp [halfBytes], congrArg (fun x => some (Instr.setParam number x)) (half_of_bytes value)⟩
  | adopt =>
    obtain ⟨rfl, rfl⟩ := Prod.mk.inj (Option.some.inj h)
    refine ⟨by decide, by simp, congrArg (fun x => some (Instr.adopt x)) (identity_of_bytes _)⟩
  | retire | lookup | find | walkFrom | walkNext | want | drop | hold | free | nextChanged | dayTurn | start | stop
  | clearTrip | gateHome | govStatus | inputSetup | inputRead | inputClear | enrol | dropUnit | unitInfo | takeFound
  | cutClear | cutList | sawStart | sawStop | sawAbort | sawReset | sawStatus | getParam | attnMaskSet | attnMaskClear
  | attnRead | attnAck | restart | identify =>
    obtain ⟨rfl, rfl⟩ := Prod.mk.inj (Option.some.inj h)
    exact ⟨by decide, by simp, rfl⟩
  | _ => cases h

/-- The frame of a request, code, length byte and parameters. -/
theorem encodeFrame_eq_some_iff {i : Instr} {bytes : List Byte} :
    encodeFrame i = some bytes ↔
      ∃ code params, requestBytes i = some (code, params) ∧ code :: BitVec.ofNat 8 params.length :: params = bytes := by
  simp [encodeFrame]

end Sys2Proof
end

section
/-! SUPPORT. The port: which frames it takes, and what it does with them (R181 to R184). -/

namespace Sys2Proof.Machine

-- each theorem's proof is checked before the next begins, so that few threads are needed
set_option Elab.async false

/-- Settles O6: a request's bytes pass each check of its frame; what decodes has the parameters of its request. -/
theorem framesAndRequestsCorrespond : Obligations.FramesAndRequestsCorrespond := by
  refine ⟨fun i bytes hwf h => ?_, fun bytes i h => ?_⟩
  · obtain ⟨code, params, hreq, rfl⟩ := encodeFrame_eq_some_iff.mp h
    obtain ⟨hcode, hlen, hdecode⟩ := decodeRequest_of_bytes hwf hreq
    have hbyte : (BitVec.ofNat 8 params.length).toNat = params.length := by
      rw [BitVec.toNat_ofNat]
      omega
    exact decodeFrame_eq_ok_iff.mpr ⟨hcode, by omega, hbyte, hdecode⟩
  · rcases bytes with _ | ⟨code, _ | ⟨len, params⟩⟩
    · cases h
    · cases h
    · obtain ⟨hcode, -, hlen, hdecode⟩ := decodeFrame_eq_ok_iff.mp h
      obtain ⟨hreq, hwf⟩ := faithful_of_mem hcode params i hdecode
      refine ⟨encodeFrame_eq_some_iff.mpr ⟨code, params, hreq, ?_⟩, hwf⟩
      rw [← hlen, BitVec.ofNat_toNat, BitVec.setWidth_eq]

/-- A frame that fails the decode, at a ready port (R182). -/
theorem exec_decodeFail {s : State} (h : s.Ready) {frame : List Byte} (hw : isWriteFrame s.rqp.form frame = true)
    {e : DecodeError} (he : decodeFrame frame = .error e) :
    exec (.requestDecodeFail frame) s = .next (s.answered (DecodeError.answer e).code []) := by
  show execRequestDecodeFail frame s = _
  rw [execRequestDecodeFail, event_of_running h.1, hw, he, h.2]
  cases e <;> rfl

/-- Settles O4: the decode answers by the first check that fails. -/
theorem refusedFramesAnswerByTheFirstCheck : Obligations.RefusedFramesAnswerByTheFirstCheck := by
  intro s frame hready hw
  refine ⟨fun hlen => ?_, fun code len params hframe hcode => ?_, fun code len params hframe hcode hlen => ?_⟩
  · refine exec_decodeFail hready hw (e := .badLength) ?_
    rcases frame with _ | ⟨code, _ | ⟨len, params⟩⟩
    · rfl
    · rfl
    · simp at hlen
  · exact exec_decodeFail hready hw (hframe ▸ decodeFrame_unknown hcode)
  · exact exec_decodeFail hready hw (hframe ▸ decodeFrame_badLength hcode hlen)

/-- Every request is an act at the port. -/
theorem exec_eq_request {c : Instr} (h : isRequest c = true) : ∃ act : Act, ∀ s, exec c s = s.request act := by
  cases c <;> first | exact ⟨_, fun _ => rfl⟩ | cases h

/-- Settles O3: at a ready port from what every request's act keeps; else a request meets no act. -/
theorem portHoldsOneRequest : Obligations.PortHoldsOneRequest := by
  refine ⟨fun c s hready hc => ?_, fun s a hrun hexec => ?_, fun s hrun hexec => ⟨fun c hc => ?_, fun frame hw => ?_⟩⟩
  · obtain ⟨t, ht, -, hport⟩ := exec_requested hc s
    obtain ⟨a, ha, hport⟩ := hport hready
    simp only [State.port, Prod.mk.injEq] at hport
    obtain ⟨-, -, hoverrun, hstored⟩ := hport
    exact ⟨t, a, ht, ha, hoverrun, hstored, by simp [State.ready, ha]⟩
  · show execRequestActEnd s = _
    rw [execRequestActEnd, event_of_running hrun, hexec]
    rfl
  · obtain ⟨act, hact⟩ := exec_eq_request hc
    obtain ⟨a, ha⟩ := Option.ne_none_iff_exists'.mp hexec
    exact (hact s).trans (request_of_busy hrun ha act)
  · show execWriteFrameDiscarded frame s = _
    rw [execWriteFrameDiscarded, event_of_running hrun, hw, Option.isSome_iff_ne_none.mpr hexec]
    rfl

end Sys2Proof.Machine
end

section
/-! SUPPORT. The clocks (logs 1, 2, 38): the commands that are due, each by its timer, and one microsecond on every clock. -/

namespace Sys2Proof.Machine

-- each theorem's proof is checked before the next begins, so that few threads are needed
set_option Elab.async false

/-! ## What is due -/

theorem mem_dueWhen {b : Bool} {c d : Instr} : c ∈ dueWhen b d ↔ b = true ∧ c = d := by
  cases b <;> simp [dueWhen]

theorem dueWhen_sublist (b : Bool) (d : Instr) : (dueWhen b d).Sublist [d] := by
  cases b <;> simp [dueWhen]

/-- The clutch timeouts that are due. -/
theorem mem_clutchDue {w : Option ClutchWait} {c : Instr} : c ∈ clutchDue w ↔
    (w = some (.engage 0) ∧ c = .clutchEngageTimeout) ∨ (w = some (.release 0) ∧ c = .clutchReleaseTimeout) := by
  rcases w with _ | ⟨n | n⟩ <;> simp [clutchDue, mem_dueWhen]

theorem clutchDue_sublist (w : Option ClutchWait) :
    (clutchDue w).Sublist [.clutchEngageTimeout, .clutchReleaseTimeout] := by
  rcases w with _ | ⟨n | n⟩
  · exact List.nil_sublist _
  · exact (dueWhen_sublist _ _).trans (by decide)
  · exact (dueWhen_sublist _ _).trans (by decide)

/-- The feed's steps that are due: forward or in reverse. -/
theorem mem_feedDue {x : Stepper} {c : Instr} : c ∈ feedDue x ↔
    ((∃ rate, x = .stepping true rate 0) ∧ c = .feedStep) ∨ ((∃ rate, x = .stepping false rate 0) ∧ c = .returnStep) := by
  rcases x with _ | ⟨_ | _, rate, left⟩ <;> simp [feedDue, mem_dueWhen]

theorem feedDue_sublist (x : Stepper) : (feedDue x).Sublist [.feedStep, .returnStep] := by
  rcases x with _ | ⟨_ | _, rate, left⟩
  · exact List.nil_sublist _
  · exact (dueWhen_sublist _ _).trans (by decide)
  · exact (dueWhen_sublist _ _).trans (by decide)

theorem ranOut_iff {t : Timer} : ranOut t = true ↔ t = some 0 := by simp [ranOut]

/-- A stepper's step is due as it stands at its step. -/
theorem Stepper.due_iff {x : Stepper} : x.due = true ↔ ∃ fwd rate, x = .stepping fwd rate 0 := by
  rcases x with _ | ⟨fwd, rate, left⟩ <;> simp [Stepper.due]

/-- The candidates that are due. -/
theorem mem_acceptsDue {s : State} {c : Instr} :
    c ∈ (allChannels.filter fun c => (s.chan c).ripe s.now).map Instr.debounceAccept ↔
      ∃ d, (s.chan d).ripe s.now = true ∧ c = .debounceAccept d := by
  have hall : ∀ d, d ∈ allChannels := by
    intro d
    cases d <;> decide
  simp only [List.mem_map, List.mem_filter, hall, true_and]
  exact exists_congr fun d => and_congr_right fun _ => eq_comm

/-- The filter time of a code, written out (Table 3-2). -/
theorem filterTime_eq (n : Nat) :
    filterTime n = if n = 0 then 100 else if n = 1 then 1000 else if n = 2 then 10000 else 50000 := by
  rcases n with _ | _ | _ | n <;> rfl

/-- A candidate is due once its filter time has run (R53). -/
theorem ripe_iff {c : Chan} {now : Nat} :
    c.ripe now = true ↔ ∃ began, c.candidate = some began ∧ began + filterTime c.filter ≤ now := by
  rcases h : c.candidate with _ | began <;> simp [Chan.ripe, h]

/-- What is due stands in log 2's order. -/
theorem dueList_sublist (s : State) : s.dueList.Sublist ([.requestActEnd] ++
    [Channel.tach, .gateShut, .gateFull, .fwdLimit, .revLimit, .setDone, .clutchIn, .guard, .estop, .lowWater].map
      Instr.debounceAccept ++
    [.tachLossTimer, .holdTimerExpiry, .gateStepTimer, .runupTimerExpiry, .trimTimerExpiry, .clutchEngageTimeout,
      .clutchReleaseTimeout, .spinupTimerExpiry, .setworksStep, .setworksWaitExpiry, .settleTimerExpiry, .feedStep,
      .returnStep, .pollTimerExpiry, .sweepTimerExpiry, .ballastPwmPeriod]) := by
  have haccepts : ((allChannels.filter fun c => (s.chan c).ripe s.now).map Instr.debounceAccept).Sublist
      (allChannels.map .debounceAccept) := List.filter_sublist.map _
  have h := (dueWhen_sublist s.rqp.exec.isSome .requestActEnd).append haccepts
  have h := (h.append (dueWhen_sublist (ranOut s.inu.lossTimer) .tachLossTimer)).append
    (dueWhen_sublist (ranOut s.gov.holdTimer) .holdTimerExpiry)
  have h := (h.append (dueWhen_sublist (ranOut s.gov.stepTimer) .gateStepTimer)).append
    (dueWhen_sublist (ranOut s.gov.runupTimer) .runupTimerExpiry)
  have h := (h.append (dueWhen_sublist (ranOut s.gov.trimTimer) .trimTimerExpiry)).append (clutchDue_sublist s.alt.wait)
  have h := (h.append (dueWhen_sublist (ranOut s.saw.spinTimer) .spinupTimerExpiry)).append
    (dueWhen_sublist s.saw.setworks.due .setworksStep)
  have h := (h.append (dueWhen_sublist (ranOut s.saw.waitTimer) .setworksWaitExpiry)).append
    (dueWhen_sublist (ranOut s.saw.settleTimer) .settleTimerExpiry)
  have h := (h.append (feedDue_sublist s.saw.feed)).append (dueWhen_sublist (ranOut s.flc.pollTimer) .pollTimerExpiry)
  exact (h.append (dueWhen_sublist (ranOut s.flc.sweepTimer) .sweepTimerExpiry)).append
    (dueWhen_sublist (ranOut s.gov.pwmTimer) .ballastPwmPeriod)

/-- The commands that are due, each by its own clock. -/
theorem mem_dueList {s : State} {c : Instr} : c ∈ s.dueList ↔
    (s.rqp.exec.isSome = true ∧ c = .requestActEnd) ∨ (∃ d, (s.chan d).ripe s.now = true ∧ c = .debounceAccept d) ∨
    (s.inu.lossTimer = some 0 ∧ c = .tachLossTimer) ∨ (s.gov.holdTimer = some 0 ∧ c = .holdTimerExpiry) ∨
    (s.gov.stepTimer = some 0 ∧ c = .gateStepTimer) ∨ (s.gov.runupTimer = some 0 ∧ c = .runupTimerExpiry) ∨
    (s.gov.trimTimer = some 0 ∧ c = .trimTimerExpiry) ∨
    ((s.alt.wait = some (.engage 0) ∧ c = .clutchEngageTimeout) ∨
      (s.alt.wait = some (.release 0) ∧ c = .clutchReleaseTimeout)) ∨
    (s.saw.spinTimer = some 0 ∧ c = .spinupTimerExpiry) ∨
    ((∃ fwd rate, s.saw.setworks = .stepping fwd rate 0) ∧ c = .setworksStep) ∨
    (s.saw.waitTimer = some 0 ∧ c = .setworksWaitExpiry) ∨ (s.saw.settleTimer = some 0 ∧ c = .settleTimerExpiry) ∨
    (((∃ rate, s.saw.feed = .stepping true rate 0) ∧ c = .feedStep) ∨
      ((∃ rate, s.saw.feed = .stepping false rate 0) ∧ c = .returnStep)) ∨
    (s.flc.pollTimer = some 0 ∧ c = .pollTimerExpiry) ∨ (s.flc.sweepTimer = some 0 ∧ c = .sweepTimerExpiry) ∨
    (s.gov.pwmTimer = some 0 ∧ c = .ballastPwmPeriod) := by
  simp only [State.dueList, List.mem_append, mem_dueWhen, mem_acceptsDue, mem_clutchDue, mem_feedDue, ranOut_iff,
    Stepper.due_iff, or_assoc]

/-! ## One microsecond -/

/-- A phase whose length is not fixed stays. -/
theorem PhaseReached.countDown_of_open {p : PhaseReached} (h : p.left = none) (order : List LinePhase) :
    p.countDown order = p := by
  simp only [PhaseReached.countDown, h]

/-- A phase with more than a microsecond left runs on. -/
theorem PhaseReached.countDown_runs {p : PhaseReached} {n : Nat} (h : p.left = some (n + 2)) (order : List LinePhase) :
    p.countDown order = { p with left := some (n + 1) } := by
  simp [PhaseReached.countDown, h]

/-- A timer that any reading of a microsecond less gives is the timer counted down. -/
theorem countDown_of_less {less : Timer → Timer} (hrun : ∀ n, less (some n) = some (n - 1)) (hstop : less none = none)
    (t : Timer) : less t = countDown t := by
  rcases t with _ | n
  · exact hstop
  · exact hrun n

/-- A stepper that any reading of a microsecond less gives is the stepper counted down. -/
theorem Stepper.countDown_of_less {less : Stepper → Stepper}
    (hrun : ∀ fwd rate left, less (.stepping fwd rate left) = .stepping fwd rate (left - 1)) (hstop : less .idle = .idle)
    (x : Stepper) : less x = x.countDown := by
  rcases x with _ | ⟨fwd, rate, left⟩
  · exact hstop
  · exact hrun fwd rate left

/-- Outside reset a microsecond counts every block down. -/
theorem tick_of_running {s : State} (h : s.inReset = false) : s.tick = { s with
    now := s.now + 1, inu := s.inu.countDown, gov := s.gov.countDown, alt := s.alt.countDown
    flc := s.flc.countDown, saw := s.saw.countDown } := if_neg (by simp [h])

/-- Settles O2: the queue, the reset, each command's clock, a microsecond block by block, the phases. -/
theorem emptyQueueRunsTheClocks : Obligations.EmptyQueueRunsTheClocks := by
  refine ⟨fun s hq => ?_, fun s hreset => ⟨if_pos hreset, if_pos hreset⟩, fun s hrun => ?_,
    fun s t less step' hrun ht hless hnone hstep hidle => ?_, fun p order => ?_⟩
  · have hstep : step s = s.idleStep := by simp only [step, hq]
    exact ⟨fun c hc => by simp only [hstep, State.idleStep, hc], fun hc => by simp only [hstep, State.idleStep, hc]⟩
  · refine ⟨if_neg (by simp [hrun]), dueList_sublist s, ?_⟩
    simp only [mem_dueList, reduceCtorEq, and_false, and_true, exists_false, or_false, false_or, Instr.debounceAccept.injEq,
      exists_eq_right', Option.isSome_iff_ne_none, ripe_iff, filterTime_eq, implies_true]
  · subst ht
    rw [tick_of_running hrun]
    have htimer := countDown_of_less hless hnone
    have hstepper := Stepper.countDown_of_less hstep hidle
    refine ⟨?_, fun h => ?_, fun p h => ?_, fun v h => ?_, fun owner p h => ?_⟩
    · simp only [htimer, hstepper]
      rcases hw : s.alt.wait with _ | ⟨left | left⟩ <;> simp only [Alt.countDown, hw] <;> rfl
    all_goals simp only [Flc.countDown, h]
    all_goals rfl
  · refine ⟨fun h => PhaseReached.countDown_of_open h order, fun n h => PhaseReached.countDown_runs h order, fun rest h => ?_,
      fun h => ?_, fun h => ?_⟩
    all_goals subst h
    · rfl
    · exact ⟨rfl, rfl, rfl⟩
    · rfl

end Sys2Proof.Machine
end

section
/-! SUPPORT. What a refused request leaves: the state as it was (R182). -/

namespace Sys2Proof.Machine

-- each theorem's proof is checked before the next begins, so that few threads are needed
set_option Elab.async false

/-- An act that does not carry its request out leaves the state and answers no payload. -/
def Clean (s : State) (x : State × Answer) : Prop := x.2.code.carriedOut = false → x.1 = s ∧ x.2.payload = []

namespace Clean

variable {s t : State} {x : State × Answer}

theorem refuse (c : ResultCode) : Clean s (refuse s c) := fun _ => ⟨rfl, rfl⟩

theorem carried (h : x.2.code.carriedOut = true) : Clean s x := fun hx => absurd (h.symm.trans hx) (by decide)

theorem done (p : List Byte) : Clean s (done t p) := carried rfl

theorem accepted : Clean s (accepted t) := carried rfl

/-- A code of the two that report a value clamped or not. -/
theorem clamped {p : Prop} [Decidable p] {l : List Byte} : Clean s (t, ⟨if p then .done else .clamped, l⟩) := by
  by_cases h : p <;> exact carried (by simp [h, ResultCode.carriedOut])

theorem ite {p : Prop} [Decidable p] {a b : State × Answer} (ha : p → Clean s a) (hb : ¬ p → Clean s b) :
    Clean s (if p then a else b) := by
  split
  · next h => exact ha h
  · next h => exact hb h

theorem arbitrated {act : Act} (h : Clean s (act s)) : Clean s (arbitrated act s) := by
  intro hx
  obtain ⟨hs, hp⟩ := h hx
  exact ⟨(arbitrated_of_refused (act := act) hx).trans hs, hp⟩

theorem onRecord {slot : Byte} {act : State → Slot → Allotment → State × Answer} (h : ∀ i r, Clean s (act s i r)) :
    Clean s (onRecord slot act s) := by
  unfold Machine.onRecord
  split
  · exact refuse _
  · split
    · exact refuse _
    · exact h _ _

theorem onUnit {index : Byte} {act : State → UnitIx → UnitEntry → State × Answer} (h : ∀ u e, Clean s (act s u e)) :
    Clean s (onUnit index act s) := by
  unfold Machine.onUnit
  split
  · exact refuse _
  · split
    · exact refuse _
    · exact h _ _

theorem onCauses {causes : Byte} {act : State → CauseSet → State × Answer} (h : ∀ c, Clean s (act s c)) :
    Clean s (onCauses causes act s) := by
  unfold Machine.onCauses
  split
  · exact refuse _
  · exact h _

theorem hostDemand {slot : Byte} {want : Bool} : Clean s (hostDemand slot want s) :=
  onRecord fun _ _ => ite (fun _ => refuse _) fun _ => done _

theorem post {r : Allotment} : Clean s (s.post r) := by
  refine ite (fun _ => refuse _) fun _ => ?_
  split
  · exact refuse _
  · exact done _

theorem answerFound {i : Option Slot} : Clean s (s.answerFound i) := by
  cases i
  · exact refuse _
  · exact done _

theorem clearLatch {c : Channel} {f : Inu → Inu} : Clean s (s.clearLatch c f) :=
  ite (fun _ => refuse _) fun _ => done _

theorem abortSaw : Clean s t.abortSaw := ite (fun _ => done _) fun _ => accepted

end Clean

/-- The command is a request whose act is clean. -/
def IsClean (c : Instr) : Prop := ∃ act : Act, (∀ s, exec c s = s.request act) ∧ ∀ s, Clean s (act s)

theorem isClean_of {c : Instr} (act : Act) (h : ∀ s, exec c s = s.request act) (hact : ∀ s, Clean s (act s)) : IsClean c :=
  ⟨act, h, hact⟩

/-- The requests on allotments refuse cleanly. -/
theorem isClean_allotments (slot : Byte) :
    (∀ kind target claim idle priority quota tag locked,
      IsClean (.post kind target claim idle priority quota tag locked)) ∧
    (∀ flags claim idle priority quota locked tag, IsClean (.amend slot flags claim idle priority quota locked tag)) ∧
    IsClean (.retire slot) ∧ IsClean (.hold slot) ∧ IsClean (.free slot) ∧ IsClean (.want slot) ∧ IsClean (.drop slot) := by
  refine ⟨fun kind target claim idle priority quota tag locked => isClean_of _ (fun _ => rfl) fun s => ?_,
    fun flags claim idle priority quota locked tag => isClean_of _ (fun _ => rfl) fun s => .arbitrated ?_,
    isClean_of _ (fun _ => rfl) fun s => .arbitrated (.onRecord fun i r => ?_),
    isClean_of _ (fun _ => rfl) fun s => .arbitrated (.onRecord fun i r => ?_),
    isClean_of _ (fun _ => rfl) fun s => .onRecord fun i r => ?_,
    isClean_of _ (fun _ => rfl) fun s => .hostDemand, isClean_of _ (fun _ => rfl) fun s => .arbitrated .hostDemand⟩
  · split
    · exact .refuse _
    · exact .ite (fun _ => .post) fun _ => .refuse _
  · exact .ite (fun _ => .onRecord fun i r => .ite (fun _ => .refuse _) fun _ => .ite (fun _ => .refuse _) fun _ =>
      .ite (fun _ => .refuse _) fun _ => .done _) fun _ => .refuse _
  · refine .ite (fun _ => .refuse _) fun _ => ?_
    split <;> exact .done _
  · split <;> first | exact .done _ | exact .refuse _
  · split
    · exact .done _
    · exact .done _
    · exact .ite (fun _ => .refuse _) fun _ => .done _
    all_goals exact .refuse _

/-- The requests that read, and those on the governor, the inputs and the units, refuse cleanly, TAKE_FOUND apart. -/
theorem isClean_others {c : Instr} (h : isRequest c = true) (hne : c ≠ .takeFound) : IsClean c := by
  cases c with
  | post => exact (isClean_allotments 0).1 ..
  | amend slot => exact (isClean_allotments slot).2.1 ..
  | retire slot => exact (isClean_allotments slot).2.2.1
  | hold slot => exact (isClean_allotments slot).2.2.2.1
  | free slot => exact (isClean_allotments slot).2.2.2.2.1
  | want slot => exact (isClean_allotments slot).2.2.2.2.2.1
  | drop slot => exact (isClean_allotments slot).2.2.2.2.2.2
  | takeFound => exact absurd rfl hne
  | lookup => exact isClean_of _ (fun _ => rfl) fun _ => .onRecord fun _ _ => .done _
  | find target =>
    refine isClean_of _ (fun _ => rfl) fun _ => ?_
    split
    · exact .answerFound
    · exact .refuse _
  | findTag => exact isClean_of _ (fun _ => rfl) fun _ => .ite (fun _ => .refuse _) fun _ => .answerFound
  | walkFrom =>
    refine isClean_of _ (fun _ => rfl) fun _ => ?_
    split
    · exact .done _
    · exact .refuse _
  | walkNext =>
    refine isClean_of _ (fun _ => rfl) fun _ => ?_
    split
    · exact .done _
    · exact .refuse _
  | nextChanged =>
    refine isClean_of _ (fun _ => rfl) fun _ => ?_
    split
    · exact .done _
    · exact .refuse _
  | start =>
    exact isClean_of _ (fun _ => rfl) fun _ =>
      .ite (fun _ => .refuse _) fun _ => .ite (fun _ => .refuse _) fun _ => .ite (fun _ => .refuse _) fun _ => .accepted
  | stop =>
    refine isClean_of _ (fun _ => rfl) fun _ => .arbitrated ?_
    split
    · exact .accepted
    · exact .accepted
    · exact .accepted
    all_goals exact .refuse _
  | clearTrip => exact isClean_of _ (fun _ => rfl) fun _ => .ite (fun _ => .done _) fun _ => .refuse _
  | gateHome =>
    exact isClean_of _ (fun _ => rfl) fun _ => .ite (fun _ => .refuse _) fun _ => .ite (fun _ => .refuse _) fun _ => .accepted
  | inputSetup =>
    refine isClean_of _ (fun _ => rfl) fun _ => .arbitrated ?_
    split
    · exact .ite (fun _ => .clamped) fun _ => .refuse _
    · exact .refuse _
  | inputClear =>
    exact isClean_of _ (fun _ => rfl) fun _ => .ite (fun _ => .clearLatch) fun _ =>
      .ite (fun _ => .clearLatch) fun _ => .refuse _
  | enrol => exact isClean_of _ (fun _ => rfl) fun _ => .arbitrated (.ite (fun _ => .refuse _) fun _ => .accepted)
  | adopt =>
    refine isClean_of _ (fun _ => rfl) fun _ => .arbitrated (.ite (fun _ => .refuse _) fun _ =>
      .ite (fun _ => .refuse _) fun _ => ?_)
    split
    · exact .refuse _
    · exact .done _
  | dropUnit => exact isClean_of _ (fun _ => rfl) fun _ => .onUnit fun _ _ => .ite (fun _ => .refuse _) fun _ => .done _
  | unitInfo => exact isClean_of _ (fun _ => rfl) fun _ => .onUnit fun _ _ => .done _
  | cutAdd => exact isClean_of _ (fun _ => rfl) fun _ => .ite (fun _ => .refuse _) fun _ => .ite (fun _ => .refuse _) fun _ => .clamped
  | cutClear => exact isClean_of _ (fun _ => rfl) fun _ => .ite (fun _ => .done _) fun _ => .refuse _
  | sawStart =>
    exact isClean_of _ (fun _ => rfl) fun _ =>
      .ite (fun _ => .refuse _) fun _ => .ite (fun _ => .refuse _) fun _ => .ite (fun _ => .refuse _) fun _ => .accepted
  | sawStop => exact isClean_of _ (fun _ => rfl) fun _ => .ite (fun _ => .refuse _) fun _ => .done _
  | sawAbort =>
    refine isClean_of _ (fun _ => rfl) fun _ => ?_
    split
    · exact .refuse _
    · exact .refuse _
    · exact .done _
    · exact .ite (fun _ => .done _) fun _ => .abortSaw
    all_goals exact .abortSaw
  | sawReset =>
    exact isClean_of _ (fun _ => rfl) fun _ =>
      .ite (fun _ => .refuse _) fun _ => .ite (fun _ => .refuse _) fun _ => .ite (fun _ => .refuse _) fun _ => .done _
  | setParam =>
    refine isClean_of _ (fun _ => rfl) fun _ => ?_
    split
    · exact .refuse _
    · dsimp only
      split
      · exact .carried rfl
      · exact .clamped
  | getParam =>
    refine isClean_of _ (fun _ => rfl) fun _ => ?_
    split
    · exact .refuse _
    · exact .done _
  | attnMaskSet => exact isClean_of _ (fun _ => rfl) fun _ => .onCauses fun _ => .done _
  | attnMaskClear => exact isClean_of _ (fun _ => rfl) fun _ => .onCauses fun _ => .done _
  | attnAck => exact isClean_of _ (fun _ => rfl) fun _ => .onCauses fun _ => .done _
  | restart => exact isClean_of _ (fun _ => rfl) fun _ => .arbitrated (.done _)
  | dayTurn | govStatus | inputRead | cutList | sawStatus | attnRead | identify =>
    exact isClean_of _ (fun _ => rfl) fun _ => .done _
  | _ => cases h

/-- TAKE_FOUND at a ready port with an empty list: its refusal carries the series and no identity (R139). -/
theorem exec_takeFound_of_nil {s : State} (h : s.Ready) (hf : s.flc.found = []) :
    exec .takeFound s = .next (s.answered .noSuch (foundBytes 0 0 s.flc.enrol)) := by
  refine request_answers (t := s) h ?_
  simp only [State.cleared, onRqp_flc, hf]

/-- TAKE_FOUND at a ready port takes the lowest identity (R139). -/
theorem exec_takeFound_of_cons {s : State} (h : s.Ready) {x : Identity} {rest : List Identity} (hf : s.flc.found = x :: rest) :
    exec .takeFound s = .next ({ s with flc := { s.flc with found := rest } }.answered .done
      (foundBytes x rest.length s.flc.enrol)) := by
  refine request_answers (t := { s with flc := { s.flc with found := rest } }) h ?_
  simp only [State.cleared, onRqp_flc, hf]
  rfl

/-- Settles O5: every request refuses cleanly; TAKE_FOUND's refusal has a payload. -/
theorem refusalsChangeNothing : Obligations.RefusalsChangeNothing := by
  intro c s t a hready hc ht ha hcode
  by_cases hfound : c = .takeFound
  · subst hfound
    refine ⟨?_, .inr rfl⟩
    rcases hlist : s.flc.found with _ | ⟨x, rest⟩
    · rw [exec_takeFound_of_nil hready hlist] at ht
      obtain rfl := Host.Outcome.next.inj ht
      obtain rfl := Option.some.inj ha
      rfl
    · rw [exec_takeFound_of_cons hready hlist] at ht
      obtain rfl := Host.Outcome.next.inj ht
      obtain rfl := Option.some.inj ha
      cases hcode
  · obtain ⟨act, hexec, hclean⟩ := isClean_others hc hfound
    rcases hact : act s.cleared with ⟨u, code, payload⟩
    rw [hexec, request_of_ready hready] at ht
    obtain rfl := Host.Outcome.next.inj ht
    have hx : (act s.cleared).2 = a := Option.some.inj ha
    obtain ⟨hs, hp⟩ := hclean s.cleared (hx ▸ hcode)
    have hstate : (act (s.onRqp fun r => { r with overrun := false })).1 = s.cleared := hs
    have hanswer : (act (s.onRqp fun r => { r with overrun := false })).2 = a := hx
    rw [hstate, hanswer]
    exact ⟨rfl, .inl (hx ▸ hp)⟩

end Sys2Proof.Machine
end

section
/-! SUPPORT. The ballast's law (R71, R76 to R78, R81), and what the work of ALT, SAW and the field line leaves of the governor. -/

namespace Sys2Proof.Machine

-- each theorem's proof is checked before the next begins, so that few threads are needed
set_option Elab.async false

/-! ## The ballast -/

section
variable {g : Gov} {params : Params}

/-- In REGULATING duty and spare follow the accumulator (R71, R78). -/
theorem setBallast_regulating (h : g.st = .regulating) (b : Nat) : g.setBallast params b =
    { g with bAcc := b, duty := dutyOf b (params.get .bCap), spare := spareOf b (params.get .reserve) } := if_pos h

/-- Elsewhere the accumulator moves alone (R70). -/
theorem setBallast_other (h : g.st ≠ .regulating) (b : Nat) : g.setBallast params b = { g with bAcc := b } := if_neg h

/-- Out of REGULATING and HOLD a ballast step is discarded (R81). -/
theorem ballastStep_discarded (hr : g.st ≠ .regulating) (hh : g.st ≠ .hold) (d : StepDir) (w : Nat) :
    g.ballastStep params d w = g := by
  simp [Gov.ballastStep, hr, hh]

/-- A step of 0 W changes nothing (R81). -/
theorem ballastStep_zero (d : StepDir) : g.ballastStep params d 0 = g := if_pos rfl

/-- In REGULATING and HOLD a step sets the accumulator, cut short at the bank's limits (R81). -/
theorem ballastStep_applied (h : g.st = .regulating ∨ g.st = .hold) (d : StepDir) {w : Nat} (hw : w ≠ 0) :
    g.ballastStep params d w = g.setBallast params (stepped d w g.bAcc (params.get .bCap)) := by
  simp [Gov.ballastStep, hw, h]

end

/-- Settles O29: the ballast set, in a regulating interval and by a step. -/
theorem ballastFollowsItsLaw : Obligations.BallastFollowsItsLaw := by
  refine ⟨fun g params hst => ⟨min (16 * params.get .bCap) (Int.toNat (g.bAcc +
      increment (params.get .kp) (params.get .ki) g.fMeas (g.fPrev.getD g.fMeas) (params.get .fSet))), ?_, ?_⟩, fun g params dir w b hw hb => ⟨fun hst => ?_, fun hst => ?_, fun hr hh =>
    ballastStep_discarded hr hh dir w, ballastStep_zero dir⟩⟩
  · simp only [increment]
    omega
  · simp only [Gov.regulate, setBallast_regulating hst]
    rfl
  · have hst' : stepped dir w g.bAcc (params.get .bCap) = b := by rw [hb]; cases dir <;> rfl
    rw [ballastStep_applied (.inl hst) dir hw, setBallast_regulating hst, hst']
    rfl
  · have hst' : stepped dir w g.bAcc (params.get .bCap) = b := by rw [hb]; cases dir <;> rfl
    rw [ballastStep_applied (.inr hst) dir hw, setBallast_other (by simp [hst]), hst']

/-! ## What work leaves of the governor and the inputs -/

/-- All of the governor but the ballast's accumulator, duty and spare. -/
def Gov.SameButBallast (g g' : Gov) : Prop := ∃ b d w, g' = { g with bAcc := b, duty := d, spare := w }

theorem Gov.SameButBallast.refl (g : Gov) : g.SameButBallast g := ⟨g.bAcc, g.duty, g.spare, rfl⟩

theorem Gov.SameButBallast.trans {g g' g'' : Gov} (h : g.SameButBallast g') (h' : g'.SameButBallast g'') :
    g.SameButBallast g'' := by
  obtain ⟨b, d, w, rfl⟩ := h
  obtain ⟨b', d', w', rfl⟩ := h'
  exact ⟨b', d', w', rfl⟩

theorem Gov.setBallast_same (g : Gov) (params : Params) (b : Nat) : g.SameButBallast (g.setBallast params b) := by
  by_cases h : g.st = .regulating
  · exact ⟨_, _, _, setBallast_regulating h b⟩
  · exact ⟨b, g.duty, g.spare, setBallast_other h b⟩

theorem Gov.ballastStep_same (g : Gov) (params : Params) (d : StepDir) (w : Nat) :
    g.SameButBallast (g.ballastStep params d w) := by
  rcases ballastStep_cases g params d w with h | ⟨-, h⟩
  · rw [h]
    exact .refl g
  · rw [h]
    exact g.setBallast_same params _

/-- A piece of work moves at most the ballast of the governor. -/
theorem WorkPiece.gov {s t : State} (h : WorkPiece s t) : s.gov.SameButBallast t.gov := by
  cases h with
  | ballast d w => exact Gov.ballastStep_same ..
  | _ => exact .refl _

/-- Work moves at most the ballast of the governor. -/
theorem Works.gov {s t : State} (h : Works s t) : s.gov.SameButBallast t.gov :=
  h.keep (P := fun u => s.gov.SameButBallast u.gov) (fun p hu => hu.trans p.gov) (.refl _)

/-- Out of REGULATING and HOLD work leaves the governor (R81). -/
theorem Works.gov_idle {s t : State} (h : Works s t) (hr : s.gov.st ≠ .regulating) (hh : s.gov.st ≠ .hold) :
    t.gov = s.gov := by
  refine h.keep (P := fun u => u.gov = s.gov) (fun {u v} p hu => ?_) rfl
  cases p with
  | ballast d w => exact (ballastStep_discarded (hu ▸ hr) (hu ▸ hh) d w).trans hu
  | _ => exact hu

/-- Work leaves the inputs. -/
theorem Works.inu {s t : State} (h : Works s t) : t.inu = s.inu :=
  h.keep (P := fun u => u.inu = s.inu) (fun p hu => by cases p <;> exact hu) rfl

/-- Work leaves the moment, the reset, the parameters and the queue. -/
theorem Works.outer {s t : State} (h : Works s t) : t.outer = s.outer :=
  h.keep (P := fun u => u.outer = s.outer) (fun p hu => by cases p <;> exact hu) rfl

/-- What work leaves raised stays raised (R187). -/
theorem Works.latched {s t : State} (h : Works s t) {n : Nat} (hn : s.rqp.latched.getLsbD n = true) :
    t.rqp.latched.getLsbD n = true := by
  refine h.keep (P := fun u => u.rqp.latched.getLsbD n = true) (fun p hu => ?_) hn
  cases p with
  | raise c => simp [State.raise, State.onRqp, hu]
  | _ => exact hu

end Sys2Proof.Machine
end

section
/-! SUPPORT. Releases of records that are not the saw's (R18, R19, R22, R25): the whole next state, by the record's target. -/

namespace Sys2Proof.Machine

-- each theorem's proof is checked before the next begins, so that few threads are needed
set_option Elab.async false

section
variable {s : State} {i : Slot} {r : Allotment} {b : Bool} {d : Dest} {reason : Option Reason}

/-- The change set after a change in a slot. -/
def Alt.changedBy (a : Alt) (b : Bool) (i : Slot) : Vector Bool Config.slots := if b then a.changed.set i true else a.changed

/-- The change noted, as one update (R28). -/
theorem noteChange_eq (s : State) (b : Bool) (i : Slot) :
    s.noteChange b i = s.onAlt fun a => { a with changed := a.changedBy b i } := by
  cases b <;> rfl

/-- A record on its way to a destination (R18). -/
def Allotment.releasing (r : Allotment) (d : Dest) (reason : Option Reason) : Allotment :=
  { r with state := .releasing d, reason := reason.or r.reason }

/-- The beginning of a release, of a LIVE record (R18). -/
theorem openRelease_live (hr : s.record i = some r) (hst : r.state = .live) :
    s.openRelease b i d reason = ((s.setRecord i (some (r.releasing d reason))).noteChange b i).orderOpen r.target := by
  simp only [State.openRelease, hr, hst, reduceCtorEq, if_false, Allotment.releasing]

/-- The beginning of a release, of a GRANTED record: its share leaves G_out with a downward step (R18). -/
theorem openRelease_granted (hr : s.record i = some r) (hst : r.state = .granted) :
    s.openRelease b i d reason =
      ((((s.subGranted r.share).ballastStep .down r.share).setRecord i (some (r.releasing d reason))).noteChange b i).orderOpen
        r.target := by
  simp only [State.openRelease, hr, hst, if_true, Allotment.releasing]

/-- The record after the beginning of its release. -/
theorem record_openRelease (hr : s.record i = some r) :
    (s.openRelease b i d reason).record i = some (r.releasing d reason) := by
  simp only [State.openRelease, hr, orderOpen_record, record_noteChange, record_setRecord_self, Allotment.releasing]

/-- The completion of the release of a record in a slot, as it is begun (R19). -/
theorem completeRelease_of {dest : Dest} (hr : s.record i = some r) (hst : r.state = .releasing dest) (withStep : Bool) :
    s.completeRelease b withStep i =
      (((if withStep then s.ballastStep .up r.releaseStep else s).setRecord i
        ({ r with trimmed := r.trimmed || decide (r.kind = Kind.saw) }.released dest)).noteChange b i).endWait r.target := by
  simp only [State.completeRelease, hr, hst]

/-- A LIVE record on a relay released: the relay opens, the ballast steps up, the record stands at its destination (R22). -/
theorem beginRelease_relay (hr : s.record i = some r) (hk : r.kind ≠ .saw) (hst : r.state = .live)
    {n : Fin Config.relays} (ht : r.target = .relay n) :
    s.beginRelease b i d reason = State.checkStrict { s with
      alt := { s.alt with
        slots := s.alt.slots.set i ((r.releasing d reason).released d), relays := s.alt.relays.set n false
        changed := s.alt.changedBy b i }
      gov := s.gov.ballastStep s.params .up r.claim } := by
  have hopen : ((s.setRecord i (some (r.releasing d reason))).noteChange b i).orderOpen (.relay n) =
      s.onAlt fun a => { a with slots := a.slots.set i (some (r.releasing d reason))
                                changed := a.changedBy b i, relays := a.relays.set n false } := by
    rw [noteChange_eq]
    rfl
  have hrec : (s.openRelease b i d reason).record i = some (r.releasing d reason) := record_openRelease hr
  have htarget : (r.releasing d reason).target = .relay n := ht
  have hstep : (r.releasing d reason).releaseStep = r.claim := if_neg hk
  have hchanged : ∀ v : Vector Bool Config.slots, (if b then (if b then v.set i true else v).set i true else
      if b then v.set i true else v) = if b then v.set i true else v := by
    intro v
    cases b
    · rfl
    · simp
  simp only [State.beginRelease, State.settleRelease, hrec, htarget, completeRelease_of hrec rfl, if_true, hstep]
  rw [openRelease_live hr hst, ht, hopen, noteChange_eq]
  congr 1
  simp [State.endWait, State.setRecord, State.onAlt, State.ballastStep, State.onGov, Alt.changedBy, hchanged,
    Allotment.releasing, hk, ht]

/-- A GRANTED or LIVE record on a field outlet released: it is RELEASING and its unit is marked OPEN (R18, R25). -/
theorem beginRelease_field (hr : s.record i = some r) (hk : r.kind ≠ .saw) (hst : r.state = .granted ∨ r.state = .live)
    {u : UnitIx} {o : Outlet} (ht : r.target = .field u o) :
    s.beginRelease b i d reason = State.checkStrict { s with
      alt := { s.alt with
        slots := s.alt.slots.set i (some (r.releasing d reason))
        changed := s.alt.changedBy b i
        gOut := if r.state = .granted then s.alt.gOut - r.claim else s.alt.gOut }
      gov := if r.state = .granted then s.gov.ballastStep s.params .down r.claim else s.gov
      flc := s.flc.giveMark s.now .opening u } := by
  have hrec : (s.openRelease b i d reason).record i = some (r.releasing d reason) := record_openRelease hr
  have htarget : (r.releasing d reason).target = .field u o := ht
  simp only [State.beginRelease, State.settleRelease, hrec, htarget]
  congr 1
  rcases hst with hst | hst
  · rw [openRelease_granted hr hst, ht, noteChange_eq, Allotment.share_of_ne_saw hk]
    simp only [hst, if_true]
    rfl
  · rw [openRelease_live hr hst, ht, noteChange_eq]
    simp only [hst, reduceCtorEq, if_false]
    rfl

/-- ALT tells SAW nothing of a record of another kind. -/
theorem tellSaw_of_ne (hr : s.record i = some r) (hk : r.kind ≠ .saw) (f : State → State) : s.tellSaw i f = s := by
  simp only [State.tellSaw, hr]
  exact if_neg hk

/-- A completed release of a record that is not the saw's is not told to SAW. -/
theorem tellSaw_completeRelease {dest : Dest} (hr : s.record i = some r) (hst : r.state = .releasing dest) (hk : r.kind ≠ .saw)
    (withStep : Bool) (f : State → State) :
    (s.completeRelease b withStep i).tellSaw i f = s.completeRelease b withStep i := by
  have hdone : (s.completeRelease b withStep i).record i =
      Allotment.released { r with trimmed := r.trimmed || decide (r.kind = Kind.saw) } dest := by
    rw [completeRelease_of hr hst, endWait_record, record_noteChange, record_setRecord_self]
  cases hx : (s.completeRelease b withStep i).record i with
  | none => simp only [State.tellSaw, hx]
  | some x =>
    have hfollows : Allotment.Follows { r with trimmed := r.trimmed || decide (r.kind = Kind.saw) } x :=
      Allotment.follows_released hst (hdone ▸ hx)
    obtain ⟨-, hkind, -⟩ := hfollows
    exact tellSaw_of_ne hx (hkind ▸ hk) f

/-- A release tells SAW of the saw record alone. -/
theorem release_of_ne_saw (hr : s.record i = some r) (hk : r.kind ≠ .saw) :
    s.release b i d reason = s.beginRelease b i d reason := by
  have hrec : (s.openRelease b i d reason).record i = some (r.releasing d reason) := record_openRelease hr
  have hsettle : ∀ f : State → State, ((s.openRelease b i d reason).settleRelease b i).tellSaw i f =
      (s.openRelease b i d reason).settleRelease b i := by
    intro f
    simp only [State.settleRelease, hrec]
    cases (r.releasing d reason).target with
    | relay n => exact tellSaw_completeRelease hrec rfl hk true f
    | field u o => exact tellSaw_of_ne hrec hk f
    | clutch =>
      by_cases hin : (s.openRelease b i d reason).active .clutchIn
      · simp only [hin, if_true]
        exact tellSaw_of_ne hrec hk f
      · simp only [hin, if_false, Bool.false_eq_true]
        exact tellSaw_completeRelease hrec rfl hk true f
  simp only [State.release, tellSaw_of_ne hrec hk, hsettle, State.beginRelease]

end

/-! ## Requests on a record that is in the way of no other rule (R9, R13, R16 to R18) -/

section
variable {s : State} {slot : Byte} {i : Slot} {r : Allotment}

/-- DROP of a wanted, switched record that is not the saw's. -/
theorem exec_drop_switched (hready : s.Ready) (hi : slotNumber slot = some i) (hr : s.record i = some r) (hk : r.kind ≠ .saw)
    (hw : r.wanted = true) (hst : r.state = .granted ∨ r.state = .live) {t : State}
    (ht : (s.cleared.setRecord i (some { r with wanted := false })).beginRelease false i .idle (some .demandOff) = t.cleared) :
    exec (.drop slot) s = .next (t.arbitrate.answered .done []) := by
  have hr' : s.cleared.record i = some r := hr
  refine request_arbitrates hready ((hostDemand_of_slot hi hr' hk false).trans (congrArg (done · []) ?_)) rfl
  rw [setWanted_off_switched hr' hw hst, ht]

/-- HOLD of a switched record that is not the saw's. -/
theorem exec_hold_switched (hready : s.Ready) (hi : slotNumber slot = some i) (hr : s.record i = some r) (hk : r.kind ≠ .saw)
    (hst : r.state = .granted ∨ r.state = .live) {t : State}
    (ht : s.cleared.beginRelease false i (.held .host) none = t.cleared) :
    exec (.hold slot) s = .next (t.arbitrate.answered .done []) := by
  have hr' : s.cleared.record i = some r := hr
  refine request_arbitrates hready ((onRecord_of_slot hi hr' _).trans ?_) rfl
  rcases hst with hst | hst <;> simp only [hst, release_of_ne_saw hr' hk, ht] <;> rfl

/-- RETIRE of a switched record that is not the saw's. -/
theorem exec_retire_switched (hready : s.Ready) (hi : slotNumber slot = some i) (hr : s.record i = some r) (hk : r.kind ≠ .saw)
    (hst : r.state = .granted ∨ r.state = .live) {t : State}
    (ht : s.cleared.beginRelease false i .vacant (some .retired) = t.cleared) :
    exec (.retire slot) s = .next (t.arbitrate.answered .done []) := by
  have hr' : s.cleared.record i = some r := hr
  refine request_arbitrates hready ((onRecord_of_slot hi hr' _).trans ?_) rfl
  rcases hst with hst | hst <;> simp only [hst, hk, false_and, if_false, release_of_ne_saw hr' hk, ht] <;> rfl

end

/-- A LIVE record on a relay released by a request. -/
theorem beginRelease_relay_cleared {s : State} {i : Slot} {r : Allotment} {d : Dest} {reason : Option Reason}
    (hr : s.record i = some r) (hk : r.kind ≠ .saw) (hst : r.state = .live) {n : Fin Config.relays} (ht : r.target = .relay n) :
    s.cleared.beginRelease false i d reason = (State.checkStrict { s with
      alt := { s.alt with
        slots := s.alt.slots.set i ((r.releasing d reason).released d), relays := s.alt.relays.set n false }
      gov := s.gov.ballastStep s.params .up r.claim }).cleared :=
  (beginRelease_relay (s := s.cleared) hr hk hst ht).trans
    (checkStrict_cleared { s with
      alt := { s.alt with
        slots := s.alt.slots.set i ((r.releasing d reason).released d), relays := s.alt.relays.set n false }
      gov := s.gov.ballastStep s.params .up r.claim })

/-- A GRANTED or LIVE record on a field outlet released by a request. -/
theorem beginRelease_field_cleared {s : State} {i : Slot} {r : Allotment} {d : Dest} {reason : Option Reason}
    (hr : s.record i = some r) (hk : r.kind ≠ .saw) (hst : r.state = .granted ∨ r.state = .live) {u : UnitIx} {o : Outlet}
    (ht : r.target = .field u o) :
    s.cleared.beginRelease false i d reason = (State.checkStrict { s with
      alt := { s.alt with
        slots := s.alt.slots.set i (some (r.releasing d reason))
        gOut := if r.state = .granted then s.alt.gOut - r.claim else s.alt.gOut }
      gov := if r.state = .granted then s.gov.ballastStep s.params .down r.claim else s.gov
      flc := s.flc.giveMark s.now .opening u }).cleared :=
  (beginRelease_field (s := s.cleared) hr hk hst ht).trans
    (checkStrict_cleared { s with
      alt := { s.alt with
        slots := s.alt.slots.set i (some (r.releasing d reason))
        gOut := if r.state = .granted then s.alt.gOut - r.claim else s.alt.gOut }
      gov := if r.state = .granted then s.gov.ballastStep s.params .down r.claim else s.gov
      flc := s.flc.giveMark s.now .opening u })

/-- A slot's record replaced: what was in the slot before does not matter. -/
theorem slots_set_twice (s : State) (i : Slot) (x y : Option Allotment) :
    (s.setRecord i x).alt.slots.set i y = s.alt.slots.set i y := by
  simp [State.setRecord, State.onAlt]

/-- Settles O13, by the release's whole next state for each of the two kinds of switch. -/
theorem releaseOpensTheSwitch : Obligations.ReleaseOpensTheSwitch := by
  refine ⟨fun s slot i r n c after hready hi hr hk ht hst hw hc => ?_,
    fun s slot i r r' u o c hready hi hr hk ht hst hw hc => ?_⟩
  · rcases hc with ⟨rfl, rfl⟩ | ⟨rfl, rfl⟩ | ⟨rfl, rfl⟩
    · refine exec_drop_switched hready hi hr hk hw (.inr hst) ?_
      have h := beginRelease_relay_cleared (d := .idle) (reason := some .demandOff)
        (record_setRecord_self s i (some { r with wanted := false })) hk hst ht
      rw [slots_set_twice] at h
      exact h
    · exact exec_hold_switched hready hi hr hk (.inr hst) (beginRelease_relay_cleared hr hk hst ht)
    · exact exec_retire_switched hready hi hr hk (.inr hst) (beginRelease_relay_cleared hr hk hst ht)
  · have hk' : r.kind ≠ .saw := by simp [hk]
    rcases hc with ⟨rfl, rfl⟩ | ⟨rfl, rfl⟩ | ⟨rfl, rfl⟩
    · refine exec_drop_switched hready hi hr hk' hw hst ?_
      have h := beginRelease_field_cleared (d := .idle) (reason := some .demandOff)
        (record_setRecord_self s i (some { r with wanted := false })) hk' hst ht
      rw [slots_set_twice] at h
      exact h
    · exact exec_hold_switched hready hi hr hk' hst (beginRelease_field_cleared hr hk' hst ht)
    · exact exec_retire_switched hready hi hr hk' hst (beginRelease_field_cleared hr hk' hst ht)

/-- Settles O11, by the state the record is in. -/
theorem retireEmptiesTheSlot : Obligations.RetireEmptiesTheSlot := by
  intro s slot i r hready hi hr hsaw
  have hr' : s.cleared.record i = some r := hr
  have hfree : ¬ (r.kind = .saw ∧ s.cleared.saw.st ≠ .idle ∧ s.cleared.saw.st ≠ .fault) :=
    fun ⟨hk, hidle, hfault⟩ => (hsaw hk).elim hidle hfault
  refine ⟨fun hst => ?_, fun d hst => ?_⟩
  · refine request_arbitrates hready ((onRecord_of_slot hi hr' _).trans ?_) rfl
    have hcheck := checkStrict_cleared ((s.setRecord i none).forgetChange i)
    rw [if_neg hfree]
    rcases hst with hst | hst | hst | ⟨h, hst⟩ <;> simp only [hst] <;> exact congrArg (done · []) hcheck
  · refine request_arbitrates hready ((onRecord_of_slot hi hr' _).trans ?_) rfl
    rw [if_neg hfree]
    simp only [hst]
    rfl

end Sys2Proof.Machine
end

section
/-! SUPPORT. The acts of the Saw Sequencer as single updates (Section 9), and the searches that POST makes (R6). -/

namespace Sys2Proof.Machine

-- each theorem's proof is checked before the next begins, so that few threads are needed
set_option Elab.async false

section
variable {s t : State} {i : Slot} {r : Allotment} {st : SawState}

/-! ## Where the saw record stands -/

/-- The saw slot depends on the slots alone. -/
theorem sawSlot_congr (h : t.alt.slots = s.alt.slots) : t.sawSlot = s.sawSlot := by
  simp only [State.sawSlot, State.record, h]

/-- The saw slot stays where it is while its record stays a SAW record. -/
theorem sawSlot_of_set (hi : s.sawSlot = some i) (hk : r.kind = .saw) (ht : t.alt.slots = s.alt.slots.set i (some r)) :
    t.sawSlot = some i := by
  obtain ⟨-, hlow⟩ := slotSearch_eq_some_iff.mp hi
  refine slotSearch_eq_some_iff.mpr ⟨?_, fun j hj => ?_⟩
  · simp [record_of_slots ht, hk]
  · simpa [record_of_slots ht, hj.ne] using hlow j hj

/-- The saw record is the record in the saw slot. -/
theorem sawRecord_of_slot (hi : s.sawSlot = some i) : s.sawRecord = s.record i := by
  simp only [State.sawRecord, hi, Option.bind_some]

/-- The saw record releases exactly while the record in its slot is RELEASING. -/
theorem sawReleasing_of_slot (hi : s.sawSlot = some i) (hr : s.record i = some r) : s.sawReleasing = r.isReleasing := by
  simp only [State.sawReleasing, sawRecord_of_slot hi, hr]

/-- No saw record releases where there is none. -/
theorem sawReleasing_of_none (hi : s.sawSlot = none) : s.sawReleasing = false := by
  simp only [State.sawReleasing, State.sawRecord, hi, Option.bind_none]

/-- The record in the saw slot is of kind SAW. -/
theorem kind_of_sawSlot (hi : s.sawSlot = some i) (hr : s.record i = some r) : r.kind = .saw := by
  obtain ⟨r', hr', hk⟩ := sawSlot_some hi
  exact Option.some.inj (hr'.symm.trans hr) ▸ hk

/-- A record in RELEASING, by its state. -/
theorem isReleasing_iff : r.isReleasing = true ↔ ∃ d, r.state = .releasing d := by
  unfold Allotment.isReleasing
  split <;> simp_all

/-! ## States and flags of the sequencer -/

/-- A state entered from another raises SAW_STATE (R154). -/
theorem enterSaw_of_ne (h : s.saw.st ≠ st) : s.enterSaw st = (s.onSaw fun w => { w with st }).raise .sawState := if_neg h

/-- The state that holds already is entered without effect (R154). -/
theorem enterSaw_of_eq (h : s.saw.st = st) : s.enterSaw st = s := if_pos h

/-- A flag that is clear already. -/
theorem Saw.cutWanted_eta {w : Saw} (h : w.cutWanted = false) : { w with cutWanted := false } = w := by rw [← h]

/-- Without a strict slot cut power wanted is a flag of SAW alone (R49, R160). -/
theorem setCutWanted_of_none (h : s.alt.strict = none) (want : Bool) :
    s.setCutWanted want = s.onSaw fun w => { w with cutWanted := want } :=
  checkStrict_of_none (s := s.onSaw fun w => { w with cutWanted := want }) h

/-- Cut power that is not wanted is cleared without effect. -/
theorem clearCutWanted_of_not (h : s.saw.cutWanted = false) : s.clearCutWanted = s := by
  simp only [State.clearCutWanted, h, Bool.false_eq_true, if_false]

/-- Cut power wanted cleared, without a strict slot (R49, R160). -/
theorem clearCutWanted_of_none (h : s.alt.strict = none) :
    s.clearCutWanted = s.onSaw fun w => { w with cutWanted := false } := by
  cases hw : s.saw.cutWanted
  · rw [clearCutWanted_of_not hw]
    exact congrArg (fun w => { s with saw := w }) (Saw.cutWanted_eta hw).symm
  · simp only [State.clearCutWanted, hw, if_true, setCutWanted_of_none h]

/-- ALT tells SAW of the saw record. -/
theorem tellSaw_of_saw (hr : s.record i = some r) (hk : r.kind = .saw) (f : State → State) : s.tellSaw i f = f s := by
  simp only [State.tellSaw, hr, hk, if_true]

/-- What SAW is left with by a fault (R173). -/
def Saw.faulted (w : Saw) (cause : FaultCause) : Saw :=
  { w with st := .fault, cause, cutWanted := false, remembered := none, setting := none, stroke := none, ret := none
           feedRate := 0, spinTimer := none, waitTimer := none, settleTimer := none, feed := .idle, setworks := .idle }

/-- In FAULT a fault changes nothing (R172). -/
theorem sawFault_of_fault (h : s.saw.st = .fault) (cause : FaultCause) : s.sawFault cause = s := if_pos h

/-- A fault at SAW (R173). -/
theorem sawFault_saw (h : s.saw.st ≠ .fault) (cause : FaultCause) : (s.sawFault cause).saw = s.saw.faulted cause := by
  simp only [State.sawFault, h, if_false, onSaw_saw, enterSaw_saw, sawFaultAtAlt_saw, clearCutWanted_saw]
  rfl

end

end Sys2Proof.Machine
end

section
/-! SUPPORT. POST with its checks in order, and the constraints on a record (R3, R6). -/

namespace Sys2Proof.Machine

-- each theorem's proof is checked before the next begins, so that few threads are needed
set_option Elab.async false

/-! ## POST (R6) -/

section
variable {s : State} {r : Allotment} {i : Slot}

/-- The lowest VACANT slot. -/
theorem freeSlot_of_lowest (hi : s.record i = none) (hlow : ∀ j, j < i → s.record j ≠ none) : s.freeSlot = some i := by
  refine slotSearch_eq_some_iff.mpr ⟨by simp [hi], fun j hj => ?_⟩
  rw [Option.isNone_eq_false_iff, Option.isSome_iff_ne_none]
  exact hlow j hj

/-- A tag is taken when it is not 0 and another slot's record carries it. -/
theorem tagTaken_iff {tag : Nat} {but : Option Slot} :
    s.tagTaken tag but = true ↔ tag ≠ 0 ∧ ∃ j r', some j ≠ but ∧ s.record j = some r' ∧ r'.tag = tag := by
  simp only [State.tagTaken, Bool.and_eq_true, decide_eq_true_eq, List.any_eq_true, mem_allSlots, true_and,
    Option.any_eq_true, beq_iff_eq]
  refine and_congr_right fun _ => exists_congr fun j => ?_
  exact ⟨fun ⟨hne, r', hr', htag⟩ => ⟨r', hne, hr', htag⟩, fun ⟨r', hne, hr', htag⟩ => ⟨hne, r', hr', htag⟩⟩

/-- POST's second check: a record names the target, carries the tag, or is the saw's beside another (R6). -/
def State.collides (s : State) (r : Allotment) : Prop :=
  ∃ j r', s.record j = some r' ∧ (r'.target = r.target ∨ (r.tag ≠ 0 ∧ r'.tag = r.tag) ∨ (r.kind = .saw ∧ r'.kind = .saw))

/-- The second check is the model's three searches. -/
theorem collides_iff : s.collides r ↔
    ((s.slotOf r.target).isSome || s.tagTaken r.tag none || (decide (r.kind = .saw) && s.sawSlot.isSome)) = true := by
  simp only [Bool.or_eq_true, Bool.and_eq_true, decide_eq_true_eq, tagTaken_iff, Option.isSome_iff_exists]
  constructor
  · rintro ⟨j, r', hr', ht | ⟨hne, htag⟩ | ⟨hk, hk'⟩⟩
    · cases hslot : s.slotOf r.target with
      | none => exact absurd ht (slotOf_none hslot hr')
      | some k => exact .inl (.inl ⟨k, rfl⟩)
    · exact .inl (.inr ⟨hne, j, r', nofun, hr', htag⟩)
    · cases hslot : s.sawSlot with
      | none => exact absurd hk' (sawSlot_none hslot hr')
      | some k => exact .inr ⟨hk, k, rfl⟩
  · rintro ((⟨j, hj⟩ | ⟨hne, j, r', -, hr', htag⟩) | ⟨hk, j, hj⟩)
    · obtain ⟨r', hr', ht⟩ := slotOf_some hj
      exact ⟨j, r', hr', .inl ht⟩
    · exact ⟨j, r', hr', .inr (.inl ⟨hne, htag⟩)⟩
    · obtain ⟨r', hr', hk'⟩ := sawSlot_some hj
      exact ⟨j, r', hr', .inr (.inr ⟨hk, hk'⟩)⟩

/-- A record that collides with another is refused. -/
theorem post_of_collides (h : s.collides r) : s.post r = refuse s .inUse := if_pos (collides_iff.mp h)

/-- A record that collides with none is placed in the lowest VACANT slot. -/
theorem post_of_free (h : ¬ s.collides r) (hi : s.freeSlot = some i) :
    s.post r = done ((s.setRecord i (some r)).forgetChange i) [BitVec.ofNat 8 i.val] := by
  simp only [State.post, hi]
  exact if_neg (mt collides_iff.mpr h)

/-- Without a VACANT slot it is refused. -/
theorem post_of_full (h : ¬ s.collides r) (hfull : s.freeSlot = none) : s.post r = refuse s .noSlot := by
  simp only [State.post, hfull]
  exact if_neg (mt collides_iff.mpr h)

/-- The constraints on a FIELD target (R3). -/
theorem fieldFits_iff {u : UnitIx} {o : Outlet} {claim : Nat} : s.fieldFits u o claim = true ↔
    ∃ e p, s.flc.units.get u = some e ∧ e.plate = some p ∧ o.val < p.outlets ∧ claim ≤ 10 * (p.ratings.get o).toNat := by
  unfold State.fieldFits
  rcases he : s.flc.units.get u with _ | e
  · simp
  · rcases hp : e.plate with _ | p <;> simp [hp]

/-- The constraints on a record, by its kind (R3, Table 1-3). -/
theorem constraints_iff : s.constraints r = true ↔
    ((r.kind = .ordinary ∧ r.idle = 0 ∧ ((∃ n, r.target = .relay n) ∨
      ∃ u o e p, r.target = .field u o ∧ s.flc.units.get u = some e ∧ e.plate = some p ∧ o.val < p.outlets ∧
        r.claim ≤ 10 * (p.ratings.get o).toNat)) ∨
    (r.kind = .critical ∧ r.idle = 0 ∧ r.quota = 0 ∧ ∃ n, r.target = .relay n) ∨
    (r.kind = .saw ∧ r.target = .clutch ∧ r.quota = 0 ∧ r.idle ≤ r.claim)) := by
  rcases hk : r.kind with _ | _ | _ <;> rcases ht : r.target with ⟨u, o⟩ | n | _
  case ordinary.field =>
    simp only [State.constraints, hk, ht, Bool.and_eq_true, fieldFits_iff, beq_iff_eq]
    constructor
    · rintro ⟨⟨e, p, h⟩, hidle⟩
      exact .inl ⟨trivial, hidle, .inr ⟨u, o, e, p, rfl, h⟩⟩
    · rintro (⟨-, hidle, ⟨n, hn⟩ | ⟨u', o', e, p, hto, h⟩⟩ | ⟨hk', -⟩ | ⟨hk', -⟩)
      · cases hn
      · cases hto
        exact ⟨⟨e, p, h⟩, hidle⟩
      · cases hk'
      · cases hk'
  all_goals simp [State.constraints, hk, ht, and_comm]

end

section
variable {s : State} {kind priority locked : Byte} {target : TargetBytes} {claim idle quota tag : Half}

/-- POST of bytes in range whose record passes the constraints (R6). -/
theorem exec_post_of_fits (hready : s.Ready) {t : State} {c : ResultCode} {p : List Byte} {r : Allotment}
    (hr : postedRecord kind target claim idle priority quota tag locked = some r) (hrange : r.inRange = true)
    (hfits : s.constraints r = true) (ht : s.cleared.post r = (t.cleared, ⟨c, p⟩)) :
    exec (.post kind target claim idle priority quota tag locked) s = .next (t.answered c p) := by
  have hfits' : s.cleared.constraints r = true := hfits
  exact request_answers hready (by simp only [hr, hrange, hfits', Bool.and_self, if_true, ht])

/-- POST of a record out of range or against the constraints (R6). -/
theorem exec_post_of_unfit (hready : s.Ready) {r : Allotment}
    (hr : postedRecord kind target claim idle priority quota tag locked = some r)
    (hunfit : (r.inRange && s.constraints r) = false) :
    exec (.post kind target claim idle priority quota tag locked) s = .next (s.answered .badField []) := by
  refine request_refused_here hready ?_
  simp only [hr]
  exact if_neg (ne_true_of_eq_false hunfit)

end

/-- A true/false byte above 1 fails (R193). -/
theorem boolOf_eq_none {b : Byte} (h : 1 < b.toNat) : boolOf b = none := by
  have h0 : b ≠ 0 := by rintro rfl; exact absurd h (by decide)
  have h1 : b ≠ 1 := by rintro rfl; exact absurd h (by decide)
  simp only [boolOf, h0, h1, if_false]

/-- A quantity is 0 when its number is. -/
theorem toNat_ne_zero_iff {x : Half} : x.toNat ≠ 0 ↔ x ≠ 0 := by simp [← BitVec.toNat_inj]

/-- Settles O9, by POST's checks in their order. -/
theorem postPlacesAnIdleRecord : Obligations.PostPlacesAnIdleRecord := by
  refine ⟨fun s kind priority locked target claim idle quota tag k g b i r hready hk hg hb hr hrange hfits htarget htag hsaw
      hi hlow => ?_, fun s r => constraints_iff, fun s kind priority locked target claim idle quota tag hready =>
      ⟨fun hbad => ?_, fun k g b r hk hg hb hr => ⟨fun hunfit => ?_, fun hlo hhi hprio hfits => ⟨fun hcollide => ?_,
        fun hfull => ?_⟩⟩⟩⟩
  · have hposted : postedRecord kind target claim idle priority quota tag locked = some r := by
      simp only [postedRecord, hk, hg, hb, hr]
    have hfree : ¬ s.collides r := by
      rintro ⟨j, r', hr', ht | ⟨hne, ht⟩ | ⟨hk', hk''⟩⟩
      · exact slotOf_none htarget hr' (ht.trans (by rw [hr]))
      · rw [hr] at hne ht
        exact htag (toNat_ne_zero_iff.mp hne) j r' hr' ht
      · exact sawSlot_none (hsaw (by rw [hr] at hk'; exact hk')) hr' hk''
    exact exec_post_of_fits hready hposted (by rw [hr]; simpa [Allotment.inRange] using hrange) hfits
      (post_of_free (s := s.cleared) hfree (freeSlot_of_lowest hi hlow))
  · refine request_refused hready fun t => ?_
    have hnone : postedRecord kind target claim idle priority quota tag locked = none := by
      unfold postedRecord
      rcases hbad with hbad | hbad | hbad
      · simp only [hbad]
      · simp only [hbad]
        cases kindOf kind <;> rfl
      · simp only [boolOf_eq_none hbad]
        cases kindOf kind <;> cases targetOf target <;> rfl
    simp only [hnone]
  · have hposted : postedRecord kind target claim idle priority quota tag locked = some r := by
      simp only [postedRecord, hk, hg, hb, hr]
    refine exec_post_of_unfit hready hposted (Bool.and_eq_false_iff.mpr ?_)
    by_cases hc : s.constraints r = false
    · exact .inr hc
    · refine .inl ?_
      rw [hr, Allotment.inRange, decide_eq_false_iff_not]
      rcases hunfit with h | h | h | h
      · exact fun hin => absurd hin.1 (Nat.not_le.mpr h)
      · exact fun hin => absurd hin.2.1 (Nat.not_le.mpr h)
      · exact fun hin => absurd hin.2.2 (Nat.not_le.mpr h)
      · exact absurd h hc
  · have hposted : postedRecord kind target claim idle priority quota tag locked = some r := by
      simp only [postedRecord, hk, hg, hb, hr]
    have hcollides : s.collides r := by
      obtain ⟨j, r', hr', h⟩ := hcollide
      rw [hr]
      exact ⟨j, r', hr', h.imp_right (Or.imp_left (And.imp_left toNat_ne_zero_iff.mpr))⟩
    exact exec_post_of_fits hready hposted (by rw [hr]; simp [Allotment.inRange, hlo, hhi, hprio]) hfits
      (t := s) (post_of_collides (s := s.cleared) hcollides)
  · have hposted : postedRecord kind target claim idle priority quota tag locked = some r := by
      simp only [postedRecord, hk, hg, hb, hr]
    have hfree : ¬ s.collides r := by
      rintro ⟨j, x, hx, hcollide⟩
      obtain ⟨r', hr', ht, htag, hsaw⟩ := hfull j
      cases hx.symm.trans hr'
      rw [hr] at hcollide
      rcases hcollide with h | ⟨hne, h⟩ | ⟨hk', hk''⟩
      · exact ht h
      · exact htag.elim (toNat_ne_zero_iff.mp hne) (· h)
      · exact hsaw.elim (· hk') (· hk'')
    have hnone : s.freeSlot = none := slotSearch_eq_none_iff.mpr fun j => by
      obtain ⟨r', hr', -⟩ := hfull j
      simp [hr']
    exact exec_post_of_fits hready hposted (by rw [hr]; simp [Allotment.inRange, hlo, hhi, hprio]) hfits
      (t := s) (post_of_full (s := s.cleared) hfree hnone)

end Sys2Proof.Machine
end

section
/-! SUPPORT. HOLD and FREE (R16, R17), and the saw's requests (R155 to R157, R170, R174). -/

namespace Sys2Proof.Machine

-- each theorem's proof is checked before the next begins, so that few threads are needed
set_option Elab.async false

/-! ## HOLD of the saw record during a stroke (R24, R167, R168) -/

section
variable {s : State} {i : Slot} {r : Allotment}

/-- A halt from FEEDING, without cut power wanted (R168). -/
theorem enterHalted_feeding (hst : s.saw.st = .feeding) (hcut : s.saw.cutWanted = false) :
    s.enterHalted = (s.onSaw fun w => { w with
      st := .halted, remembered := some .feedWait, setting := none, ret := none, feedRate := 0
      spinTimer := none, waitTimer := none, settleTimer := none, feed := .idle, setworks := .idle }).raise .sawState := by
  have hhalt : s.saw.halt = { s.saw.stopMotion with remembered := some .feedWait, setting := none, ret := none } := by
    simp only [Saw.halt, hst]
  have hne : (s.onSaw Saw.halt).saw.st ≠ .halted := by
    rw [onSaw_saw, hhalt]
    exact fun h => absurd (hst.symm.trans h) (by decide)
  rw [State.enterHalted, clearCutWanted_of_not hcut, enterSaw_of_ne hne]
  simp only [State.onSaw, hhalt]
  rfl

/-- The state a stroke halted by the beginning of the saw record's release leaves (R24, R168). -/
def State.strokeHalted (s : State) (b : Bool) (i : Slot) (r : Allotment) (d : Dest) (reason : Option Reason) : State :=
  { s with
    alt := { s.alt with
      slots := s.alt.slots.set i (some (r.releasing d reason)), changed := s.alt.changedBy b i
      clutch := false, wait := some (.release (s.param .clutchTimeout * 1000)) }
    saw := { s.saw with
      st := .halted, remembered := some .feedWait, setting := none, ret := none, feedRate := 0
      spinTimer := none, waitTimer := none, settleTimer := none, feed := .idle, setworks := .idle }
    rqp := { s.rqp with latched := s.rqp.latched ||| Cause.sawState.bit } }

/-- A release of the LIVE saw record with CLUTCH_IN active, in FEEDING (R24, R167, R168). -/
theorem release_saw_feeding {d : Dest} (hd : d = .shed ∨ ∃ h, d = .held h) {reason : Option Reason} {b : Bool}
    (hi : s.sawSlot = some i) (hr : s.record i = some r) (ht : r.target = .clutch) (hst : r.state = .live)
    (hin : s.active .clutchIn = true) (hfeed : s.saw.st = .feeding) (hcut : s.saw.cutWanted = false)
    (hstrict : s.alt.strict = none) :
    s.release b i d reason = s.strokeHalted b i r d reason := by
  have hk : r.kind = .saw := kind_of_sawSlot hi hr
  have hopen : s.openRelease b i d reason = s.onAlt fun a => { a with
      slots := a.slots.set i (some (r.releasing d reason)), changed := a.changedBy b i
      clutch := false, wait := some (.release (s.param .clutchTimeout * 1000)) } := by
    rw [openRelease_live hr hst, ht, noteChange_eq]
    rfl
  have hrec : (s.openRelease b i d reason).record i = some (r.releasing d reason) := record_openRelease hr
  have hnotice : (s.openRelease b i d reason).tellSaw i (fun s => s.noticeRelease d) =
      (s.openRelease b i d reason).enterHalted := by
    have hfeed' : (s.openRelease b i d reason).saw.st = .feeding := by rw [openRelease_saw, hfeed]
    rw [tellSaw_of_saw hrec hk]
    rcases hd with rfl | ⟨h, rfl⟩ <;> simp only [State.noticeRelease, hfeed']
  have hhalted : (s.openRelease b i d reason).enterHalted = s.strokeHalted b i r d reason := by
    rw [enterHalted_feeding (by rw [openRelease_saw, hfeed]) (by rw [openRelease_saw, hcut]), hopen]
    rfl
  simp only [State.release, hnotice, hhalted]
  generalize hs' : s.strokeHalted b i r d reason = s'
  have hslots : s'.alt.slots = s.alt.slots.set i (some (r.releasing d reason)) := by rw [← hs']; rfl
  have hrec' : s'.record i = some (r.releasing d reason) := by rw [record_of_slots hslots, if_pos rfl]
  have hsettle : s'.settleRelease b i = s' := by
    have hin' : s'.active .clutchIn = true := by rw [← hs']; exact hin
    have htarget : (r.releasing d reason).target = .clutch := ht
    simp only [State.settleRelease, hrec', htarget, hin', if_true]
  have hreleasing : s'.sawReleasing = true := by
    rw [sawReleasing_of_slot (sawSlot_of_set hi (r := r.releasing d reason) hk hslots) hrec']
    rfl
  rw [hsettle, tellSaw_of_saw hrec' hk, if_pos hreleasing]
  exact checkStrict_of_none (by rw [← hs']; exact hstrict)

end

/-! ## HOLD and FREE (R16, R17) -/

/-- The record that FREE leaves, written out (R13, R17). -/
theorem freed_eq (r : Allotment) : r.freed =
    if ¬ r.wanted then { r with state := .idle }
    else if 0 < r.quota ∧ r.quota ≤ r.used then { r with state := .held .quota, reason := some .quota }
    else { r with state := .pending } := by
  rw [← toPending_eq]
  cases hw : r.wanted <;> simp [Allotment.freed, hw]

/-- Settles O14, by the state the record is in; the saw's HOLD during a stroke by its release. -/
theorem holdAndFreeMoveRecords : Obligations.HoldAndFreeMoveRecords := by
  refine ⟨fun s slot i r hready hi hr => ⟨fun hst => ?_, fun hst => ?_, fun hst => ?_, fun hst => ?_, fun hst => ?_,
    fun hst => ?_⟩, fun s slot i r hready hi hr hslot hk ht hst hin hfeed hcut hstrict => ?_⟩
  all_goals have hr' : s.cleared.record i = some r := hr
  · refine request_arbitrates hready ((onRecord_of_slot hi hr' _).trans ?_) rfl
    have hcheck := checkStrict_cleared (s.setRecord i (some { r with state := .held .host }))
    rcases hst with hst | hst <;> simp only [hst] <;> exact congrArg (done · []) hcheck
  · refine request_arbitrates hready ((onRecord_of_slot hi hr' _).trans ?_) rfl
    rcases hst with hst | hst <;> simp only [hst] <;> rfl
  · refine request_arbitrates hready ((onRecord_of_slot hi hr' _).trans ?_) rfl
    rcases hst with hst | hst <;> simp only [hst] <;> rfl
  · refine request_arbitrates_not hready ((onRecord_of_slot hi hr' _).trans ?_) rfl
    rcases hst with hst | hst | ⟨h, hne, hst | hst⟩
    · simp only [hst]
      rfl
    · simp only [hst]
      rfl
    all_goals
      cases h
      case host => exact absurd rfl hne
      all_goals
        simp only [hst]
        rfl
  · refine request_answers hready ((onRecord_of_slot hi hr' _).trans ?_)
    rw [← freed_eq]
    rcases hst with hst | hst | ⟨hst, hsaw⟩
    · simp only [hst]
      rfl
    · simp only [hst]
      rfl
    · simp only [hst, cleared_saw, hsaw, if_false]
      rfl
  · refine request_refused_here hready ((onRecord_of_slot hi hr' _).trans ?_)
    rcases hst with hst | ⟨hst, hsaw⟩ | hst
    · simp only [hst]
      rfl
    · simp only [hst, cleared_saw, hsaw, if_true]
      rfl
    · cases hst' : r.state
      case held h => exact absurd hst' (hst h)
      all_goals rfl
  · refine request_arbitrates hready ((onRecord_of_slot hi hr' _).trans ?_) rfl
    have hrelease := release_saw_feeding (s := s.cleared) (b := false) (reason := none) (.inr ⟨.host, rfl⟩) hslot hr' ht hst
      hin hfeed hcut hstrict
    simp only [hst, hrelease]
    rfl

end Sys2Proof.Machine
end

section
/-! SUPPORT. The saw's requests (R155 to R157, R170, R174). -/

namespace Sys2Proof.Machine

-- each theorem's proof is checked before the next begins, so that few threads are needed
set_option Elab.async false

/-! ## The cut list (R155) -/

section
variable {s : State} {thickness stroke ceiling : Half}

/-- An order whose ceiling needs no clamping. -/
theorem clampCeiling_eq_iff {x : Nat} : clampCeiling x = x ↔ 10 ≤ x ∧ x ≤ 400 := by
  unfold clampCeiling
  omega

/-- The bytes of an order in a payload (Table 11-2). -/
theorem orderBytes_eq (o : CutOrder) : orderBytes o =
    [BitVec.ofNat 8 o.number, BitVec.ofNat 8 (o.thickness / 256), BitVec.ofNat 8 o.thickness,
      BitVec.ofNat 8 (o.stroke / 256), BitVec.ofNat 8 o.stroke, BitVec.ofNat 8 (o.ceiling / 256),
      BitVec.ofNat 8 o.ceiling] := by
  simp only [orderBytes, beBytes_one, beBytes_two, List.cons_append, List.nil_append]

/-- CUT_ADD with room for the order (R155). -/
theorem exec_cutAdd_of_room (hready : s.Ready) (hth : thickness.toNat ≤ 3000) (hlo : 200 ≤ stroke.toNat)
    (hhi : stroke.toNat ≤ 8000) (hroom : s.saw.cuts.length < 16) {o : CutOrder}
    (ho : o = { number := s.saw.nextNumber, thickness := thickness.toNat, stroke := stroke.toNat
                ceiling := clampCeiling ceiling.toNat }) :
    exec (.cutAdd thickness stroke ceiling) s = .next ({ s with saw := { s.saw with
      cuts := s.saw.cuts ++ [o], nextNumber := (s.saw.nextNumber + 1) % 256 } }.answered
        (if o.ceiling = ceiling.toNat then .done else .clamped)
        (orderBytes o ++ [BitVec.ofNat 8 (s.saw.cuts.length + 1)])) := by
  have hfields : ¬ (3000 < thickness.toNat ∨ stroke.toNat < 200 ∨ 8000 < stroke.toNat) := by omega
  have hfull : ¬ Config.cutOrders ≤ s.cleared.saw.cuts.length := Nat.not_le.mpr hroom
  refine request_answers hready ?_
  rw [if_neg hfields, if_neg hfull, ho]
  rfl

end

/-! ## SAW_START and SAW_RESET (R157, R174) -/

section
variable {s : State} {i : Slot} {r : Allotment}

/-- A saw slot found is one. -/
theorem present_of_sawSlot (hi : s.sawSlot = some i) : ¬ s.sawSlot.isNone = true := by simp [hi]

/-- The saw record switched or releasing (R174). -/
theorem sawSwitched_iff (hi : s.sawSlot = some i) (hr : s.record i = some r) :
    s.sawSwitched = true ↔ r.state = .granted ∨ r.state = .live ∨ ∃ d, r.state = .releasing d := by
  simp only [State.sawSwitched, sawRecord_of_slot hi, hr, Bool.or_eq_true, beq_iff_eq, isReleasing_iff, or_assoc]

/-- A latch set (R157, R174). -/
theorem sawLatched_iff : s.sawLatched = true ↔ s.inu.guardLatch = true ∨ s.inu.estopLatch = true := by
  simp only [State.sawLatched, Bool.or_eq_true]

/-- No latch set (R157, R174). -/
theorem sawLatched_eq_false (hg : s.inu.guardLatch = false) (he : s.inu.estopLatch = false) : s.sawLatched = false := by
  simp only [State.sawLatched, hg, he, Bool.or_self]

/-- The sequencer claims the saw's power: the flag cleared, CLAIMING entered (R157). -/
def State.claimed (s : State) : State := { s with
  saw := { s.saw with stopFlag := false, st := .claiming }
  rqp := { s.rqp with latched := s.rqp.latched ||| Cause.sawState.bit } }

/-- SAW_START carried out (R157). -/
theorem exec_sawStart_of (hready : s.Ready) (hi : s.sawSlot = some i) (hcuts : s.saw.cuts ≠ []) (hst : s.saw.st = .idle)
    (hg : s.inu.guardLatch = false) (he : s.inu.estopLatch = false) {t : State}
    (ht : s.cleared.claimed.setWanted true i true = t.cleared) :
    exec .sawStart s = .next (t.answered .accepted []) := by
  refine request_answers hready ?_
  have hi' : s.cleared.sawSlot = some i := hi
  have hstart : ¬ (s.cleared.saw.cuts.isEmpty = true ∨ s.cleared.saw.st ≠ .idle) := by
    simp [hcuts, hst]
  have henter : (s.cleared.onSaw fun w => { w with stopFlag := false }).enterSaw .claiming = s.cleared.claimed := by
    refine (enterSaw_of_ne ?_).trans rfl
    simp [hst]
  have hslot : s.cleared.claimed.sawSlot = some i := hi
  have hlatched : s.cleared.sawLatched = false := sawLatched_eq_false hg he
  simp only [hi', Option.isNone_some, Bool.false_eq_true, if_false, hstart, hlatched, henter, State.sawWant, hslot, ht]
  rfl

end

/-- Settles O50, request by request. -/
theorem sawRequests : Obligations.SawRequests := by
  refine ⟨fun s thickness stroke ceiling o hready ho => ⟨fun hbad => ?_, fun hth hlo hhi => ⟨fun hfull => ?_, fun hroom => ?_⟩,
      fun hst => ?_, fun hidle hfault => ?_⟩,
    fun s hready => ⟨fun hnone => ?_, fun i r hi hr => ⟨fun hno => ?_, fun hcuts hst hl => ?_, fun r' t hcuts hst hg he ht =>
      ⟨fun hw => ?_, fun hw hne hr' => ?_, fun hw hidle hq hr' => ?_⟩⟩, fun hidle hfault => ?_, fun hst => ?_,
      fun hst => ?_, fun hst hl => ?_, fun hst hg he hfree => ?_, fun i r hst hg he hi hr hswitched => ?_⟩⟩
  · exact request_refused_here hready (if_pos hbad)
  · have hfields : ¬ (3000 < thickness.toNat ∨ stroke.toNat < 200 ∨ 8000 < stroke.toNat) := by omega
    exact request_refused_here hready ((if_neg hfields).trans (if_pos hfull))
  · have hclamp : clampCeiling ceiling.toNat = max 10 (min 400 ceiling.toNat) := rfl
    rw [exec_cutAdd_of_room hready hth hlo hhi hroom (ho.trans (by rw [hclamp])), orderBytes_eq]
    have hcode : (o.ceiling = ceiling.toNat) = (10 ≤ ceiling.toNat ∧ ceiling.toNat ≤ 400) := by
      rw [ho, ← hclamp]
      exact propext clampCeiling_eq_iff
    simp only [hcode, List.cons_append, List.nil_append]
  · exact request_answers hready (if_pos hst)
  · exact request_refused_here hready (if_neg (by simp [hidle, hfault]))
  · exact request_refused_here hready (if_pos (Option.isNone_iff_eq_none.mpr hnone))
  · refine request_refused_here hready ((if_neg (present_of_sawSlot (s := s.cleared) hi)).trans (if_pos ?_))
    exact hno.imp_left List.isEmpty_iff.mpr
  · refine request_refused_here hready ((if_neg (present_of_sawSlot (s := s.cleared) hi)).trans
      ((if_neg ?_).trans (if_pos (sawLatched_iff.mpr hl))))
    simp [hcuts, hst]
  · refine exec_sawStart_of hready hi hcuts hst hg he ?_
    rw [ht]
    exact setWanted_same (s := s.cleared.claimed) hr hw
  · refine exec_sawStart_of hready hi hcuts hst hg he ?_
    rw [ht, hr']
    exact setWanted_on_other (s := s.cleared.claimed) hr hw hne
  · refine exec_sawStart_of hready hi hcuts hst hg he ?_
    rw [ht, hr']
    have hunspent : ¬ (0 < r.quota ∧ r.quota ≤ r.used) := by omega
    have hset := setWanted_on_idle (s := s.cleared.claimed) (b := true) hr hw hidle
    rw [toPending_eq, if_neg hunspent] at hset
    exact hset
  · exact request_answers hready (if_neg (by simp [hidle, hfault]))
  · exact request_refused_here hready (if_pos hst)
  · exact request_refused_here hready (if_pos hst)
  · exact request_refused_here hready ((if_neg (not_not.mpr hst)).trans (if_pos (sawLatched_iff.mpr hl)))
  · have hopen : s.cleared.sawSwitched = false := by
      rcases hfree with hnone | ⟨i, r, hi, hr, hr'⟩
      · have hnone' : s.cleared.sawSlot = none := hnone
        simp only [State.sawSwitched, State.sawRecord, hnone', Option.bind_none]
      · refine Bool.eq_false_iff.mpr fun hs => ?_
        rcases (sawSwitched_iff (s := s.cleared) hi hr).mp hs with h | h | ⟨d, h⟩ <;> simp [h] at hr'
    refine request_answers hready ((if_neg (not_not.mpr hst)).trans ((if_neg ?_).trans ((if_neg ?_).trans ?_)))
    · exact ne_true_of_eq_false (sawLatched_eq_false hg he)
    · exact ne_true_of_eq_false hopen
    · rw [enterSaw_of_ne (s := s.cleared) (st := .idle) (by simp [hst])]
      rfl
  · refine request_refused_here hready ((if_neg (not_not.mpr hst)).trans ((if_neg ?_).trans (if_pos ?_)))
    · exact ne_true_of_eq_false (sawLatched_eq_false hg he)
    · exact (sawSwitched_iff hi hr).mpr hswitched

end Sys2Proof.Machine
end

section
/-! SUPPORT. The governor's acts as single updates: moves of the gate, the reports, START and the timers (Sections 4, 5). -/

namespace Sys2Proof.Machine

-- each theorem's proof is checked before the next begins, so that few threads are needed
set_option Elab.async false

/-! ## Events -/

/-- An event outside reset is its act (logs 1, 2). -/
theorem event_is {s t : State} {act : State → State} (hrun : s.inReset = false) (h : act s = t) : s.event act = .next t := by
  rw [event_of_running hrun, h]

section
variable {s : State}

/-! ## Reports (R32, R69, R169) -/

/-- A report of a state that is not REGULATING, with no feed to stop. -/
theorem govReport_of_idle (hst : s.gov.st ≠ .regulating) (hfeed : s.saw.st ≠ .feeding) :
    s.govReport = { s with
      alt := { s.alt with headroom := 0 }
      saw := { s.saw with scale := 0 }
      rqp := { s.rqp with latched := s.rqp.latched ||| Cause.govState.bit } } := by
  have hreg : decide (s.gov.st = .regulating) = false := decide_eq_false hst
  simp only [State.govReport, State.sawGovReport, hreg, Bool.false_eq_true, if_false]
  simp only [State.onSaw, State.onAlt, hfeed, if_false]
  rfl

/-- A report of REGULATING raises GOV_STATE alone. -/
theorem govReport_regulating (hst : s.gov.st = .regulating) : s.govReport = s.raise .govState := by
  have hreg : decide (s.gov.st = .regulating) = true := decide_eq_true hst
  simp only [State.govReport, State.sawGovReport, hreg, if_true]

/-! ## Moves (R93, R94) -/

/-- A move begun away from its limit. -/
theorem beginMove_of_clear {p : MovePurpose} {dir : GateDir} {asked : Nat} (h : s.active dir.limit = false) :
    s.beginMove p dir asked = { s with gov := { s.gov with
      gateDir := dir, move := some { purpose := p, dir, asked, issued := 0 }
      stepTimer := some (1000000 / s.param .gateRate) } } := by
  simp only [State.beginMove, State.onGov, Gov.beginMove, h, Bool.false_eq_true, if_false]
  rfl

/-- A move begun at its limit ends at once. -/
theorem beginMove_of_limit {p : MovePurpose} {dir : GateDir} {asked : Nat} (h : s.active dir.limit = true) :
    s.beginMove p dir asked =
      s.onGov fun g => (Gov.endMove { g with gateDir := dir }).atLimit s.params dir := by
  simp only [State.beginMove, State.onGov, Gov.beginMove, h, if_true]

/-- A close-to-shut move begun (R95). -/
theorem beginShut_of_clear (h : s.active .gateShut = false) : s.beginShut = { s with gov := { s.gov with
    gateDir := .closing
    move := some { purpose := .shut, dir := .closing, issued := 0
                   asked := (if s.gov.gateValid then s.gov.gatePos else s.param .gateSpan) + 100 }
    stepTimer := some (1000000 / s.param .gateRate) } } :=
  beginMove_of_clear h

/-- A close-to-shut move begun with GATE_SHUT active ends at once, the gate at 0 and valid (R94, R95). -/
theorem beginShut_of_limit (h : s.active .gateShut = true) : s.beginShut = { s with gov := { s.gov with
    gateDir := .closing, move := none, stepTimer := none, gatePos := 0, gateValid := true } } :=
  beginMove_of_limit h

/-- A run-up move begun with its timer (R100). -/
theorem beginRunup_of_clear (h : s.active .gateFull = false) : s.beginRunup = { s with gov := { s.gov with
    runupTimer := some (s.param .runupInterval * 1000000), gateDir := .opening
    stepTimer := some (1000000 / s.param .gateRate)
    move := some { purpose := .runUp, dir := .opening, asked := s.param .runupStep, issued := 0 } } } :=
  beginMove_of_clear (s := s.onGov fun g => { g with runupTimer := secTimer (s.param .runupInterval) }) h

/-- A run-up move begun with GATE_FULL active ends at once, the gate at gate_span (R94, R100). -/
theorem beginRunup_of_limit (h : s.active .gateFull = true) : s.beginRunup = { s with gov := { s.gov with
    runupTimer := some (s.param .runupInterval * 1000000), gateDir := .opening
    stepTimer := none, move := none, gatePos := s.param .gateSpan } } :=
  beginMove_of_limit (s := s.onGov fun g => { g with runupTimer := secTimer (s.param .runupInterval) }) h

/-- A close-to-shut move of STOPPED ended by GATE_SHUT (R97). -/
theorem shutEnded_stopped (h : s.gov.st = .stopped) : s.shutEnded = s.raise .govState := by
  simp only [State.shutEnded, h]

/-! ## START and the homing move (R97, R99) -/

/-- RUN_UP begun (R99). -/
theorem startRunup_of (hfull : s.active .gateFull = false) (hfeed : s.saw.st ≠ .feeding) : s.startRunup = { s with
    gov := { s.gov with
      st := .runUp, duty := 1023, spare := 0, fPrev := none, overspeed := 0, collapse := 0
      holdTimer := none, trimTimer := none, runupTimer := some (s.param .runupInterval * 1000000)
      gateDir := .opening, stepTimer := some (1000000 / s.param .gateRate)
      move := some { purpose := .runUp, dir := .opening, asked := s.param .runupStep, issued := 0 } }
    alt := { s.alt with headroom := 0 }
    saw := { s.saw with scale := 0 }
    rqp := { s.rqp with latched := s.rqp.latched ||| Cause.govState.bit } } := by
  rw [State.startRunup, beginRunup_of_clear (s := s.onGov fun g => g.enterIdle .runUp) hfull, govReport_of_idle]
  · rfl
  · exact GovState.noConfusion
  · exact hfeed

/-- A homing move begun (R97). -/
theorem homeGate_of_clear (h : s.active .gateShut = false) : s.homeGate = { s with gov := { s.gov with
    gateValid := false, gatePos := 0, gateDir := .closing, stepTimer := some (1000000 / s.param .gateRate)
    move := some { purpose := .shut, dir := .closing, asked := s.param .gateSpan + 100, issued := 0 } } } := by
  rw [State.homeGate, beginShut_of_clear (s := s.onGov fun g => { g with gateValid := false, gatePos := 0 }) h]
  rfl

/-- A homing move with GATE_SHUT active (R94, R97). -/
theorem homeGate_of_limit (h : s.active .gateShut = true) (hst : s.gov.st = .stopped) : s.homeGate = { s with
    gov := { s.gov with gateValid := true, gatePos := 0, gateDir := .closing, stepTimer := none, move := none }
    rqp := { s.rqp with latched := s.rqp.latched ||| Cause.govState.bit } } := by
  rw [State.homeGate, beginShut_of_limit (s := s.onGov fun g => { g with gateValid := false, gatePos := 0 }) h]
  exact shutEnded_stopped (s := { s with gov := { s.gov with
    gateDir := .closing, move := none, stepTimer := none, gatePos := 0, gateValid := true } }) hst

/-- The conditions of CLEAR_TRIP (R90). -/
theorem tripClears_iff : s.tripClears = true ↔
    s.gov.st = .tripped ∧ s.inu.estopLatch = false ∧ (s.gov.cause = .gateFault ∨ s.active .gateShut = true) := by
  simp only [State.tripClears, Bool.and_eq_true, Bool.or_eq_true, Bool.not_eq_true', beq_iff_eq, and_assoc]

end

/-- Settles O32, request by request. -/
theorem startClearTripAndGateHome : Obligations.StartClearTripAndGateHome := by
  refine ⟨fun s hready => ⟨fun hno => ?_, fun hst hcap hvalid => ⟨fun hl => ?_, fun hl hlow => ?_,
    fun hl hlow hfull hfeed => ?_⟩⟩, fun s hready hfeed => ⟨fun hst hl hshut => ?_, fun hno => ?_, fun hst => ?_,
    fun hst hmove => ?_, fun hst hmove hshut => ?_, fun hst hmove hshut => ?_⟩⟩
  · exact request_refused_here hready (if_pos hno)
  · have hok : ¬ (s.gov.st ≠ .stopped ∨ s.param .bCap = 0 ∨ s.gov.gateValid = false) := by simp [hst, hcap, hvalid]
    exact request_refused_here hready ((if_neg hok).trans (if_pos hl))
  · have hok : ¬ (s.gov.st ≠ .stopped ∨ s.param .bCap = 0 ∨ s.gov.gateValid = false) := by simp [hst, hcap, hvalid]
    exact request_refused_here hready ((if_neg hok).trans ((if_neg (ne_true_of_eq_false hl)).trans (if_pos hlow)))
  · have hok : ¬ (s.gov.st ≠ .stopped ∨ s.param .bCap = 0 ∨ s.gov.gateValid = false) := by simp [hst, hcap, hvalid]
    refine request_answers hready ((if_neg hok).trans ((if_neg (ne_true_of_eq_false hl)).trans
      ((if_neg (ne_true_of_eq_false hlow)).trans ?_)))
    exact congrArg accepted (startRunup_of (s := s.cleared) hfull hfeed)
  · refine request_answers hready ((if_pos (tripClears_iff.mpr ⟨hst, hl, hshut⟩)).trans (congrArg (done · []) ?_))
    exact govReport_of_idle (s := s.cleared.onGov fun g => g.enterIdle .stopped) GovState.noConfusion hfeed
  · refine request_refused_here hready (if_neg (mt tripClears_iff.mp ?_))
    rintro ⟨hst, hl, hshut⟩
    rcases hno with h | h | ⟨h, h'⟩
    · exact h hst
    · exact absurd (h.symm.trans hl) (by decide)
    · exact hshut.elim h (fun h => absurd (h.symm.trans h') (by decide))
  · exact request_refused_here hready (if_pos hst)
  · exact request_refused_here hready ((if_neg (not_not.mpr hst)).trans (if_pos (Option.isSome_iff_ne_none.mpr hmove)))
  · have hfree : ¬ s.gov.move.isSome = true := by simp [hmove]
    refine request_answers hready ((if_neg (not_not.mpr hst)).trans ((if_neg hfree).trans (congrArg accepted ?_)))
    exact homeGate_of_clear (s := s.cleared) hshut
  · have hfree : ¬ s.gov.move.isSome = true := by simp [hmove]
    refine request_answers hready ((if_neg (not_not.mpr hst)).trans ((if_neg hfree).trans (congrArg accepted ?_)))
    refine (homeGate_of_limit (s := s.cleared) hshut hst).trans ?_
    have hgov : ({ s.gov with gateValid := true, gatePos := 0, gateDir := .closing, stepTimer := none, move := none } : Gov) =
        { s.gov with gateValid := true, gatePos := 0, gateDir := .closing, stepTimer := none } := by rw [← hmove]
    exact congrArg (fun g => State.cleared { s with
      gov := g, rqp := { s.rqp with latched := s.rqp.latched ||| Cause.govState.bit } }) hgov

end Sys2Proof.Machine
end

section
/-! SUPPORT. The governor's timers, the gate's steps and its limits (R59, R84 to R86, R93 to R95, R100 to R103). -/

namespace Sys2Proof.Machine

-- each theorem's proof is checked before the next begins, so that few threads are needed
set_option Elab.async false

section
variable {s : State}

/-! ## The timers -/

/-- A timer that is not stopped runs. -/
theorem running_of_ne {α : Type} {t : Option α} (h : t ≠ none) : t.isSome = true := Option.isSome_iff_ne_none.mpr h

/-- Tach-lost outside REGULATING only zeroes the counts (R84). -/
theorem govTachLost_of_ne (h : s.gov.st ≠ .regulating) :
    s.govTachLost = s.onGov fun g => { g with overspeed := 0, collapse := 0 } := if_neg h

/-- Tach-lost in REGULATING is HOLD (R85). -/
theorem govTachLost_regulating (h : s.gov.st = .regulating) (hfeed : s.saw.st ≠ .feeding) : s.govTachLost = { s with
    gov := { s.gov with
      st := .hold, overspeed := 0, collapse := 0, spare := 0, fPrev := none, trimTimer := none
      holdTimer := some (s.param .holdLimit * 1000) }
    alt := { s.alt with headroom := 0 }
    saw := { s.saw with scale := 0 }
    rqp := { s.rqp with latched := s.rqp.latched ||| Cause.govState.bit } } := by
  refine (if_pos h).trans ((govReport_of_idle ?_ ?_).trans rfl)
  · exact GovState.noConfusion
  · exact hfeed

/-- The run-up timer runs out with a move in flight (R100). -/
theorem runupExpiry_of_move (h : s.gov.move ≠ none) : s.runupExpiry = { s with gov := { s.gov with runupTimer := none } } :=
  if_neg (fun hnone => h (Option.isNone_iff_eq_none.mp hnone))

/-- The run-up timer runs out with no move in flight (R100). -/
theorem runupExpiry_of_free (h : s.gov.move = none) :
    s.runupExpiry = { s with gov := { s.gov with runupTimer := none } }.runupDue :=
  if_pos (Option.isNone_iff_eq_none.mpr h)

/-- The next run-up move due at gate_span is the trip (R101). -/
theorem runupDue_of_full (h : s.param .gateSpan ≤ s.gov.gatePos) : s.runupDue = s.trip .runupFail := if_pos h

/-- The next run-up move due below gate_span (R100). -/
theorem runupDue_of_below (h : s.gov.gatePos < s.param .gateSpan) : s.runupDue = s.beginRunup := if_neg (Nat.not_le.mpr h)

/-- The trim decided toward closing (R103). -/
theorem trimDecision_closing (hmove : s.gov.move = none)
    (h : s.active .lowWater = true ∨ s.param .bCap * s.param .trimHighPct / 100 < s.gov.bAcc / 16) :
    s.trimDecision = s.beginMove .trim .closing (s.param .trimStep) := by
  have hfree : ¬ s.gov.move.isSome = true := by simp [hmove]
  refine (if_neg hfree).trans ?_
  rcases h with h | h
  · exact if_pos h
  · by_cases hlow : s.active .lowWater = true
    · exact if_pos hlow
    · exact (if_neg hlow).trans (if_pos h)

/-- The trim decided toward opening, or none (R103). -/
theorem trimDecision_of_calm (hmove : s.gov.move = none) (hlow : s.active .lowWater = false)
    (h : s.gov.bAcc / 16 ≤ s.param .bCap * s.param .trimHighPct / 100) :
    s.trimDecision = if s.gov.bAcc / 16 < s.param .bCap * s.param .trimLowPct / 100 ∧ s.gov.gatePos < s.param .gateSpan then
      s.beginMove .trim .opening (s.param .trimStep) else s := by
  have hfree : ¬ s.gov.move.isSome = true := by simp [hmove]
  exact (if_neg hfree).trans ((if_neg (ne_true_of_eq_false hlow)).trans (if_neg (Nat.not_lt.mpr h)))

/-- The trim timer restarted (R102). -/
def State.trimRestarted (s : State) : State :=
  { s with gov := { s.gov with trimTimer := some (s.param .trimPeriod * 1000000) } }

/-- The trim timer's expiry: it is restarted and the trim decided (R102, R103). -/
theorem exec_trimTimerExpiry {g : Gov} {t : State} (hrun : s.inReset = false) (hst : s.gov.st = .regulating)
    (ht : s.gov.trimTimer ≠ none) (hg : g = { s.gov with trimTimer := some (s.param .trimPeriod * 1000000) })
    (h : { s with gov := g }.trimDecision = t) : exec .trimTimerExpiry s = .next t := by
  subst hg
  exact event_is hrun ((if_pos ⟨running_of_ne ht, hst⟩).trans h)

end

/-- Settles O34, timer by timer. -/
theorem governorTimersRunOut : Obligations.GovernorTimersRunOut := by
  refine ⟨fun s hrun hloss => ⟨fun hst => ?_, fun hst hfeed => ?_⟩, fun s hrun => ⟨fun hst ht => ?_, fun hst ht hmove => ?_,
    fun hst ht hmove hpos hfull => ?_, fun hst ht hmove hpos => ?_⟩, fun s g w hrun hst ht hg hw =>
    ⟨fun hmove => ?_, fun hmove h hshut => ?_, fun hmove hlow hle hlt hpos hfull => ?_, fun hmove hlow hle h => ?_⟩,
    fun s hrun => ?_⟩
  · exact event_is hrun ((if_pos (running_of_ne hloss)).trans
      (govTachLost_of_ne (s := s.onInu fun u => { u with lastStamp := none, lossTimer := none }) hst))
  · exact event_is hrun ((if_pos (running_of_ne hloss)).trans
      (govTachLost_regulating (s := s.onInu fun u => { u with lastStamp := none, lossTimer := none }) hst hfeed))
  · exact event_is hrun (if_pos ⟨running_of_ne ht, hst⟩)
  · exact event_is hrun ((if_pos ⟨running_of_ne ht, hst⟩).trans (congrArg State.arbitrate (runupExpiry_of_move hmove)))
  · refine event_is hrun ((if_pos ⟨running_of_ne ht, hst⟩).trans (congrArg State.arbitrate ?_))
    rw [runupExpiry_of_free hmove, runupDue_of_below (s := { s with gov := { s.gov with runupTimer := none } }) hpos]
    exact beginRunup_of_clear (s := { s with gov := { s.gov with runupTimer := none } }) hfull
  · refine event_is hrun ((if_pos ⟨running_of_ne ht, hst⟩).trans (congrArg State.arbitrate ?_))
    rw [runupExpiry_of_free hmove, runupDue_of_full (s := { s with gov := { s.gov with runupTimer := none } }) hpos]
  · exact exec_trimTimerExpiry hrun hst ht hg (if_pos (running_of_ne (hg ▸ hmove)))
  · subst hg hw
    exact exec_trimTimerExpiry hrun hst ht rfl ((trimDecision_closing (s := s.trimRestarted) hmove h).trans
      (beginMove_of_clear (s := s.trimRestarted) hshut))
  · subst hg hw
    exact exec_trimTimerExpiry hrun hst ht rfl
      ((trimDecision_of_calm (s := s.trimRestarted) hmove hlow hle).trans
      ((if_pos ⟨hlt, hpos⟩).trans (beginMove_of_clear (s := s.trimRestarted) hfull)))
  · subst hg hw
    refine exec_trimTimerExpiry hrun hst ht rfl ((trimDecision_of_calm (s := s.trimRestarted) hmove hlow hle).trans
      (if_neg ?_))
    rintro ⟨hlt, hpos⟩
    exact h.elim (fun h => absurd hlt (Nat.not_lt.mpr h)) (fun h => absurd hpos (Nat.not_lt.mpr h))
  · exact event_of_running hrun fun s => s.onGov fun g => { g with pwmDuty := g.duty, pwmTimer := some pwmPeriod }

/-! ## The gate's steps (R93 to R95) -/

section
variable {s : State} {m : Move}

/-- The position after a step of a move (R93). -/
def Gov.stepped (g : Gov) (m : Move) : Nat := match m.dir with | .opening => g.gatePos + 1 | .closing => g.gatePos - 1

/-- A step is issued away from the end of the span (R93). -/
theorem stepHeld_eq_false (hopen : m.dir = .opening → s.gov.gatePos < s.param .gateSpan)
    (hclose : m.dir = .closing → m.purpose ≠ .shut → 0 < s.gov.gatePos) : s.gov.stepHeld s.params m = false := by
  unfold Gov.stepHeld
  cases hd : m.dir
  · exact decide_eq_false (Nat.not_le.mpr (hopen hd))
  · refine decide_eq_false ?_
    rintro ⟨hp, h0⟩
    exact absurd (hclose hd hp) (by omega)

/-- A trim's step is not issued at the end of the span (R93, R103). -/
theorem stepHeld_of_end (hp : m.purpose = .trim)
    (h : (m.dir = .opening ∧ s.param .gateSpan ≤ s.gov.gatePos) ∨ (m.dir = .closing ∧ s.gov.gatePos = 0)) :
    s.gov.stepHeld s.params m = true := by
  unfold Gov.stepHeld
  rcases h with ⟨hd, h⟩ | ⟨hd, h⟩ <;> rw [hd]
  · exact decide_eq_true h
  · exact decide_eq_true ⟨by simp [hp], h⟩

/-- A step that does not complete its move (R93). -/
theorem gateStep_of_more (hheld : s.gov.stepHeld s.params m = false) (h : m.issued + 1 < m.asked) :
    s.gateStep m = { s with gov := { s.gov with
      gatePos := s.gov.stepped m, move := some { m with issued := m.issued + 1 }
      stepTimer := some (1000000 / s.param .gateRate) } } := by
  simp only [State.gateStep, hheld, Bool.false_eq_true, if_false, h, if_true]
  rfl

/-- The gate after the step that completes a move (R93). -/
def State.moveDone (s : State) (m : Move) : State :=
  { s with gov := { s.gov with gatePos := s.gov.stepped m, move := none, stepTimer := none } }

/-- A step that completes its move (R93). -/
theorem gateStep_of_last (hheld : s.gov.stepHeld s.params m = false) (h : m.asked ≤ m.issued + 1) :
    s.gateStep m = (s.moveDone m).moveEnded m.purpose false := by
  simp only [State.gateStep, hheld, Bool.false_eq_true, if_false, Nat.not_lt.mpr h]
  rfl

/-- A step not issued ends its move (R93). -/
theorem gateStep_of_held (hheld : s.gov.stepHeld s.params m = true) :
    s.gateStep m = { s with gov := { s.gov with move := none, stepTimer := none } }.moveEnded m.purpose false :=
  if_pos hheld

/-- The end of a trim does nothing more (R103). -/
theorem moveEnded_trim (byLimit : Bool) : s.moveEnded .trim byLimit = s := rfl

/-- The end of a run-up move whose timer has run out: the next falls due (R100). -/
theorem moveEnded_runUp_due (hst : s.gov.st = .runUp) (ht : s.gov.runupTimer = none) (byLimit : Bool) :
    s.moveEnded .runUp byLimit = s.runupDue := if_pos ⟨hst, ht⟩

/-- The end of a run-up move while its timer runs, or outside RUN_UP (R100). -/
theorem moveEnded_runUp_waits (h : s.gov.st ≠ .runUp ∨ s.gov.runupTimer ≠ none) (byLimit : Bool) :
    s.moveEnded .runUp byLimit = s := if_neg fun ⟨hst, ht⟩ => h.elim (· hst) (· ht)

/-- A shut move completed without GATE_SHUT in STOPPING is the trip (R95, R105). -/
theorem shutFailed_stopping (h : s.gov.st = .stopping) : s.moveEnded .shut false = s.trip .gateFault := by
  simp only [State.moveEnded, State.shutFailed, h, Bool.false_eq_true, if_false]

/-- A shut move completed without GATE_SHUT in TRIPPED is the gate fault (R89, R95). -/
theorem shutFailed_tripped (h : s.gov.st = .tripped) : s.moveEnded .shut false =
    (s.onGov fun g => { g with cause := .gateFault, gateValid := false }).raise .govState := by
  simp only [State.moveEnded, State.shutFailed, h, Bool.false_eq_true, if_false]

/-- A shut move completed without GATE_SHUT in STOPPED leaves the gate invalid (R97). -/
theorem shutFailed_stopped (h : s.gov.st = .stopped) : s.moveEnded .shut false =
    (s.onGov fun g => { g with gateValid := false }).raise .govState := by
  simp only [State.moveEnded, State.shutFailed, h, Bool.false_eq_true, if_false]

/-- The gate step timer with a move in flight (R93). -/
theorem exec_gateStepTimer {left : Nat} (hrun : s.inReset = false) (ht : s.gov.stepTimer = some left)
    (hm : s.gov.move = some m) : exec .gateStepTimer s = .next (s.gateStep m).arbitrate := by
  show execGateStepTimer s = _
  rw [execGateStepTimer, event_of_running hrun]
  simp only [ht, hm]

end

/-- Settles O35, by the step that is not issued, the one that does not complete its move and the one that does. -/
theorem gateStepFollowsTheMove : Obligations.GateStepFollowsTheMove := by
  intro s m left pos hrun ht hm hpos
  subst hpos
  refine ⟨fun hopen hclose => ?_, fun hp hend => ?_⟩
  · have hheld := stepHeld_eq_false hopen hclose
    rw [exec_gateStepTimer hrun ht hm]
    refine ⟨fun hmore => ?_, fun hlast hp => ?_, fun hlast hp hst => ?_, fun hlast hp hst => ?_, fun hlast hp hst => ?_,
      fun hlast hp hdir hst hrunup => ?_⟩
    · rw [gateStep_of_more hheld hmore]
      rfl
    all_goals rw [gateStep_of_last hheld hlast]
    · rcases hp with hp | ⟨hp, hrunup⟩
      · rw [hp, moveEnded_trim]
        rfl
      · rw [hp, moveEnded_runUp_waits (s := s.moveDone m) (.inr hrunup)]
        rfl
    · rw [hp, shutFailed_stopping (s := s.moveDone m) hst]
      rfl
    · rw [hp, shutFailed_tripped (s := s.moveDone m) hst]
      rfl
    · rw [hp, shutFailed_stopped (s := s.moveDone m) hst]
      rfl
    · rw [hp, moveEnded_runUp_due (s := s.moveDone m) hst hrunup]
      refine ⟨fun h => ?_, fun h hfull => ?_, fun h hfull => ?_⟩
      · rw [runupDue_of_full (s := s.moveDone m) h]
        rfl
      · rw [runupDue_of_below (s := s.moveDone m) h, beginRunup_of_clear (s := s.moveDone m) hfull]
        rfl
      · rw [runupDue_of_below (s := s.moveDone m) h, beginRunup_of_limit (s := s.moveDone m) hfull]
        rfl
  · rw [exec_gateStepTimer hrun ht hm, gateStep_of_held (stepHeld_of_end hp hend), hp, moveEnded_trim]

end Sys2Proof.Machine
end

section
/-! SUPPORT. Debounced inputs, the gate limits they carry, and the requests on inputs (Sections 3.1 to 3.3, 5.2). -/

namespace Sys2Proof.Machine

-- each theorem's proof is checked before the next begins, so that few threads are needed
set_option Elab.async false

section
variable {s : State}

/-! ## An accepted change (R53, R54) -/

/-- Without a candidate nothing is accepted; the line is arbitrated (logs 7, 9). -/
theorem exec_debounceAccept_of_none {c : Channel} (hrun : s.inReset = false) (hx : (s.chan c).candidate = none) :
    exec (.debounceAccept c) s = .next s.arbitrate := by
  show execDebounceAccept c s = _
  rw [execDebounceAccept, event_of_running hrun]
  simp only [State.acceptChange, hx]

/-- The state whose channel has taken the raw state (R53). -/
def State.accepted (s : State) (c : Channel) : State :=
  { s with inu := { s.inu with
    chans := s.inu.chans.set (channelNumber c) { s.chan c with level := (s.chan c).raw, candidate := none } } }

/-- A candidate accepted is handed on (R53, R54). -/
theorem exec_debounceAccept_of_some {c : Channel} {t : State} (hrun : s.inReset = false) (hx : (s.chan c).candidate ≠ none)
    (h : (s.accepted c).deliver c (s.chan c).raw = t) : exec (.debounceAccept c) s = .next t.arbitrate := by
  show execDebounceAccept c s = _
  rw [execDebounceAccept, event_of_running hrun]
  rcases he : (s.chan c).candidate with _ | began
  · exact absurd he hx
  · simp only [State.acceptChange, he]
    rw [← h]
    rfl

/-- A change to active accepted is handed on (R53, R54). -/
theorem exec_debounceAccept_active {c : Channel} {t : State} (hrun : s.inReset = false) (hx : (s.chan c).candidate ≠ none)
    (hraw : (s.chan c).raw = true) (h : (s.accepted c).deliver c true = t) :
    exec (.debounceAccept c) s = .next t.arbitrate :=
  exec_debounceAccept_of_some hrun hx (hraw ▸ h)

/-- LOW_WATER, and any change to inactive but CLUTCH_IN's, is handed to no consumer (Table 3-1). -/
theorem deliver_of_quiet {c : Channel} {active : Bool} (h : c = .lowWater ∨ (c ≠ .clutchIn ∧ active = false)) :
    s.deliver c active = s := by
  rcases h with rfl | ⟨hc, rfl⟩
  · rfl
  · cases c
    case clutchIn => exact absurd rfl hc
    all_goals rfl

/-! ## The gate limits (R94) -/

/-- A limit without a move toward it does nothing. -/
theorem gateLimit_of_other {dir : GateDir} (h : ∀ m, s.gov.move = some m → m.dir ≠ dir) : s.gateLimit dir = s := by
  unfold State.gateLimit
  split
  · next m hm => exact if_neg (h m hm)
  · rfl

/-- GATE_FULL ends an opening move, the gate at gate_span (R94). -/
theorem gateLimit_opening {m : Move} (hm : s.gov.move = some m) (hdir : m.dir = .opening) : s.gateLimit .opening =
    { s with gov := { s.gov with move := none, stepTimer := none, gatePos := s.param .gateSpan } }.moveEnded m.purpose true := by
  simp only [State.gateLimit, hm, hdir, if_true]
  rfl

/-- GATE_SHUT ends a closing move, the gate at 0 and valid (R94). -/
theorem gateLimit_closing {m : Move} (hm : s.gov.move = some m) (hdir : m.dir = .closing) : s.gateLimit .closing =
    { s with gov := { s.gov with move := none, stepTimer := none, gatePos := 0, gateValid := true } }.moveEnded m.purpose
      true := by
  simp only [State.gateLimit, hm, hdir, if_true]
  rfl

/-- A close-to-shut move of STOPPING ended by GATE_SHUT: STOPPED (R105). -/
theorem shutEnded_stopping (h : s.gov.st = .stopping) (hfeed : s.saw.st ≠ .feeding) : s.shutEnded = { s with
    gov := { s.gov with
      st := .stopped, duty := 1023, spare := 0, fPrev := none, overspeed := 0, collapse := 0, holdTimer := none
      runupTimer := none, trimTimer := none }
    alt := { s.alt with headroom := 0 }
    saw := { s.saw with scale := 0 }
    rqp := { s.rqp with latched := s.rqp.latched ||| Cause.govState.bit } } := by
  simp only [State.shutEnded, h]
  exact govReport_of_idle (s := s.onGov fun g => g.enterIdle .stopped) GovState.noConfusion hfeed

/-- A close-to-shut move of TRIPPED ended by GATE_SHUT does nothing more (R95). -/
theorem shutEnded_tripped (h : s.gov.st = .tripped) : s.shutEnded = s := by
  simp only [State.shutEnded, h]

/-! ## Raw changes (R52, R53) -/

/-- The candidate after a recheck (R53). -/
theorem recheck_eq (c : Chan) (now : Nat) :
    c.recheck now = { c with candidate := if c.raw = c.level then none else some (c.candidate.getD now) } := by
  unfold Chan.recheck
  split <;> rfl

/-- A raw change outside reset rechecks the candidate (R53). -/
theorem exec_inputRawChange_running (hrun : s.inReset = false) (c : Channel) (high : Bool) :
    exec (.inputRawChange c high) s = .next (s.setChan c (Chan.recheck { s.chan c with pin := high } s.now)) :=
  congrArg (fun x => Host.Outcome.next (s.setChan c x)) (if_neg (ne_true_of_eq_false hrun))

/-- In reset a pin moves alone (log 6). -/
theorem exec_inputRawChange_reset (hres : s.inReset = true) (c : Channel) (high : Bool) :
    exec (.inputRawChange c high) s = .next (s.setChan c { s.chan c with pin := high }) :=
  congrArg (fun x => Host.Outcome.next (s.setChan c x)) (if_pos hres)

end

/-- Settles O36: raw changes by the recheck, accepted ones by what each channel hands on. -/
theorem inputChangesAreDebounced : Obligations.InputChangesAreDebounced := by
  refine ⟨fun s c high x hx => ⟨fun hrun => ?_, fun hres => ?_⟩, fun s c x hrun hx => ⟨fun hnone => ?_, fun hsome hquiet => ?_,
    fun m hsome hc hraw hst hm hdir hp hfeed => ?_⟩, fun s t c x hrun hx hsome hraw hc ht => ?_⟩
  · subst hx
    rw [exec_inputRawChange_running hrun, recheck_eq]
    rfl
  · subst hx
    exact exec_inputRawChange_reset hres c high
  · exact exec_debounceAccept_of_none hrun (hx ▸ hnone)
  · subst hx
    exact exec_debounceAccept_of_some hrun hsome (deliver_of_quiet hquiet)
  · subst hx hc
    rw [exec_debounceAccept_active hrun hsome hraw (gateLimit_closing (s := s.accepted .gateShut) hm hdir), hp]
    refine congrArg (fun t => Host.Outcome.next (State.arbitrate t)) ((shutEnded_stopping ?_ ?_).trans ?_)
    · exact hst
    · exact hfeed
    · rw [← hraw]
      rfl
  · have ht' : t = s.accepted c := by
      rw [ht, hx, ← hraw, hx]
      rfl
    subst hx ht'
    refine ⟨fun hother => ?_, fun m full hcf hm hdir hfull => ?_, fun m shut hcs hm hdir hshut => ?_⟩
    · refine exec_debounceAccept_active hrun hsome hraw ?_
      rcases hc with rfl | rfl
      · exact gateLimit_of_other (s := s.accepted .gateFull) hother
      · exact gateLimit_of_other (s := s.accepted .gateShut) hother
    · subst hcf hfull
      rw [exec_debounceAccept_active hrun hsome hraw (gateLimit_opening (s := s.accepted .gateFull) hm hdir)]
      refine ⟨fun hp => ?_, fun hp hst hrunup => ?_⟩
      · rcases hp with hp | ⟨hp, hwait⟩
        · rw [hp, moveEnded_trim]
          rfl
        · rw [hp, moveEnded_runUp_waits]
          · rfl
          · exact hwait
      · rw [hp, moveEnded_runUp_due, runupDue_of_full]
        · rfl
        · exact Nat.le_refl _
        · exact hst
        · exact hrunup
    · subst hcs hshut
      rw [exec_debounceAccept_active hrun hsome hraw (gateLimit_closing (s := s.accepted .gateShut) hm hdir)]
      refine ⟨fun hp => ?_, fun hp hst => ?_⟩
      · rcases hp with hp | ⟨hp, hst⟩
        · rw [hp, moveEnded_trim]
          rfl
        · rw [hp]
          exact congrArg (fun t => Host.Outcome.next (State.arbitrate t)) (shutEnded_tripped hst)
      · rw [hp]
        exact congrArg (fun t => Host.Outcome.next (State.arbitrate t)) (shutEnded_stopped hst)

/-! ## The requests on inputs (R55, R57) -/

section
variable {s : State}

/-- The channels stand at their numbers (Table 3-1). -/
theorem channelOf_of_number {b : Byte} {c : Channel} (h : (channelNumber c).val = b.toNat) : channelOf b = some c := by
  unfold channelOf
  rw [← h]
  cases c <;> rfl

/-- No channel has a number above 9 (Table 3-1). -/
theorem channelOf_eq_none {b : Byte} (h : 9 < b.toNat) : channelOf b = none := by
  unfold channelOf
  exact List.getElem?_eq_none (show 10 ≤ b.toNat from h)

/-- A true/false byte (R193). -/
theorem boolOf_of_le {b : Byte} (h : b.toNat ≤ 1) : boolOf b = some (b == 1) := by
  have hb : b = 0 ∨ b = 1 := by bv_omega
  rcases hb with rfl | rfl <;> rfl

/-- A setup that changes the polarity or the filter, with no candidate old enough to be accepted (R55, R60). -/
theorem setup_of_young {c : Channel} {activeLow : Bool} {filter : Nat}
    (hnew : (s.chan c).activeLow ≠ activeLow ∨ (s.chan c).filter ≠ filter)
    (hyoung : (Chan.recheck { s.chan c with activeLow, filter } s.now).ripe s.now = false) :
    s.setup c activeLow filter = { s with inu := { s.inu with
      lastStamp := if c = Channel.tach then none else s.inu.lastStamp
      chans := s.inu.chans.set (channelNumber c) (Chan.recheck { s.chan c with activeLow, filter } s.now) } } := by
  have hset : ¬ ((s.chan c).activeLow = activeLow ∧ (s.chan c).filter = filter) := fun ⟨ha, hf⟩ =>
    hnew.elim (· ha) (· hf)
  have hchan : ∀ f : Inu → Inu, (∀ u, (f u).chans = u.chans) →
      ((s.setChan c (Chan.recheck { s.chan c with activeLow, filter } s.now)).onInu f).chan c =
        Chan.recheck { s.chan c with activeLow, filter } s.now := by
    intro f hf
    rw [State.chan, onInu_inu, hf]
    exact chan_setChan_self s c _
  unfold State.setup
  rw [if_neg hset]
  by_cases ht : c = .tach
  · simp only [ht, if_true] at hchan hyoung ⊢
    exact if_neg (ne_true_of_eq_false ((congrArg (Chan.ripe · s.now)
      (hchan (fun u => { u with lastStamp := none }) fun _ => rfl)).trans hyoung))
  · simp only [ht, if_false]
    exact if_neg (ne_true_of_eq_false ((congrArg (Chan.ripe · s.now) (hchan (fun u => u) fun _ => rfl)).trans hyoung))

/-- A candidate younger than its filter time is not due (R53). -/
theorem ripe_eq_false {c : Chan} {now : Nat} (h : ∀ began, c.candidate = some began → now < began + filterTime c.filter) :
    c.ripe now = false :=
  Bool.eq_false_iff.mpr fun hr => by
    obtain ⟨began, hb, hle⟩ := ripe_iff.mp hr
    exact absurd hle (Nat.not_le.mpr (h began hb))

/-- A latch cleared where its input is inactive (R57). -/
theorem clearLatch_of_inactive {c : Channel} (h : s.active c = false) (clear : Inu → Inu) :
    s.clearLatch c clear = done (s.onInu clear) [] := if_neg (ne_true_of_eq_false h)

/-- A latch is not cleared where its input is active (R57). -/
theorem clearLatch_of_active {c : Channel} (h : s.active c = true) (clear : Inu → Inu) :
    s.clearLatch c clear = refuse s .latched := if_pos h

end

/-- Settles O38: INPUT_SETUP by its checks and by the recheck, INPUT_CLEAR by its channel. -/
theorem inputRequests : Obligations.InputRequests := by
  intro s channel polarity filter hready
  refine ⟨fun hbad => ?_, fun c x stored candidate hc hpol hfil hx hstored hcand hyoung hnew => ?_, fun hin => ?_, fun hin => ?_,
    fun hin => ?_, fun hin => ?_, fun h7 h8 => ?_⟩
  · refine request_arbitrates_not hready (t := s) ?_ rfl
    rcases hbad with h | h | h
    · simp only [channelOf_eq_none h]
      rfl
    · simp only [boolOf_eq_none h]
      cases channelOf channel <;> rfl
    · have hno : ¬ filter.toNat ≤ 3 := Nat.not_le.mpr h
      cases channelOf channel <;> cases boolOf polarity <;> simp only [hno, if_false] <;> rfl
  · have hstored' : storedFilter c filter.toNat = stored := hstored.symm
    have hrecheck : Chan.recheck { s.chan c with activeLow := polarity == 1, filter := stored } s.now =
        { s.chan c with activeLow := polarity == 1, filter := stored, candidate } := by
      rw [recheck_eq, hcand, hx]
      rfl
    have hsetup : s.cleared.setup c (polarity == 1) stored = State.cleared { s with inu := { s.inu with
        lastStamp := if c = Channel.tach then none else s.inu.lastStamp
        chans := s.inu.chans.set (channelNumber c) { x with activeLow := polarity == 1, filter := stored, candidate } } } := by
      rw [hx, ← hrecheck]
      refine setup_of_young (s := s.cleared) (hx ▸ hnew) (ripe_eq_false fun began hb => ?_)
      have hfilter : (Chan.recheck { s.chan c with activeLow := polarity == 1, filter := stored } s.now).filter = stored := by
        rw [recheck_eq]
      have hb' : candidate = some began := by
        have hcand' : (Chan.recheck { s.chan c with activeLow := polarity == 1, filter := stored } s.now).candidate =
            candidate := by rw [hrecheck]
        exact hcand'.symm.trans hb
      exact (hyoung began hb').trans_eq (congrArg (began + ·) ((congrArg filterTime hfilter).trans (filterTime_eq stored)).symm)
    refine request_arbitrates hready ?_ ?_
    · simp only [channelOf_of_number hc, boolOf_of_le hpol, hfil, if_true, hstored', hsetup]
    · split <;> rfl
  · exact request_answers hready ((if_pos rfl).trans (clearLatch_of_inactive (s := s.cleared) hin _))
  · exact request_answers hready ((if_neg (by decide)).trans ((if_pos rfl).trans
      (clearLatch_of_inactive (s := s.cleared) hin _)))
  · exact request_refused_here hready ((if_pos rfl).trans (clearLatch_of_active (s := s.cleared) hin _))
  · exact request_refused_here hready ((if_neg (by decide)).trans ((if_pos rfl).trans (clearLatch_of_active (s := s.cleared) hin _)))
  · have hne7 : channel ≠ 7 := fun h => h7 (by rw [h]; rfl)
    have hne8 : channel ≠ 8 := fun h => h8 (by rw [h]; rfl)
    exact request_refused_here hready ((if_neg hne7).trans (if_neg hne8))

end Sys2Proof.Machine
end

section
/-! SUPPORT. What the work of a shed-all on the other slots leaves of one slot's record, of switches ordered open and of marks
already OPEN (R38, R39). -/

namespace Sys2Proof.Machine

-- each theorem's proof is checked before the next begins, so that few threads are needed
set_option Elab.async false

/-! ## Work aside from a slot -/

/-- An update of ALT that leaves slots, strict slot and settle timer and closes no switch. -/
structure Alt.ClosesNone (a a' : Alt) : Prop where
  slots : a'.slots = a.slots
  strict : a'.strict = a.strict
  relays : ∀ n, a.relays.get n = false → a'.relays.get n = false
  clutch : a.clutch = false → a'.clutch = false
  settle : a'.settle = a.settle

/-- SAW is in FAULT after as before, with the same cause. -/
def Saw.SameFault (w w' : Saw) : Prop := (w'.st = .fault ↔ w.st = .fault) ∧ w'.cause = w.cause

/-- One piece of the shed-all's work that does not choose the slot's record. -/
inductive AsidePiece (i : Slot) : State → State → Prop
  | alt (s : State) (f : Alt → Alt) (h : s.alt.ClosesNone (f s.alt)) : AsidePiece i s (s.onAlt f)
  | record (s : State) (j : Slot) (x : Option Allotment) (h : j ≠ i) : AsidePiece i s (s.setRecord j x)
  | check (s : State) : AsidePiece i s s.checkStrict
  | saw (s : State) (f : Saw → Saw) (h : s.saw.SameFault (f s.saw)) : AsidePiece i s (s.onSaw f)
  | ballast (s : State) (d : StepDir) (w : Nat) : AsidePiece i s (s.ballastStep d w)
  | mark (s : State) (u : UnitIx) : AsidePiece i s (s.giveMark .opening u)
  | raise (s : State) (c : Cause) : AsidePiece i s (s.raise c)

/-- A state reached by work aside from a slot. -/
def Aside (i : Slot) : State → State → Prop := Relation.ReflTransGen (AsidePiece i)

namespace Aside

variable {i j : Slot} {s t : State} {b : Bool}

theorem refl : Aside i s s := Relation.ReflTransGen.refl

theorem trans {u : State} (h : Aside i s t) (h' : Aside i t u) : Aside i s u := Relation.ReflTransGen.trans h h'

theorem piece {u : State} (h : Aside i s t) (p : AsidePiece i t u) : Aside i s u := Relation.ReflTransGen.tail h p

/-- What every piece keeps, the whole work keeps. -/
theorem keep (h : Aside i s t) {P : State → Prop} (hp : ∀ {u v}, AsidePiece i u v → P u → P v) (hs : P s) : P t := by
  induction h with
  | refl => exact hs
  | tail _ p ih => exact hp p ih

theorem onAlt {f : Alt → Alt} (h : Aside i s t) (hf : t.alt.ClosesNone (f t.alt) := by
    exact ⟨rfl, rfl, fun _ hn => hn, fun hc => hc, rfl⟩) : Aside i s (t.onAlt f) := h.piece (.alt t f hf)

theorem setRecord {x : Option Allotment} (h : Aside i s t) (hj : j ≠ i) : Aside i s (t.setRecord j x) :=
  h.piece (.record t j x hj)

theorem checkStrict (h : Aside i s t) : Aside i s t.checkStrict := h.piece (.check t)

theorem onSaw {f : Saw → Saw} (h : Aside i s t) (hf : t.saw.SameFault (f t.saw) := by exact ⟨Iff.rfl, rfl⟩) :
    Aside i s (t.onSaw f) := h.piece (.saw t f hf)

theorem ballastStep {d : StepDir} {w : Nat} (h : Aside i s t) : Aside i s (t.ballastStep d w) := h.piece (.ballast t d w)

theorem giveMark {u : UnitIx} (h : Aside i s t) : Aside i s (t.giveMark .opening u) := h.piece (.mark t u)

theorem raise {c : Cause} (h : Aside i s t) : Aside i s (t.raise c) := h.piece (.raise t c)

theorem noteChange {k : Slot} (h : Aside i s t) : Aside i s (t.noteChange b k) := by
  rw [noteChange_eq]
  exact h.onAlt

/-- An order to open closes no switch (R22, R24, R25). -/
theorem orderOpen {g : Target} (h : Aside i s t) : Aside i s (t.orderOpen g) := by
  cases g with
  | field u o => exact h.giveMark
  | relay n =>
    refine h.onAlt (f := fun a => { a with relays := a.relays.set n false }) ⟨rfl, rfl, fun m hm => ?_, id, rfl⟩
    show (t.alt.relays.set n false).get m = false
    by_cases hnm : m = n
    · rw [hnm, vector_get_set_self]
    · rw [vector_get_set_ne _ _ hnm, hm]
  | clutch =>
    exact h.onAlt (f := fun a => { a with clutch := false, wait := some (.release (t.param .clutchTimeout * 1000)) })
      ⟨rfl, rfl, fun _ hn => hn, fun _ => rfl, rfl⟩

theorem endWait {g : Target} (h : Aside i s t) : Aside i s (t.endWait g) := by
  cases g with
  | clutch => exact h.onAlt (f := fun a => { a with wait := none })
  | field u o => exact h
  | relay n => exact h

theorem openRelease {d : Dest} {reason : Option Reason} (h : Aside i s t) (hj : j ≠ i) :
    Aside i s (t.openRelease b j d reason) := by
  simp only [State.openRelease]
  split
  · exact h
  · split
    · exact ((h.onAlt.ballastStep).setRecord hj).noteChange.orderOpen
    · exact (h.setRecord hj).noteChange.orderOpen

theorem completeRelease {withStep : Bool} (h : Aside i s t) (hj : j ≠ i) : Aside i s (t.completeRelease b withStep j) := by
  simp only [State.completeRelease]
  split
  · exact h
  · split
    · refine Aside.endWait (Aside.noteChange (Aside.setRecord ?_ hj))
      split
      · exact h.ballastStep
      · exact h
    all_goals exact h

theorem settleRelease (h : Aside i s t) (hj : j ≠ i) : Aside i s (t.settleRelease b j) := by
  simp only [State.settleRelease]
  split
  · exact h
  · split
    · exact h.completeRelease hj
    · split
      · exact h
      · exact h.completeRelease hj
    · exact h

/-! ## What SAW makes of a release (R167, R168) -/

theorem enterSaw {st : SawState} (h : Aside i s t) (hne : t.saw.st ≠ .fault) (hst : st ≠ .fault) :
    Aside i s (t.enterSaw st) := by
  simp only [State.enterSaw]
  split
  · exact h
  · exact (h.onSaw ⟨iff_of_false hst hne, rfl⟩).raise

theorem clearCutWanted (h : Aside i s t) : Aside i s t.clearCutWanted := by
  simp only [State.clearCutWanted]
  split
  · exact h.onSaw.checkStrict
  · exact h

theorem enterHalted (h : Aside i s t) (hne : t.saw.st ≠ .fault) : Aside i s t.enterHalted := by
  have hhalt : ∀ w : Saw, w.halt.st = w.st ∧ w.halt.cause = w.cause := fun w => by
    unfold Saw.halt
    split <;> exact ⟨rfl, rfl⟩
  obtain ⟨hst, hcause⟩ := hhalt t.clearCutWanted.saw
  refine enterSaw (h.clearCutWanted.onSaw ⟨by rw [hst], hcause⟩) ?_ nofun
  rw [onSaw_saw, hst, clearCutWanted_saw]
  exact hne

theorem noticeRelease {d : Dest} (h : Aside i s t) : Aside i s (t.noticeRelease d) := by
  have hshed : Aside i s (t.noticeRelease .shed) := by
    simp only [State.noticeRelease]
    split
    iterate 4
      · next hst => exact h.enterHalted (by simp [hst])
    · next hst =>
      split
      · exact h
      · exact h.enterHalted (by simp [hst])
    all_goals exact h
  cases d with
  | shed => exact hshed
  | held x => exact hshed
  | idle => exact h
  | vacant => exact h

theorem noticeLeftReleasing (h : Aside i s t) : Aside i s t.noticeLeftReleasing := by
  simp only [State.noticeLeftReleasing]
  split
  · next hst => exact h.enterSaw (by simp [hst]) nofun
  · exact h

theorem tellSaw {k : Slot} {notice : State → State} (h : Aside i s t)
    (hn : ∀ {u : State}, Aside i s u → Aside i s (notice u)) : Aside i s (t.tellSaw k notice) := by
  simp only [State.tellSaw]
  split
  · split
    · exact hn h
    · exact h
  · exact h

/-- The end of a release told to SAW, and the strict slot's check. -/
theorem released {k : Slot} (h : Aside i s t) :
    Aside i s (t.tellSaw k fun s => if s.sawReleasing then s else s.noticeLeftReleasing).checkStrict := by
  refine (h.tellSaw fun hu => ?_).checkStrict
  split
  · exact hu
  · exact hu.noticeLeftReleasing

theorem release {d : Dest} {reason : Option Reason} (h : Aside i s t) (hj : j ≠ i) :
    Aside i s (t.release b j d reason) :=
  (((h.openRelease hj).tellSaw fun hu => hu.noticeRelease).settleRelease hj).released

theorem shedAllSlot {reason : Reason} (h : Aside i s t) (hj : j ≠ i) : Aside i s (State.shedAllSlot reason t j) := by
  simp only [State.shedAllSlot]
  split
  · exact h
  · split
    · exact h
    · split
      iterate 2 exact h.release hj
      · split
        · exact ((h.setRecord hj).noteChange).giveMark
        all_goals exact (h.setRecord hj).noteChange
      all_goals exact h

/-- The other slots of a shed-all. -/
theorem shedAllSlots {reason : Reason} {l : List Slot} (h : Aside i s t) (hl : i ∉ l) :
    Aside i s (l.foldl (State.shedAllSlot reason) t) := by
  induction l generalizing t with
  | nil => exact h
  | cons j l ih =>
    obtain ⟨hne, hl⟩ := not_or.mp (mt List.mem_cons.mpr hl)
    exact ih (h.shedAllSlot fun e => hne e.symm) hl

end Aside

/-- A release of a slot's own record: work aside before and after its completion. -/
theorem release_split (s : State) (i : Slot) (b : Bool) (d : Dest) (reason : Option Reason) :
    ∃ u, Aside i (s.openRelease b i d reason) u ∧ Aside i (u.settleRelease b i) (s.release b i d reason) :=
  ⟨_, Aside.refl.tellSaw fun hu => hu.noticeRelease, Aside.refl.released⟩

/-- A shed-all ended: its timers and the owed broadcast (R38, R39). -/
def State.shedEnded (s : State) : State :=
  (s.onAlt fun a => { a with holdOff := s.param .restoreDelay, lowCount := 0 }).onFlc fun f => { f with allOpenOwed := true }

/-- A shed-all at one slot: the turns of the slots before it, its own, those after it, and the end. -/
theorem shedAll_split (s : State) (reason : Reason) (i : Slot) : ∃ u w, Aside i s u ∧
    Aside i (State.shedAllSlot reason u i) w ∧ Works s w ∧ s.shedAll reason = w.shedEnded := by
  have hworks : Works s (allSlots.foldl (State.shedAllSlot reason) s) := Works.refl.shedAllSlots
  have heq : s.shedAll reason = (allSlots.foldl (State.shedAllSlot reason) s).shedEnded := rfl
  obtain ⟨l, l', hl⟩ := List.append_of_mem (mem_allSlots i)
  have hnodup : allSlots.Nodup := List.nodup_finRange _
  rw [hl] at hnodup
  obtain ⟨-, hright, hapart⟩ := List.nodup_append.mp hnodup
  obtain ⟨hi', -⟩ := List.nodup_cons.mp hright
  refine ⟨l.foldl (State.shedAllSlot reason) s, _,
    Aside.refl.shedAllSlots fun hi => hapart i hi i List.mem_cons_self rfl, ?_, hworks, heq⟩
  rw [hl, List.foldl_append, List.foldl_cons]
  exact Aside.refl.shedAllSlots hi'

/-! ## What work aside keeps -/

/-- The record waits, so that as the strict slot's it is a candidate (R41). -/
def Allotment.waits (r : Allotment) : Prop :=
  r.spent = false ∧ (r.state = .pending ∨ (r.state = .shed ∧ r.kind ≠ .critical))

/-- A slot holds a record, and the strict slot is the slot's only while the record waits. -/
def State.Steady (s : State) (i : Slot) (r : Allotment) : Prop := s.record i = some r ∧ (s.alt.strict = some i → r.waits)

/-- A record that waits is a candidate. -/
theorem isCandidate_of_waits {s : State} {i : Slot} {r : Allotment} (hr : s.record i = some r) (h : r.waits) :
    s.isCandidate i = true := by
  obtain ⟨hs, h⟩ := h
  simp only [State.isCandidate, hr, hs]
  rcases h with h | ⟨h, hk⟩
  · cases hk : r.kind <;> simp [h]
  · cases hk' : r.kind
    case critical => exact absurd hk' hk
    all_goals simp [h]

/-- A candidate that is not LIVE waits. -/
theorem waits_of_candidate {s : State} {i : Slot} {r : Allotment} (hr : s.record i = some r) (h : s.isCandidate i = true)
    (hl : r.state ≠ .live) : r.waits := by
  simp only [State.isCandidate, hr, Bool.and_eq_true, Bool.not_eq_true'] at h
  obtain ⟨hs, h⟩ := h
  refine ⟨hs, ?_⟩
  cases hk : r.kind <;> simp [hk, hl] at h
  · exact h.imp_right fun h => ⟨h, by simp⟩
  · exact .inl h
  · exact h.imp_right fun h => ⟨h, by simp⟩

namespace Aside

variable {i : Slot} {s t : State}

/-- Work aside leaves the slot's record, where the strict slot's check finds it waiting. -/
theorem steady {r : Allotment} (h : Aside i s t) (hs : s.Steady i r) : t.Steady i r := by
  refine h.keep (P := fun u => u.Steady i r) (fun {u v} p hu => ?_) hs
  obtain ⟨hrec, hstrict⟩ := hu
  cases p with
  | alt f hf => exact ⟨(congrArg (fun x => Vector.get x i) hf.slots).trans hrec, fun h => hstrict (hf.strict ▸ h)⟩
  | record j x hj => exact ⟨(record_setRecord_ne u x (Ne.symm hj)).trans hrec, hstrict⟩
  | check =>
    rcases checkStrict_cases u with h | ⟨k, hk, hc, h⟩
    · rw [h]
      exact ⟨hrec, hstrict⟩
    · rw [h]
      refine ⟨?_, nofun⟩
      by_cases e : i = k
      · subst e
        exact absurd (isCandidate_of_waits hrec (hstrict hk)) (by simp [hc])
      · exact (record_setRecord_ne u _ e).trans hrec
  | saw f hf => exact ⟨hrec, hstrict⟩
  | ballast d w => exact ⟨hrec, hstrict⟩
  | mark x => exact ⟨hrec, hstrict⟩
  | raise c => exact ⟨hrec, hstrict⟩

/-- Work aside closes no relay. -/
theorem relays {n : Fin Config.relays} (h : Aside i s t) (hs : s.alt.relays.get n = false) : t.alt.relays.get n = false := by
  refine h.keep (P := fun u => u.alt.relays.get n = false) (fun {u v} p hu => ?_) hs
  cases p with
  | alt f hf => exact hf.relays n hu
  | check =>
    rcases checkStrict_cases u with h | ⟨k, -, -, h⟩ <;> rw [h] <;> exact hu
  | _ => exact hu

/-- Work aside engages no clutch. -/
theorem clutch (h : Aside i s t) (hs : s.alt.clutch = false) : t.alt.clutch = false := by
  refine h.keep (P := fun u => u.alt.clutch = false) (fun {u v} p hu => ?_) hs
  cases p with
  | alt f hf => exact hf.clutch hu
  | check =>
    rcases checkStrict_cases u with h | ⟨k, -, -, h⟩ <;> rw [h] <;> exact hu
  | _ => exact hu

/-- Work aside leaves the settle timer. -/
theorem settle (h : Aside i s t) : t.alt.settle = s.alt.settle := by
  refine h.keep (P := fun u => u.alt.settle = s.alt.settle) (fun {u v} p hu => ?_) rfl
  cases p with
  | alt f hf => exact hf.settle.trans hu
  | check =>
    rcases checkStrict_cases u with h | ⟨k, -, -, h⟩ <;> rw [h] <;> exact hu
  | _ => exact hu

/-- Work aside leaves SAW in FAULT, or out of it. -/
theorem sameFault (h : Aside i s t) : s.saw.SameFault t.saw := by
  refine h.keep (P := fun u => s.saw.SameFault u.saw) (fun {u v} p hu => ?_) ⟨Iff.rfl, rfl⟩
  cases p with
  | saw f hf => exact ⟨hf.1.trans hu.1, hf.2.trans hu.2⟩
  | check =>
    rcases checkStrict_cases u with h | ⟨k, -, -, h⟩ <;> rw [h] <;> exact hu
  | _ => exact hu

/-- Work aside leaves the inputs. -/
theorem inu (h : Aside i s t) : t.inu = s.inu := by
  refine h.keep (P := fun u => u.inu = s.inu) (fun {u v} p hu => ?_) rfl
  cases p with
  | check =>
    rcases checkStrict_cases u with h | ⟨k, -, -, h⟩ <;> rw [h] <;> exact hu
  | _ => exact hu

end Aside

end Sys2Proof.Machine
end

section
/-! SUPPORT. A mark given to a unit (R141, R142, R147), and the class of work the free line is handed to (R145). -/

namespace Sys2Proof.Machine

-- each theorem's proof is checked before the next begins, so that few threads are needed
set_option Elab.async false

section
variable {f : Flc} {now : Nat} {cls : MarkClass} {u v : UnitIx} {e : UnitEntry}

/-! ## A mark given (R141, R142, R147) -/

/-- Without an entry a mark is kept nowhere. -/
theorem giveMark_none (h : f.units.get u = none) : f.giveMark now cls u = f := by
  simp only [Flc.giveMark, h]

/-- A mark of a unit that is not MISSING, with no visit in flight to it: its own mark (R141). -/
theorem giveMark_of_seen (he : f.units.get u = some e) (hv : f.visitTo u = none) (hreach : e.reach ≠ .missing) :
    f.giveMark now cls u = f.setUnit u (some { e with mark := combineMark e.mark ⟨cls, now⟩ }) := by
  simp only [Flc.giveMark, he, hreach, if_false, hv]

/-- A mark of a MISSING unit, with no visit in flight to it: ROUTINE, with the class owed (R142). -/
theorem giveMark_of_missing (he : f.units.get u = some e) (hv : f.visitTo u = none) (hreach : e.reach = .missing) :
    f.giveMark now cls u =
      f.setUnit u (some { e with mark := combineMark e.mark ⟨.routine, now⟩, owed := raiseOwed e.owed cls }) := by
  simp only [Flc.giveMark, he, hreach, if_true, hv]

/-- The visit in flight to a unit. -/
theorem visitTo_of_visit {x : Visit} (htx : f.tx = some (.visit x)) (hu : x.unit = u) (hd : x.dropped = false) :
    f.visitTo u = some x := by
  simp only [Flc.visitTo, htx, hu, hd, and_self, if_true]

/-- A mark given during a visit is recorded against it (R147). -/
theorem giveMark_of_visit {x : Visit} (he : f.units.get u = some e) (hv : f.visitTo u = some x) (hreach : e.reach ≠ .missing) :
    f.giveMark now cls u = { f.setUnit u (some e) with tx := some (.visit (x.record ⟨cls, now⟩)) } := by
  simp only [Flc.giveMark, he, hreach, if_false, hv]

/-- A mark held of class ROUTINE, or none, given a ROUTINE one. -/
theorem combineMark_routine {held : Option Mark} (h : held = none ∨ ∃ time, held = some ⟨.routine, time⟩) :
    combineMark held ⟨.routine, now⟩ = some (held.getD ⟨.routine, now⟩) := by
  rcases h with rfl | ⟨time, rfl⟩ <;> rfl

end

/-- Settles O40, by what the unit's entry and the visit in flight say. -/
theorem marksRiseAndKeepTheirTime : Obligations.MarksRiseAndKeepTheirTime := by
  intro f now cls u
  refine ⟨giveMark_none, fun e he hv => ⟨fun hreach => ?_, fun hreach hmark => ?_⟩, fun e v he hreach htx hu hd =>
    ⟨fun hcut hbefore => ?_, fun hcut hafter => ?_⟩⟩
  · rw [giveMark_of_seen he hv hreach]
    cases hm : e.mark <;> rfl
  · rw [giveMark_of_missing he hv hreach, combineMark_routine hmark]
    cases ho : e.owed <;> rfl
  · rw [giveMark_of_visit he (visitTo_of_visit htx hu hd) hreach]
    simp only [Visit.record, hcut, Bool.false_eq_true, if_false, hbefore]
    rfl
  · rw [giveMark_of_visit he (visitTo_of_visit htx hu hd) hreach]
    simp only [Visit.record, hcut, if_true, hafter]
    rfl

/-! ## The unit marked first (R145) -/

section
variable {f : Flc} {cls : MarkClass} {u v : UnitIx} {m : Mark}

/-- A unit holds a mark. -/
def Flc.Marked (f : Flc) (u : UnitIx) (m : Mark) : Prop := ∃ e, f.units.get u = some e ∧ e.mark = some m

/-- One unit of the search for the earliest mark of a class. -/
def Flc.firstStep (f : Flc) (cls : MarkClass) (best : Option (UnitIx × Nat)) (u : UnitIx) : Option (UnitIx × Nat) :=
  match (f.units.get u).bind UnitEntry.mark with
  | none => best
  | some m =>
    if m.cls ≠ cls then best
    else match best with
      | none => some (u, m.time)
      | some (_, t) => if m.time < t then some (u, m.time) else best

/-- The model's search is the fold of this step. -/
theorem firstMarked_eq_foldl (f : Flc) (cls : MarkClass) :
    f.firstMarked cls = (allUnits.foldl (f.firstStep cls) none).map Prod.fst := rfl

/-- A marked unit's entry and mark, as the search reads them. -/
theorem marked_iff : f.Marked u m ↔ (f.units.get u).bind UnitEntry.mark = some m :=
  Option.bind_eq_some_iff.symm

/-- A unit with no mark of the class leaves the best. -/
theorem firstStep_of_unmarked (h : ∀ m, f.Marked u m → m.cls ≠ cls) (best : Option (UnitIx × Nat)) :
    f.firstStep cls best u = best := by
  unfold Flc.firstStep
  split
  · rfl
  · next m hm => exact if_pos (h m (marked_iff.mpr hm))

/-- A unit marked of the class earlier than the best takes its place. -/
theorem firstStep_of_earlier (hm : f.Marked u m) (hc : m.cls = cls) {best : Option (UnitIx × Nat)}
    (h : ∀ b ∈ best, m.time < b.2) : f.firstStep cls best u = some (u, m.time) := by
  unfold Flc.firstStep
  rw [marked_iff.mp hm]
  rcases best with _ | ⟨v, t⟩
  · simp [hc]
  · simp [hc, h (v, t) rfl]

/-- A unit marked of the class no earlier than the best leaves it. -/
theorem firstStep_of_later (hm : f.Marked v m) (hc : m.cls = cls) {t : Nat} (h : t ≤ m.time) :
    f.firstStep cls (some (u, t)) v = some (u, t) := by
  unfold Flc.firstStep
  rw [marked_iff.mp hm]
  simp [hc, h]

/-- Among units with no mark of the class nothing is found. -/
theorem foldl_firstStep_of_unmarked {l : List UnitIx} (h : ∀ u ∈ l, ∀ m, f.Marked u m → m.cls ≠ cls)
    (best : Option (UnitIx × Nat)) : l.foldl (f.firstStep cls) best = best := by
  induction l with
  | nil => rfl
  | cons u l ih =>
    rw [List.foldl_cons, firstStep_of_unmarked (h u List.mem_cons_self)]
    exact ih fun v hv => h v (List.mem_cons_of_mem _ hv)

/-- Units marked no earlier than the best leave it. -/
theorem foldl_firstStep_of_later {l : List UnitIx} {t : Nat} (h : ∀ v ∈ l, ∀ m, f.Marked v m → m.cls = cls → t ≤ m.time) :
    l.foldl (f.firstStep cls) (some (u, t)) = some (u, t) := by
  induction l with
  | nil => rfl
  | cons v l ih =>
    have hstep : f.firstStep cls (some (u, t)) v = some (u, t) := by
      by_cases hv : ∃ m, f.Marked v m ∧ m.cls = cls
      · obtain ⟨m, hm, hc⟩ := hv
        exact firstStep_of_later hm hc (h v List.mem_cons_self m hm hc)
      · exact firstStep_of_unmarked (fun m hm hc => hv ⟨m, hm, hc⟩) _
    rw [List.foldl_cons, hstep]
    exact ih fun w hw => h w (List.mem_cons_of_mem _ hw)

/-- What the search holds is the mark of a unit it has passed. -/
theorem foldl_firstStep_mem {l : List UnitIx} {best : Option (UnitIx × Nat)} {P : UnitIx × Nat → Prop}
    (h : ∀ v ∈ l, ∀ m, f.Marked v m → m.cls = cls → P (v, m.time)) (hb : ∀ b ∈ best, P b) :
    ∀ b ∈ l.foldl (f.firstStep cls) best, P b := by
  induction l generalizing best with
  | nil => exact hb
  | cons v l ih =>
    refine ih (fun w hw => h w (List.mem_cons_of_mem _ hw)) fun b hmem => ?_
    unfold Flc.firstStep at hmem
    split at hmem
    · exact hb b hmem
    · next m hm =>
      have hv := h v List.mem_cons_self m (marked_iff.mpr hm)
      by_cases hc : m.cls = cls
      · rcases best with _ | ⟨w, t⟩
        · simp only [hc, ne_eq, not_true_eq_false, if_false, Option.mem_some_iff] at hmem
          exact hmem ▸ hv hc
        · simp only [hc, ne_eq, not_true_eq_false, if_false] at hmem
          split at hmem
          · exact Option.mem_some_iff.mp hmem ▸ hv hc
          · exact hb b hmem
      · rw [if_pos hc] at hmem
        exact hb b hmem

/-- No unit is found where none holds a mark of the class. -/
theorem firstMarked_eq_none (h : ∀ u m, f.Marked u m → m.cls ≠ cls) : f.firstMarked cls = none := by
  rw [firstMarked_eq_foldl, foldl_firstStep_of_unmarked fun u _ => h u]
  rfl

/-- The unit found is the one marked earliest, of the lowest index among equals. -/
theorem firstMarked_eq_some (hm : f.Marked u m) (hc : m.cls = cls)
    (hfirst : ∀ v m', f.Marked v m' → m'.cls = cls → m.time < m'.time ∨ (m.time = m'.time ∧ u ≤ v)) :
    f.firstMarked cls = some u := by
  obtain ⟨l, l', hl⟩ := List.append_of_mem (List.mem_finRange u)
  have hasc : (l ++ u :: l').Pairwise (· < ·) := hl ▸ List.pairwise_lt_finRange _
  obtain ⟨-, -, hup⟩ := List.pairwise_append.mp hasc
  have hbefore : ∀ b ∈ l.foldl (f.firstStep cls) none, m.time < b.2 := by
    refine foldl_firstStep_mem (P := fun b => m.time < b.2) (fun v hv m' hm' hc' => ?_) nofun
    rcases hfirst v m' hm' hc' with h | ⟨-, h⟩
    · exact h
    · exact absurd (hup v hv u List.mem_cons_self) (not_lt.mpr h)
  have hafter : ∀ v ∈ l', ∀ m', f.Marked v m' → m'.cls = cls → m.time ≤ m'.time := fun v _ m' hm' hc' =>
    (hfirst v m' hm' hc').elim le_of_lt fun h => h.1.le
  rw [firstMarked_eq_foldl, allUnits, hl, List.foldl_append, List.foldl_cons, firstStep_of_earlier hm hc hbefore,
    foldl_firstStep_of_later hafter]
  rfl

/-! ## The free line (R145) -/

/-- A line in use stays. -/
theorem arbitrate_of_busy (h : f.tx ≠ none) : f.arbitrate = f := by
  unfold Flc.arbitrate
  split
  · rfl
  · next hnone => exact absurd hnone h

/-- The free line takes the next work, if there is any. -/
theorem arbitrate_of_free (h : f.tx = none) : f.arbitrate = f.nextWork.getD f := by
  simp only [Flc.arbitrate, h]

/-- The next work without an owed broadcast. -/
theorem nextWork_of_quiet (h : f.allOpenOwed = false) : f.nextWork =
    (f.visitOf .opening).or ((f.visitOf .closing).or
      ((if f.sweep.isOpen then some { f with tx := some (.seek .sweep) } else none).or
        ((f.visitOf .demand).or
          ((if f.enrol.running then some { f with tx := some (.seek .enrolment) } else none).or
            (f.visitOf .routine))))) := by
  simp only [Flc.nextWork, h, Bool.false_eq_true, if_false]

/-- No visit of a class that no unit is marked with. -/
theorem visitOf_eq_none (h : ∀ u m, f.Marked u m → m.cls ≠ cls) : f.visitOf cls = none := by
  rw [Flc.visitOf, firstMarked_eq_none h]
  rfl

/-- No visit of a class more urgent than every mark. -/
theorem visitOf_eq_none_of_rank {c : MarkClass} (h : ∀ v m', f.Marked v m' → m'.cls.rank ≤ cls.rank) (hr : cls.rank < c.rank) :
    f.visitOf c = none :=
  visitOf_eq_none fun v m' hm' hc => absurd (h v m' hm') (by rw [hc]; exact Nat.not_le.mpr hr)

end

/-- Settles O41: the line's or-chain, with the first mark of a class as its search finds it. -/
theorem lineGoesToTheMostUrgentWork : Obligations.LineGoesToTheMostUrgentWork := by
  intro f
  refine ⟨arbitrate_of_busy, fun htx hall => ?_, fun htx hall => ⟨fun cls u e m he hm hc hfirst hsweep henrol => ?_,
    fun hlow hsweep => ?_, fun hlow hsweep henrol => ?_, fun hnone hsweep henrol => ?_⟩⟩
  · rw [arbitrate_of_free htx, Flc.nextWork, if_pos hall]
    rfl
  all_goals rw [arbitrate_of_free htx, nextWork_of_quiet hall]
  · have hmarked : f.Marked u m := ⟨e, he, hm⟩
    have hrank : ∀ v m', f.Marked v m' → m'.cls.rank ≤ cls.rank := fun v m' ⟨e', he', hm'⟩ => (hfirst v e' m' he' hm').1
    have hvisit : f.visitOf cls = some (f.beginVisit u cls) := by
      rw [Flc.visitOf, firstMarked_eq_some hmarked hc fun v m' ⟨e', he', hm'⟩ => (hfirst v e' m' he' hm').2]
      rfl
    have hclosed : cls.rank < 2 → f.sweep.isOpen = false := fun h =>
      Bool.eq_false_iff.mpr fun ho => absurd (hsweep ho) (Nat.not_le.mpr h)
    have hbegin : f.beginVisit u cls = { f.setUnit u (some { e with mark := none }) with
        tx := some (.visit
          { unit := u, identity := e.identity, cls, dropped := false
            outlets := match e.plate with | some p => p.outlets | none => 0
            block := if e.plateOwed then .readPlate else .readStatus
            begun := false, asked := false, cut := false, before := none, after := none }) } := by
      simp only [Flc.beginVisit, he] <;> rfl
    cases cls with
    | opening =>
      rw [hvisit, Option.some_or, Option.getD_some, hbegin]
      rfl
    | closing =>
      rw [visitOf_eq_none_of_rank hrank (by decide), Option.none_or, hvisit, Option.some_or, Option.getD_some, hbegin]
      rfl
    | demand =>
      rw [visitOf_eq_none_of_rank (c := .opening) hrank (by decide), visitOf_eq_none_of_rank (c := .closing) hrank (by decide),
        hclosed (by decide), hvisit]
      simp only [Bool.false_eq_true, if_false, Option.none_or, Option.some_or, Option.getD_some, hbegin] <;> rfl
    | routine =>
      have hidle : f.enrol.running = false := Bool.eq_false_iff.mpr fun hr => absurd (henrol hr) (by decide)
      rw [visitOf_eq_none_of_rank (c := .opening) hrank (by decide), visitOf_eq_none_of_rank (c := .closing) hrank (by decide),
        visitOf_eq_none_of_rank (c := .demand) hrank (by decide), hclosed (by decide), hidle, hvisit]
      simp only [Bool.false_eq_true, if_false, Option.none_or, Option.getD_some, hbegin] <;> rfl
  · have hno : ∀ c : MarkClass, 2 ≤ c.rank → f.visitOf c = none := fun c hr =>
      visitOf_eq_none fun v m ⟨e, he, hm⟩ hc => absurd (hlow v e m he hm) (by rw [hc]; exact Nat.not_lt.mpr hr)
    rw [hno .opening (by decide), hno .closing (by decide), hsweep]
    rfl
  · have hno : ∀ c : MarkClass, 1 ≤ c.rank → f.visitOf c = none := fun c hr =>
      visitOf_eq_none fun v m ⟨e, he, hm⟩ hc => absurd (hlow v e m he hm) (by rw [hc]; exact Nat.not_lt.mpr hr)
    rw [hno .opening (by decide), hno .closing (by decide), hno .demand (by decide), hsweep, henrol]
    rfl
  · have hno : ∀ c : MarkClass, f.visitOf c = none := fun c =>
      visitOf_eq_none fun v m ⟨e, he, hm⟩ => absurd ((hnone v e he).symm.trans hm) nofun
    rw [hno, hno, hno, hno, hsweep, henrol]
    rfl

end Sys2Proof.Machine
end

section
/-! SUPPORT. A shed-all record by record (R38, R39), the trip (R88) and STOP (R104, R105). -/

namespace Sys2Proof.Machine

-- each theorem's proof is checked before the next begins, so that few threads are needed
set_option Elab.async false

/-! ## The release of a slot's own record -/

section
variable {s t : State} {i : Slot} {r q : Allotment} {b : Bool} {d : Dest} {reason : Option Reason}

@[simp] theorem orderOpen_strict (s : State) (g : Target) : (s.orderOpen g).alt.strict = s.alt.strict := by
  cases g <;> rfl

/-- The beginning of a release leaves the strict slot. -/
theorem openRelease_strict (hr : s.record i = some r) : (s.openRelease b i d reason).alt.strict = s.alt.strict := by
  simp only [State.openRelease, hr, orderOpen_strict, noteChange_strict]
  split <;> rfl

/-- A record that does not wait is not the strict slot's. -/
theorem ne_strict_of_steady (h : s.Steady i r) (hw : ¬ r.waits) : s.alt.strict ≠ some i := fun he => hw (h.2 he)

/-- A switched record does not wait. -/
theorem not_waits_of_switched (hst : r.state = .granted ∨ r.state = .live) : ¬ r.waits := by
  rintro ⟨-, h | ⟨h, -⟩⟩ <;> rcases hst with hst | hst <;> exact absurd (hst.symm.trans h) nofun

/-- A releasing record does not wait. -/
theorem not_waits_of_releasing (hst : r.state = .releasing d) : ¬ r.waits := by
  rintro ⟨-, h | ⟨h, -⟩⟩ <;> exact absurd (hst.symm.trans h) nofun

/-- A release begun of a record that does not wait. -/
theorem steady_openRelease (h : s.Steady i r) (hw : ¬ r.waits) :
    (s.openRelease b i d reason).Steady i (r.releasing d reason) :=
  ⟨record_openRelease h.1, fun he => absurd (openRelease_strict h.1 ▸ he) (ne_strict_of_steady h hw)⟩

/-- A release completed with a record left. -/
theorem steady_completeRelease (h : s.Steady i q) (hst : q.state = .releasing d) {withStep : Bool}
    (hx : Allotment.released { q with trimmed := q.trimmed || decide (q.kind = Kind.saw) } d = some r) :
    (s.completeRelease b withStep i).Steady i r := by
  have hstrict : (s.completeRelease b withStep i).alt.strict = s.alt.strict := by
    rw [completeRelease_of h.1 hst, endWait_strict, noteChange_strict]
    cases withStep <;> rfl
  refine ⟨?_, fun he => absurd (hstrict ▸ he) (ne_strict_of_steady h (not_waits_of_releasing hst))⟩
  rw [completeRelease_of h.1 hst, endWait_record, record_noteChange, record_setRecord_self, hx]

/-- A release toward SHED, completed: SHED while wanted, else IDLE (R19). -/
theorem released_shed (r : Allotment) : r.released .shed = some { r with state := if r.wanted then .shed else .idle } := by
  cases hw : r.wanted <;> simp [Allotment.released, hw]

/-- A record on a field outlet is RELEASING once its release has begun (R25). -/
theorem steady_release_field (h : s.Steady i r) (hst : r.state = .granted ∨ r.state = .live) {u : UnitIx} {o : Outlet}
    (ht : r.target = .field u o) : (s.release b i d reason).Steady i (r.releasing d reason) := by
  obtain ⟨v, hopen, hend⟩ := release_split s i b d reason
  have hv : v.Steady i (r.releasing d reason) := hopen.steady (steady_openRelease h (not_waits_of_switched hst))
  have htarget : (r.releasing d reason).target = .field u o := ht
  refine hend.steady ?_
  simp only [State.settleRelease, hv.1, htarget]
  exact hv

/-- A record on a relay stands at its destination once its release has begun (R22). -/
theorem steady_release_relay (h : s.Steady i r) (hst : r.state = .granted ∨ r.state = .live) (hk : r.kind ≠ .saw)
    {n : Fin Config.relays} (ht : r.target = .relay n) (hx : (r.releasing d reason).released d = some q) :
    (s.release b i d reason).Steady i q := by
  obtain ⟨v, hopen, hend⟩ := release_split s i b d reason
  have hv : v.Steady i (r.releasing d reason) := hopen.steady (steady_openRelease h (not_waits_of_switched hst))
  have htarget : (r.releasing d reason).target = .relay n := ht
  have hnsaw : decide ((r.releasing d reason).kind = .saw) = false := decide_eq_false hk
  refine hend.steady ?_
  simp only [State.settleRelease, hv.1, htarget]
  exact steady_completeRelease hv rfl (by rw [hnsaw, Bool.or_false]; exact hx)

/-- The saw record is RELEASING while CLUTCH_IN reads active, and at its destination at once where it reads inactive
(R24, R26). -/
theorem steady_release_clutch (h : s.Steady i r) (hst : r.state = .granted ∨ r.state = .live) (hk : r.kind = .saw)
    (ht : r.target = .clutch) (hx : Allotment.released { r.releasing d reason with trimmed := true } d = some q) :
    (s.release b i d reason).Steady i (if s.active .clutchIn then r.releasing d reason else q) := by
  obtain ⟨v, hopen, hend⟩ := release_split s i b d reason
  have hv : v.Steady i (r.releasing d reason) := hopen.steady (steady_openRelease h (not_waits_of_switched hst))
  have htarget : (r.releasing d reason).target = .clutch := ht
  have hsaw : decide ((r.releasing d reason).kind = .saw) = true := decide_eq_true hk
  have hin : v.active .clutchIn = s.active .clutchIn := by
    have hinu : (s.openRelease b i d reason).inu = s.inu := by
      simp only [State.openRelease, h.1]
      have horder : ∀ (x : State) (g : Target), (x.orderOpen g).inu = x.inu := fun x g => by cases g <;> rfl
      rw [horder, noteChange_eq]
      split <;> rfl
    rw [State.active, State.chan, hopen.inu, hinu]
    rfl
  refine hend.steady ?_
  simp only [State.settleRelease, hv.1, htarget, hin]
  split
  · exact hv
  · exact steady_completeRelease hv rfl (by rw [hsaw, Bool.or_true]; exact hx)

end

/-! ## Switches ordered open, and marks -/

section
variable {s t : State} {i : Slot} {r : Allotment} {b : Bool} {d : Dest} {reason : Option Reason}

/-- Any slot has another beside it. -/
theorem exists_other (i : Slot) : ∃ k : Slot, i ≠ k := by
  by_cases h : i = 0
  · exact ⟨1, by rw [h]; decide⟩
  · exact ⟨0, h⟩

/-- The settling of a release is work aside from another slot. -/
theorem settleRelease_aside (s : State) (i : Slot) (b : Bool) : ∃ k, Aside k s (s.settleRelease b i) :=
  (exists_other i).imp fun _ hk => Aside.refl.settleRelease hk

/-- A release opens the record's relay (R22). -/
theorem release_relay_open (hr : s.record i = some r) {n : Fin Config.relays} (ht : r.target = .relay n) :
    (s.release b i d reason).alt.relays.get n = false := by
  obtain ⟨v, hopen, hend⟩ := release_split s i b d reason
  obtain ⟨k, hsettle⟩ := settleRelease_aside v i b
  refine hend.relays (hsettle.relays (hopen.relays ?_))
  simp only [State.openRelease, hr, ht, State.orderOpen]
  exact vector_get_set_self ..

/-- A release disengages the clutch of a record on it (R24). -/
theorem release_clutch_open (hr : s.record i = some r) (ht : r.target = .clutch) :
    (s.release b i d reason).alt.clutch = false := by
  obtain ⟨v, hopen, hend⟩ := release_split s i b d reason
  obtain ⟨k, hsettle⟩ := settleRelease_aside v i b
  refine hend.clutch (hsettle.clutch (hopen.clutch ?_))
  simp only [State.openRelease, hr, ht, State.orderOpen]
  rfl

/-! ### Marks of class OPEN (R25, R141) -/

/-- The unit's mark is of class OPEN. -/
def Flc.MarkedOpen (f : Flc) (u : UnitIx) : Prop := ∃ e, f.units.get u = some e ∧ e.mark.map Mark.cls = some .opening

/-- The unit takes a mark as its own: it has an entry that is not MISSING, and no visit to it is in flight. -/
def Flc.TakesMarks (f : Flc) (u : UnitIx) : Prop :=
  (∃ e, f.units.get u = some e ∧ e.reach ≠ .missing) ∧ f.visitTo u = none

/-- What a mark given to a unit leaves of its entry: the reach, and the mark where a visit is in flight. -/
theorem giveMark_cases (f : Flc) (now : Nat) (cls : MarkClass) (v : UnitIx) :
    f.giveMark now cls v = f ∨ ∃ e, f.units.get v = some e ∧ ∃ e' : UnitEntry, e'.reach = e.reach ∧
      ((∃ x, f.visitTo v = some x ∧ e'.mark = e.mark ∧
        f.giveMark now cls v = { f.setUnit v (some e') with tx := some (.visit (x.record ⟨cls, now⟩)) }) ∨
      (f.visitTo v = none ∧ f.giveMark now cls v = f.setUnit v (some e') ∧
        ∃ given, e'.mark = combineMark e.mark given ∧ (e.reach ≠ .missing → given = ⟨cls, now⟩))) := by
  rcases he : f.units.get v with _ | e
  · exact .inl (giveMark_none he)
  · refine .inr ⟨e, rfl, ?_⟩
    by_cases hreach : e.reach = .missing
    · rcases hv : f.visitTo v with _ | x
      · exact ⟨{ e with mark := combineMark e.mark ⟨.routine, now⟩, owed := raiseOwed e.owed cls }, rfl,
          .inr ⟨rfl, giveMark_of_missing he hv hreach, _, rfl, fun h => absurd hreach h⟩⟩
      · refine ⟨{ e with owed := raiseOwed e.owed cls }, rfl, .inl ⟨x, rfl, rfl, ?_⟩⟩
        simp only [Flc.giveMark, he, hreach, if_true, hv]
    · rcases hv : f.visitTo v with _ | x
      · exact ⟨{ e with mark := combineMark e.mark ⟨cls, now⟩ }, rfl,
          .inr ⟨rfl, giveMark_of_seen he hv hreach, _, rfl, fun _ => rfl⟩⟩
      · exact ⟨e, rfl, .inl ⟨x, rfl, rfl, giveMark_of_visit he hv hreach⟩⟩

/-- An OPEN mark is not lowered. -/
theorem combineMark_of_open {held : Option Mark} (h : held.map Mark.cls = some .opening) (given : Mark) :
    combineMark held given = held := by
  rcases held with _ | m
  · cases h
  · have hm : m.cls = .opening := Option.some.inj h
    have hrank : ¬ m.cls.rank < given.cls.rank := by
      rw [hm]
      cases given.cls <;> decide
    simp only [combineMark, hrank, if_false]

/-- A mark given OPEN is of class OPEN. -/
theorem combineMark_opening (held : Option Mark) (now : Nat) :
    (combineMark held ⟨.opening, now⟩).map Mark.cls = some .opening := by
  rcases held with _ | m
  · rfl
  · cases hm : m.cls <;> simp [combineMark, hm, MarkClass.rank]

/-- A mark given leaves the OPEN mark of any unit. -/
theorem MarkedOpen.giveMark {f : Flc} {u : UnitIx} (h : f.MarkedOpen u) (now : Nat) (cls : MarkClass) (v : UnitIx) :
    (f.giveMark now cls v).MarkedOpen u := by
  obtain ⟨e, he, hm⟩ := h
  rcases giveMark_cases f now cls v with hg | ⟨e₀, he₀, e', -, ⟨x, -, hmark, hg⟩ | ⟨-, hg, given, hmark, -⟩⟩ <;> rw [hg]
  · exact ⟨e, he, hm⟩
  all_goals
    by_cases huv : u = v
    · subst huv
      obtain rfl : e = e₀ := Option.some.inj (he.symm.trans he₀)
      have hmark' : e'.mark = e.mark := hmark.trans (by simp only [combineMark_of_open hm])
      exact ⟨e', vector_get_set_self .., hmark' ▸ hm⟩
    · exact ⟨e, (vector_get_set_ne _ _ huv).trans he, hm⟩

/-- The visit in flight is to its own unit. -/
theorem unit_of_visitTo {f : Flc} {u : UnitIx} {x : Visit} (h : f.visitTo u = some x) : x.unit = u := by
  unfold Flc.visitTo at h
  split at h
  · split at h
    · next h' => exact Option.some.inj h ▸ h'.1
    · cases h
  all_goals cases h

/-- A mark given begins no visit. -/
theorem visitTo_giveMark {f : Flc} {u : UnitIx} (h : f.visitTo u = none) (now : Nat) (cls : MarkClass) (v : UnitIx) :
    (f.giveMark now cls v).visitTo u = none := by
  rcases giveMark_cases f now cls v with hg | ⟨e, -, e', -, ⟨x, hx, -, hg⟩ | ⟨-, hg, -⟩⟩ <;> rw [hg]
  · exact h
  · have hne : v ≠ u := by
      rintro rfl
      exact absurd (h.symm.trans hx) nofun
    have hxu := unit_of_visitTo hx
    have hunit : (x.record ⟨cls, now⟩).unit = v := by
      unfold Visit.record
      split <;> exact hxu
    simp only [Flc.visitTo, hunit, hne, false_and, if_false]
  · exact h

/-- A unit that takes marks does so after another mark. -/
theorem TakesMarks.giveMark {f : Flc} {u : UnitIx} (h : f.TakesMarks u) (now : Nat) (cls : MarkClass) (v : UnitIx) :
    (f.giveMark now cls v).TakesMarks u := by
  obtain ⟨⟨e, he, hr⟩, hvisit⟩ := h
  refine ⟨?_, visitTo_giveMark hvisit now cls v⟩
  rcases giveMark_cases f now cls v with hg | ⟨e₀, he₀, e', hreach, ⟨x, hx, -, hg⟩ | ⟨-, hg, -⟩⟩ <;> rw [hg]
  · exact ⟨e, he, hr⟩
  all_goals
    by_cases huv : u = v
    · subst huv
      obtain rfl : e = e₀ := Option.some.inj (he.symm.trans he₀)
      exact ⟨e', vector_get_set_self .., hreach ▸ hr⟩
    · exact ⟨e, (vector_get_set_ne _ _ huv).trans he, hr⟩

/-- A mark OPEN given to a unit that takes marks. -/
theorem TakesMarks.opened {f : Flc} {u : UnitIx} (h : f.TakesMarks u) (now : Nat) :
    (f.giveMark now .opening u).MarkedOpen u := by
  obtain ⟨⟨e, he, hr⟩, hvisit⟩ := h
  rw [giveMark_of_seen he hvisit hr]
  exact ⟨_, vector_get_set_self .., combineMark_opening ..⟩

/-- Work aside leaves OPEN marks. -/
theorem Aside.markedOpen {u : UnitIx} (h : Aside i s t) (hs : s.flc.MarkedOpen u) : t.flc.MarkedOpen u := by
  refine h.keep (P := fun x => x.flc.MarkedOpen u) (fun {x y} p hx => ?_) hs
  cases p with
  | check =>
    rcases checkStrict_cases x with h | ⟨k, -, -, h⟩ <;> rw [h] <;> exact hx
  | mark v => exact MarkedOpen.giveMark hx _ _ v
  | _ => exact hx

/-- Work aside leaves the units that take marks. -/
theorem Aside.takesMarks {u : UnitIx} (h : Aside i s t) (hs : s.flc.TakesMarks u) : t.flc.TakesMarks u := by
  refine h.keep (P := fun x => x.flc.TakesMarks u) (fun {x y} p hx => ?_) hs
  cases p with
  | check =>
    rcases checkStrict_cases x with h | ⟨k, -, -, h⟩ <;> rw [h] <;> exact hx
  | mark v => exact TakesMarks.giveMark hx _ _ v
  | _ => exact hx

/-- A release of a record on a field outlet marks its unit OPEN (R25). -/
theorem release_marksOpen (hr : s.record i = some r) {u : UnitIx} {o : Outlet} (ht : r.target = .field u o)
    (hu : s.flc.TakesMarks u) : (s.release b i d reason).flc.MarkedOpen u := by
  obtain ⟨v, hopen, hend⟩ := release_split s i b d reason
  obtain ⟨k, hsettle⟩ := settleRelease_aside v i b
  refine hend.markedOpen (hsettle.markedOpen (hopen.markedOpen ?_))
  have hflc : (s.openRelease b i d reason).flc = s.flc.giveMark s.now .opening u := by
    simp only [State.openRelease, hr, ht, State.orderOpen, noteChange_eq]
    split <;> rfl
  rw [hflc]
  exact TakesMarks.opened hu _

end

/-! ## The shed-all, record by record (R38, R39) -/

section
variable {s : State} {i : Slot} {r q : Allotment} {reason : Reason}

/-- A record that a shed-all spares (R38). -/
theorem shedAllSlot_of_spared (hr : s.record i = some r) (h : r.kind = .critical ∨ r.state = .idle ∨ r.state = .shed ∨
    (∃ h, r.state = .held h) ∨ ∃ d, r.state = .releasing d) : State.shedAllSlot reason s i = s := by
  simp only [State.shedAllSlot, hr]
  rcases h with h | h | h | ⟨x, h⟩ | ⟨d, h⟩
  · exact if_pos h
  all_goals simp only [h, ite_self]

/-- A switched record is released toward SHED (R38). -/
theorem shedAllSlot_of_switched (hr : s.record i = some r) (hk : r.kind ≠ .critical)
    (hst : r.state = .granted ∨ r.state = .live) :
    State.shedAllSlot reason s i = s.release true i .shed (some reason) := by
  simp only [State.shedAllSlot, hr, hk, if_false]
  rcases hst with hst | hst <;> simp only [hst]

/-- A PENDING record becomes SHED (R38). -/
theorem steady_shedAllSlot_pending (h : s.Steady i r) (hk : r.kind ≠ .critical) (hst : r.state = .pending) :
    (State.shedAllSlot reason s i).Steady i { r with state := .shed, reason := some reason } := by
  have hset : ((s.setRecord i (some { r with state := .shed, reason := some reason })).noteChange true i).Steady i
      { r with state := .shed, reason := some reason } := by
    refine ⟨by rw [record_noteChange, record_setRecord_self], fun he => ?_⟩
    rw [noteChange_strict] at he
    obtain ⟨hspent, -⟩ := h.2 he
    exact ⟨hspent, .inr ⟨rfl, hk⟩⟩
  simp only [State.shedAllSlot, h.1, hk, if_false, hst]
  split
  · exact hset
  all_goals exact hset

/-- What a slot's record becomes in a shed-all is what its own turn makes of it. -/
theorem shedAll_steady (h : s.Steady i r) (hturn : ∀ u : State, Aside i s u → u.Steady i r →
    (State.shedAllSlot reason u i).Steady i q) : (s.shedAll reason).record i = some q := by
  obtain ⟨u, w, hbefore, hafter, -, hall⟩ := shedAll_split s reason i
  rw [hall]
  exact (hafter.steady (hturn u hbefore (hbefore.steady h))).1

end

/-- Settles O26: each slot's own turn, with the turns of the others aside from it. -/
theorem shedAllSparesOnlyCritical : Obligations.ShedAllSparesOnlyCritical := by
  intro s reason i r hr hstrict
  have hsteady : s.Steady i r := ⟨hr, fun he => waits_of_candidate hr (hstrict he).1 (hstrict he).2⟩
  refine ⟨fun hspared => ?_, fun hk hst => ?_, fun hk hst n ht => ⟨?_, ?_⟩, fun hk hst u o ht => ⟨?_, fun e he hreach hv => ?_⟩,
    fun hk hst ht => ⟨?_, ?_⟩, ?_⟩
  · refine shedAll_steady hsteady fun u _ hu => ?_
    rw [shedAllSlot_of_spared hu.1 hspared]
    exact hu
  · exact shedAll_steady hsteady fun u _ hu => steady_shedAllSlot_pending hu hk hst
  · refine shedAll_steady hsteady fun u _ hu => ?_
    rw [shedAllSlot_of_switched hu.1 (by simp [hk]) hst]
    exact steady_release_relay hu hst (by simp [hk]) ht (released_shed _)
  · obtain ⟨u, w, hbefore, hafter, hworks, hall⟩ := shedAll_split s reason i
    have hu : u.Steady i r := hbefore.steady hsteady
    rw [shedAllSlot_of_switched hu.1 (by simp [hk]) hst] at hafter
    rw [hall]
    exact hafter.relays (release_relay_open hu.1 ht)
  · refine shedAll_steady hsteady fun v _ hv => ?_
    rw [shedAllSlot_of_switched hv.1 (by simp [hk]) hst]
    exact steady_release_field hv hst ht
  · obtain ⟨v, w, hbefore, hafter, hworks, hall⟩ := shedAll_split s reason i
    have hvr : v.Steady i r := hbefore.steady hsteady
    rw [shedAllSlot_of_switched hvr.1 (by simp [hk]) hst] at hafter
    rw [hall]
    exact hafter.markedOpen (release_marksOpen hvr.1 ht (hbefore.takesMarks ⟨⟨e, he, hreach⟩, hv⟩))
  · obtain ⟨u, w, hbefore, hafter, hworks, hall⟩ := shedAll_split s reason i
    have hu : u.Steady i r := hbefore.steady hsteady
    rw [shedAllSlot_of_switched hu.1 (by simp [hk]) hst] at hafter
    rw [hall]
    exact hafter.clutch (release_clutch_open hu.1 ht)
  · refine shedAll_steady hsteady fun u hbefore hu => ?_
    have hin : u.active .clutchIn = s.active .clutchIn := by rw [State.active, State.chan, hbefore.inu]; rfl
    rw [shedAllSlot_of_switched hu.1 (by simp [hk]) hst]
    have hrel := steady_release_clutch (b := true) (reason := some reason) hu hst hk ht (released_shed _)
    rw [hin] at hrel
    exact hrel
  · obtain ⟨u, w, hbefore, hafter, hworks, hall⟩ := shedAll_split s reason i
    obtain ⟨k, hk⟩ := exists_other i
    have hturn : Aside k u (State.shedAllSlot reason u i) := Aside.refl.shedAllSlot hk
    rw [hall]
    exact ⟨param_of_outer hworks.outer _, rfl, hafter.settle.trans (hturn.settle.trans hbefore.settle), rfl⟩

end Sys2Proof.Machine
end

section
/-! SUPPORT. The records that a shed-all leaves (R38), the trip (R88), STOP (R104, R105) and the emergency inputs (R56, R87,
R172). -/

namespace Sys2Proof.Machine

-- each theorem's proof is checked before the next begins, so that few threads are needed
set_option Elab.async false

/-! ## No record but a CRITICAL one stays switched or PENDING -/

section
variable {s t : State} {i : Slot} {r : Allotment} {b : Bool} {reason : Reason}

/-- Work aside leaves the slot's record but for its starve count. -/
theorem Aside.unstarved (h : Aside i s t) :
    (t.record i).map (fun r => { r with starve := 0 }) = (s.record i).map fun r => { r with starve := 0 } := by
  refine h.keep (P := fun u => (u.record i).map (fun r => { r with starve := 0 }) =
    (s.record i).map fun r => { r with starve := 0 }) (fun {u v} p hu => ?_) rfl
  rw [← hu]
  cases p with
  | alt f hf =>
    have hrec : (u.onAlt f).record i = u.record i := congrArg (fun x => Vector.get x i) hf.slots
    rw [hrec]
  | record j x hj => rw [record_setRecord_ne u x (Ne.symm hj)]
  | check =>
    rcases checkStrict_record u i with h | h <;> rw [h]
    rw [Option.map_map]
    rfl
  | _ => rfl

/-- What a slot's record is after work aside it was before, but for the starve count. -/
theorem Aside.record_of (h : Aside i s t) {q : Allotment} (hq : t.record i = some q) :
    ∃ r, s.record i = some r ∧ q.kind = r.kind ∧ q.state = r.state := by
  have hmap := h.unstarved
  rw [hq] at hmap
  rcases hr : s.record i with _ | r
  · rw [hr] at hmap
    cases hmap
  · rw [hr] at hmap
    have heq := Option.some.inj hmap
    exact ⟨r, rfl, (Allotment.mk.inj heq).2.2.1, (Allotment.mk.inj heq).1⟩

/-- The slot's record, unless CRITICAL, is neither switched nor PENDING. -/
def State.Calm (s : State) (i : Slot) : Prop :=
  ∀ r, s.record i = some r → r.kind ≠ .critical → r.state ≠ .granted ∧ r.state ≠ .live ∧ r.state ≠ .pending

theorem Aside.calm (h : Aside i s t) (hs : s.Calm i) : t.Calm i := by
  intro q hq hk
  obtain ⟨r, hr, hkind, hstate⟩ := h.record_of hq
  rw [hstate]
  exact hs r hr (hkind ▸ hk)

/-- A record RELEASING or at rest is calm. -/
theorem calm_of_record (hr : s.record i = some r) (hst : r.state ≠ .granted ∧ r.state ≠ .live ∧ r.state ≠ .pending) :
    s.Calm i := fun q hq _ => by
  obtain rfl := Option.some.inj (hr.symm.trans hq)
  exact hst

/-- A release toward SHED, completed, leaves a record at rest. -/
theorem calm_completeRelease (hr : s.record i = some r) (hst : r.state = .releasing .shed) :
    (s.completeRelease b true i).Calm i := by
  refine calm_of_record (r := { r with
    trimmed := r.trimmed || decide (r.kind = Kind.saw), state := if r.wanted then .shed else .idle }) ?_ ?_
  · rw [completeRelease_of hr hst, endWait_record, record_noteChange, record_setRecord_self, released_shed]
  · cases r.wanted <;> exact ⟨nofun, nofun, nofun⟩

/-- A release toward SHED leaves a record RELEASING or at rest. -/
theorem calm_release {reason : Option Reason} (hr : s.record i = some r) : (s.release b i .shed reason).Calm i := by
  obtain ⟨v, hopen, hend⟩ := release_split s i b .shed reason
  refine hend.calm ?_
  rcases hv : v.record i with _ | q
  · have hsettle : v.settleRelease b i = v := by simp only [State.settleRelease, hv]
    rw [hsettle]
    exact fun q hq => absurd (hv.symm.trans hq) nofun
  · obtain ⟨x, hx, -, hstate⟩ := hopen.record_of hv
    obtain rfl := Option.some.inj ((record_openRelease hr).symm.trans hx)
    have hq : v.Calm i := calm_of_record hv (by rw [hstate]; exact ⟨nofun, nofun, nofun⟩)
    simp only [State.settleRelease, hv]
    split
    · exact calm_completeRelease hv hstate
    · split
      · exact hq
      · exact calm_completeRelease hv hstate
    · exact hq

/-- A slot's turn in a shed-all leaves its record calm. -/
theorem calm_shedAllSlot (s : State) (i : Slot) (reason : Reason) : (State.shedAllSlot reason s i).Calm i := by
  rcases hr : s.record i with _ | r
  · simp only [State.shedAllSlot, hr]
    exact fun q hq => absurd (hr.symm.trans hq) nofun
  by_cases hk : r.kind = .critical
  · simp only [State.shedAllSlot, hr, hk, if_true]
    exact fun q hq hk' => absurd (Option.some.inj (hr.symm.trans hq) ▸ hk) hk'
  have hrest : r.state ≠ .granted ∧ r.state ≠ .live ∧ r.state ≠ .pending → s.Calm i := calm_of_record hr
  have hset : ((s.setRecord i (some { r with state := .shed, reason := some reason })).noteChange true i).Calm i :=
    calm_of_record (r := { r with state := .shed, reason := some reason })
      (by rw [record_noteChange, record_setRecord_self]) ⟨nofun, nofun, nofun⟩
  simp only [State.shedAllSlot, hr, hk, if_false]
  split
  iterate 2 exact calm_release hr
  · split
    · exact hset
    all_goals exact hset
  all_goals
    next hst => exact hrest (by rw [hst]; exact ⟨nofun, nofun, nofun⟩)

/-- After a shed-all no record but a CRITICAL one is switched or PENDING (R38). -/
theorem calm_shedAll (s : State) (reason : Reason) (i : Slot) : (s.shedAll reason).Calm i := by
  obtain ⟨u, w, -, hafter, -, hall⟩ := shedAll_split s reason i
  rw [hall]
  exact hafter.calm (calm_shedAllSlot u i reason)

end

/-! ## What a shed-all leaves (R38, R39) -/

section
variable (s : State) (reason : Reason)

/-- A shed-all is work, and its end. -/
theorem shedAll_works : ∃ w, Works s w ∧ s.shedAll reason = w.shedEnded := by
  obtain ⟨u, w, -, -, hworks, hall⟩ := shedAll_split s reason 0
  exact ⟨w, hworks, hall⟩

/-- Out of REGULATING and HOLD a shed-all leaves the governor. -/
theorem shedAll_gov (hr : s.gov.st ≠ .regulating) (hh : s.gov.st ≠ .hold) : (s.shedAll reason).gov = s.gov := by
  obtain ⟨w, hworks, hall⟩ := shedAll_works s reason
  rw [hall]
  exact hworks.gov_idle hr hh

@[simp] theorem shedAll_inu : (s.shedAll reason).inu = s.inu := by
  obtain ⟨w, hworks, hall⟩ := shedAll_works s reason
  rw [hall]
  exact hworks.inu

@[simp] theorem shedAll_params : (s.shedAll reason).params = s.params := by
  obtain ⟨w, hworks, hall⟩ := shedAll_works s reason
  rw [hall]
  exact outer_params hworks.outer

@[simp] theorem shedAll_holdOff : (s.shedAll reason).alt.holdOff = s.param .restoreDelay := by
  obtain ⟨w, hworks, hall⟩ := shedAll_works s reason
  rw [hall]
  exact param_of_outer hworks.outer _

@[simp] theorem shedAll_allOpenOwed : (s.shedAll reason).flc.allOpenOwed = true := by
  obtain ⟨w, -, hall⟩ := shedAll_works s reason
  rw [hall]
  rfl

/-- What is raised before a shed-all is raised after it (R187). -/
theorem shedAll_latched {n : Nat} (h : s.rqp.latched.getLsbD n = true) :
    (s.shedAll reason).rqp.latched.getLsbD n = true := by
  obtain ⟨w, hworks, hall⟩ := shedAll_works s reason
  rw [hall]
  exact hworks.latched h

end

section
variable (s : State)

/-! ## What a report leaves (R32, R69, R169) -/

/-- A report touches the headroom, SAW and the raised causes. -/
theorem govReport_eq : ∃ w : Saw, s.govReport = { s with
    alt := if s.gov.st = .regulating then s.alt else { s.alt with headroom := 0 }
    saw := w
    rqp := { s.rqp with latched := s.rqp.latched ||| Cause.govState.bit } } := by
  by_cases hst : s.gov.st = .regulating
  · rw [govReport_regulating hst, if_pos hst]
    exact ⟨s.saw, rfl⟩
  · simp only [State.govReport, State.sawGovReport, hst, decide_false, Bool.false_eq_true, if_false]
    exact ⟨_, rfl⟩

@[simp] theorem govReport_gov : s.govReport.gov = s.gov := by
  obtain ⟨w, h⟩ := govReport_eq s
  rw [h]

@[simp] theorem govReport_inu : s.govReport.inu = s.inu := by
  obtain ⟨w, h⟩ := govReport_eq s
  rw [h]

@[simp] theorem govReport_params : s.govReport.params = s.params := by
  obtain ⟨w, h⟩ := govReport_eq s
  rw [h]

@[simp] theorem govReport_flc : s.govReport.flc = s.flc := by
  obtain ⟨w, h⟩ := govReport_eq s
  rw [h]

/-- A report of a state that is not REGULATING. -/
theorem govReport_alt (h : s.gov.st ≠ .regulating) : s.govReport.alt = { s.alt with headroom := 0 } := by
  obtain ⟨w, hw⟩ := govReport_eq s
  rw [hw, if_neg h]

@[simp] theorem govReport_holdOff : s.govReport.alt.holdOff = s.alt.holdOff := by
  obtain ⟨w, hw⟩ := govReport_eq s
  rw [hw]
  simp only
  split <;> rfl

@[simp] theorem govReport_record (i : Slot) : s.govReport.record i = s.record i := by
  obtain ⟨w, hw⟩ := govReport_eq s
  rw [hw]
  simp only [State.record]
  split <;> rfl

/-- A report raises GOV_STATE. -/
theorem govReport_raised : s.govReport.rqp.latched.getLsbD 3 = true := by
  obtain ⟨w, hw⟩ := govReport_eq s
  rw [hw]
  simp [Cause.bit]

/-- What is raised before a report is raised after it. -/
theorem govReport_latched {n : Nat} (h : s.rqp.latched.getLsbD n = true) : s.govReport.rqp.latched.getLsbD n = true := by
  obtain ⟨w, hw⟩ := govReport_eq s
  rw [hw]
  simp [h]

end

/-! ## The trip (R88) -/

/-- GOV's own part of a trip (R88). -/
def State.tripGov (s : State) (cause : TripCause) : State :=
  let s := s.onGov fun g => { g.enterIdle .tripped with cause }
  if cause = .gateFault then s.onGov fun g => { g.endMove with gateValid := false } else (s.onGov Gov.endMove).beginShut

/-- A trip is GOV's part, the shed-all and the report. -/
theorem trip_eq (s : State) (cause : TripCause) : s.trip cause = ((s.tripGov cause).shedAll .tripped).govReport := rfl

/-- The governor after a trip (R88). -/
def Gov.tripped (s : State) (cause : TripCause) : Gov :=
  { s.gov with
    st := .tripped, cause, duty := 1023, spare := 0, fPrev := none, overspeed := 0, collapse := 0
    holdTimer := none, runupTimer := none, trimTimer := none
    gateDir := if cause = .gateFault then s.gov.gateDir else .closing
    move := if cause = .gateFault ∨ s.active .gateShut then none
      else some { purpose := .shut, dir := .closing, issued := 0
                  asked := (if s.gov.gateValid then s.gov.gatePos else s.param .gateSpan) + 100 }
    stepTimer := if cause = .gateFault ∨ s.active .gateShut then none else some (1000000 / s.param .gateRate)
    gatePos := if cause ≠ .gateFault ∧ s.active .gateShut then 0 else s.gov.gatePos
    gateValid := if cause = .gateFault then false else (s.gov.gateValid || s.active .gateShut) }

/-- GOV's part of a trip touches GOV alone. -/
theorem tripGov_eq (s : State) (cause : TripCause) : s.tripGov cause = { s with gov := Gov.tripped s cause } := by
  unfold State.tripGov
  by_cases hc : cause = .gateFault
  · subst hc
    rfl
  · simp only [hc, if_false]
    cases hshut : s.active .gateShut
    · refine (beginShut_of_clear ?_).trans ?_
      · exact hshut
      · simp only [Gov.tripped, hc, hshut, Bool.false_eq_true, or_self, and_false, if_false, Bool.or_false]
        rfl
    · refine (beginShut_of_limit ?_).trans ?_
      · exact hshut
      · simp only [Gov.tripped, hc, hshut, or_true, ne_eq, not_false_eq_true, and_self, if_true, if_false, Bool.or_true]
        rfl

@[simp] theorem trip_gov (s : State) (cause : TripCause) : (s.trip cause).gov = Gov.tripped s cause := by
  have hst : (s.tripGov cause).gov.st = .tripped := by
    rw [tripGov_eq]
    rfl
  rw [trip_eq, govReport_gov, shedAll_gov _ _ (by simp [hst]) (by simp [hst]), tripGov_eq]

@[simp] theorem trip_inu (s : State) (cause : TripCause) : (s.trip cause).inu = s.inu := by
  rw [trip_eq, govReport_inu, shedAll_inu, tripGov_eq]

@[simp] theorem trip_params (s : State) (cause : TripCause) : (s.trip cause).params = s.params := by
  rw [trip_eq, govReport_params, shedAll_params, tripGov_eq]

/-- What is raised before a trip is raised after it. -/
theorem trip_latched (s : State) (cause : TripCause) {n : Nat} (h : s.rqp.latched.getLsbD n = true) :
    (s.trip cause).rqp.latched.getLsbD n = true := by
  rw [trip_eq, tripGov_eq]
  exact govReport_latched _ (shedAll_latched _ _ h)

/-- A trip raises GOV_STATE. -/
theorem trip_raised (s : State) (cause : TripCause) : (s.trip cause).rqp.latched.getLsbD 3 = true := govReport_raised _

/-- Settles O31: GOV's own part, the shed-all and the report, each for what it leaves. -/
theorem tripClosesTheGateAndSheds : Obligations.TripClosesTheGateAndSheds := by
  intro s cause
  have hst : ((s.tripGov cause).shedAll .tripped).gov.st ≠ .regulating := by
    have hgov := trip_gov s cause
    rw [trip_eq, govReport_gov] at hgov
    rw [hgov]
    exact GovState.noConfusion
  have hparam : (s.tripGov cause).param .restoreDelay = s.param .restoreDelay := by rw [tripGov_eq]; rfl
  refine ⟨s.trip cause, rfl, trip_gov s cause, ?_, ?_, ?_, fun i r hr hk => ?_, trip_raised s cause, trip_inu s cause,
    trip_params s cause⟩
  · rw [trip_eq, govReport_alt _ hst]
  · rw [trip_eq, govReport_holdOff, shedAll_holdOff, hparam]
  · rw [trip_eq, govReport_flc, shedAll_allOpenOwed]
  · rw [trip_eq, govReport_record] at hr
    have hcalm := calm_shedAll (s.tripGov cause) .tripped i
    exact hcalm r hr hk

end Sys2Proof.Machine
end

section
/-! SUPPORT. STOP (R104, R105) and the emergency inputs (R56, R87, R172). -/

namespace Sys2Proof.Machine

-- each theorem's proof is checked before the next begins, so that few threads are needed
set_option Elab.async false

/-! ## STOP -/

/-- A request carried out at a ready port, whatever its act made of the port (R145, R181). -/
theorem request_arbitrates_here {s u : State} {act : Act} {c : ResultCode} {p : List Byte} (h : s.Ready)
    (e : act s.cleared = (u, ⟨c, p⟩)) (hc : c.carriedOut = true) :
    s.request (arbitrated act) = .next (u.arbitrate.onRqp fun r => { r with exec := some ⟨c, p⟩ }) := by
  have hact : arbitrated act s.cleared = (u.arbitrate, ⟨c, p⟩) := by
    rw [arbitrated, e]
    exact congrArg (fun x => (x, (⟨c, p⟩ : Answer))) (if_pos hc)
  rw [request_of_ready h]
  show Host.Outcome.next ((arbitrated act s.cleared).1.onRqp fun r => { r with exec := some (arbitrated act s.cleared).2 }) = _
  rw [hact]

section
variable {s : State}

/-- A report of a state that is not REGULATING leaves no headroom. -/
theorem govReport_headroom (h : s.gov.st ≠ .regulating) : s.govReport.alt.headroom = 0 := by rw [govReport_alt _ h]

/-- What the acts of STOP keep from its shed-all on: the inputs, the parameters, the hold-off, and no record switched or PENDING
but the CRITICAL ones. -/
structure State.ShedTo (s t : State) : Prop where
  inu : t.inu = s.inu
  params : t.params = s.params
  holdOff : t.alt.holdOff = s.param .restoreDelay
  calm : ∀ i, t.Calm i

/-- A shed-all keeps these. -/
theorem shedTo_shedAll (g : Gov → Gov) (reason : Reason) : s.ShedTo ((s.onGov g).shedAll reason) where
  inu := shedAll_inu _ _
  params := shedAll_params _ _
  holdOff := shedAll_holdOff _ _
  calm := calm_shedAll _ _

/-- GOV's own acts keep these. -/
theorem State.ShedTo.withGov {u : State} (h : s.ShedTo u) (g : Gov) : s.ShedTo { u with gov := g } :=
  ⟨h.inu, h.params, h.holdOff, h.calm⟩

/-- A report keeps these. -/
theorem State.ShedTo.govReport {u : State} (h : s.ShedTo u) : s.ShedTo u.govReport :=
  ⟨(govReport_inu u).trans h.inu, (govReport_params u).trans h.params, (govReport_holdOff u).trans h.holdOff,
    fun i r hr => h.calm i r (govReport_record u i ▸ hr)⟩

/-- STOP after its shed-all: the closing gate and the report (R104, R105). -/
def State.stopRest (u : State) : State :=
  if u.beginShut.govReport.gov.move.isNone then u.beginShut.govReport.shutEnded else u.beginShut.govReport

/-- STOP is its shed-all and the rest. -/
theorem stopSet_split (s : State) : ∃ u, s.ShedTo u ∧ u.gov = (s.gov.endMove).enterIdle .stopping ∧ s.stopSet = u.stopRest :=
  ⟨(s.onGov fun g => (g.endMove).enterIdle .stopping).shedAll .stopped, shedTo_shedAll _ _,
    shedAll_gov _ _ GovState.noConfusion GovState.noConfusion, rfl⟩

/-- The governor after STOP (R104, R105). -/
def Gov.stopTaken (s : State) : Gov :=
  { s.gov with
    st := if s.active .gateShut then .stopped else .stopping
    duty := 1023, spare := 0, fPrev := none, overspeed := 0, collapse := 0
    holdTimer := none, runupTimer := none, trimTimer := none, gateDir := .closing
    move := if s.active .gateShut then none
      else some { purpose := .shut, dir := .closing, issued := 0
                  asked := (if s.gov.gateValid then s.gov.gatePos else s.param .gateSpan) + 100 }
    stepTimer := if s.active .gateShut then none else some (1000000 / s.param .gateRate)
    gatePos := if s.active .gateShut then 0 else s.gov.gatePos
    gateValid := s.gov.gateValid || s.active .gateShut }

/-- The rest of STOP with the gate open leaves it closing (R104). -/
theorem stopRest_of_open {u : State} (h : u.active .gateShut = false) : u.stopRest = u.beginShut.govReport := by
  have hmove : u.beginShut.govReport.gov.move.isNone = false := by
    rw [govReport_gov, beginShut_of_clear h]
    rfl
  exact if_neg (ne_true_of_eq_false hmove)

/-- The rest of STOP with the gate shut ends in STOPPED (R105). -/
theorem stopRest_of_shut {u : State} (h : u.active .gateShut = true) (hst : u.gov.st = .stopping) :
    u.stopRest = (u.beginShut.govReport.onGov fun g => g.enterIdle .stopped).govReport := by
  have hmove : u.beginShut.govReport.gov.move.isNone = true := by
    rw [govReport_gov, beginShut_of_limit h]
    rfl
  have hstopping : u.beginShut.govReport.gov.st = .stopping := by
    rw [govReport_gov, beginShut_of_limit h]
    exact hst
  refine (if_pos hmove).trans ?_
  simp only [State.shutEnded, hstopping]

/-- What STOP leaves. -/
theorem stopSet_leaves (s : State) : ∃ t, s.stopSet = t ∧ s.ShedTo t ∧ t.gov = Gov.stopTaken s ∧ t.alt.headroom = 0 ∧
    t.rqp.latched.getLsbD 3 = true := by
  obtain ⟨u, hu, hgov, hset⟩ := stopSet_split s
  refine ⟨u.stopRest, hset, ?_⟩
  have hactive : u.active .gateShut = s.active .gateShut := by simp only [State.active, State.chan, hu.inu]
  have hparam : ∀ p, u.param p = s.param p := fun p => by simp only [State.param, hu.params]
  cases hshut : s.active .gateShut
  · rw [stopRest_of_open (hactive.trans hshut), beginShut_of_clear (hactive.trans hshut)]
    refine ⟨(hu.withGov _).govReport, ?_, govReport_headroom ?_, govReport_raised _⟩
    · rw [govReport_gov, hgov, hparam, hparam]
      simp [Gov.stopTaken, hshut, Gov.enterIdle, Gov.endMove] <;> rfl
    · rw [hgov]
      exact GovState.noConfusion
  · rw [stopRest_of_shut (hactive.trans hshut) (by rw [hgov]; rfl), beginShut_of_limit (hactive.trans hshut)]
    refine ⟨((hu.withGov _).govReport.withGov _).govReport, ?_, govReport_headroom GovState.noConfusion, govReport_raised _⟩
    rw [govReport_gov, onGov_gov, govReport_gov, hgov]
    simp [Gov.stopTaken, hshut, Gov.enterIdle, Gov.endMove]

end

/-- Settles O33: STOP as its shed-all, its closing gate and its report leave it. -/
theorem stopShedsAndCloses : Obligations.StopShedsAndCloses := by
  intro s hready
  refine ⟨fun hst => ?_, fun hst => ?_⟩
  · refine request_arbitrates_not hready (t := s) ?_ rfl
    rcases hst with hst | hst | hst <;> (simp only [onRqp_gov, hst, State.cleared] <;> rfl)
  · obtain ⟨t, ht, hshed, hgov, hhead, hraised⟩ := stopSet_leaves s.cleared
    refine ⟨_, request_arbitrates_here (u := t) hready ?_ rfl, rfl, hgov, hhead, hshed.holdOff, hshed.calm, hraised, hshed.inu,
      hshed.params⟩
    rw [← ht]
    rcases hst with hst | hst | hst <;> (simp only [onRqp_gov, hst, State.cleared] <;> rfl)

end Sys2Proof.Machine
end

section
/-! SUPPORT. The emergency inputs (R56, R87, R172): what a trip and a saw fault leave of the other blocks. -/

namespace Sys2Proof.Machine

-- each theorem's proof is checked before the next begins, so that few threads are needed
set_option Elab.async false

section
variable {s : State} {cause : FaultCause}

/-! ## Saw faults -/

/-- A fault is work of SAW and ALT. -/
theorem sawFault_works (s : State) (cause : FaultCause) : Works s (s.sawFault cause) := Works.refl.sawFault

/-- A fault out of FAULT raises SAW_STATE (R154). -/
theorem sawFault_raised (h : s.saw.st ≠ .fault) : (s.sawFault cause).rqp.latched.getLsbD 5 = true := by
  have hne : ((s.onSaw Saw.stopMotion).clearCutWanted.onSaw Saw.dropPhase).sawFaultAtAlt.saw.st ≠ .fault := by
    rw [sawFaultAtAlt_saw, onSaw_saw, clearCutWanted_saw]
    exact h
  simp only [State.sawFault, h, if_false, enterSaw_of_ne hne]
  simp [State.onSaw, State.raise, State.onRqp, Cause.bit]

/-! ## What a trip leaves of SAW -/

theorem Saw.SameFault.trans {w w' w'' : Saw} (h : w.SameFault w') (h' : w'.SameFault w'') : w.SameFault w'' :=
  ⟨h'.1.trans h.1, h'.2.trans h.2⟩

/-- A shed-all leaves SAW in FAULT, or out of it (R167). -/
theorem shedAll_sameFault (s : State) (reason : Reason) : s.saw.SameFault (s.shedAll reason).saw := by
  obtain ⟨u, w, hbefore, hafter, -, hall⟩ := shedAll_split s reason 0
  obtain ⟨k, hk⟩ := exists_other 0
  have hturn : Aside k u (State.shedAllSlot reason u 0) := Aside.refl.shedAllSlot hk
  rw [hall]
  exact hbefore.sameFault.trans (hturn.sameFault.trans hafter.sameFault)

/-- So does a report (R169). -/
theorem govReport_sameFault (s : State) : s.saw.SameFault s.govReport.saw := by
  by_cases hst : s.gov.st = .regulating
  · rw [govReport_regulating hst]
    exact ⟨Iff.rfl, rfl⟩
  · simp only [State.govReport, hst, decide_false, Bool.false_eq_true, if_false, State.sawGovReport, raise_saw, onSaw_saw]
    split <;> exact ⟨Iff.rfl, rfl⟩

/-- So does a trip (R88). -/
theorem trip_sameFault (s : State) (cause : TripCause) : s.saw.SameFault (s.trip cause).saw := by
  rw [trip_eq, tripGov_eq]
  exact (shedAll_sameFault { s with gov := Gov.tripped s cause } .tripped).trans (govReport_sameFault _)

/-! ## The deliveries (R56) -/

/-- The state with a latch set and INPUT raised (R56). -/
def State.latchSet (s : State) (f : Inu → Inu) : State := (s.onInu f).raise .input

/-- INPUT is raised. -/
theorem latchSet_raised (s : State) (f : Inu → Inu) : (s.latchSet f).rqp.latched.getLsbD 6 = true := by
  simp [State.latchSet, State.onInu, State.raise, State.onRqp, Cause.bit]

/-- What the setting of the ESTOP latch makes of GOV (R56, R87). -/
theorem govEstop_cases (s : State) :
    (s.govEstop = s ∧ (s.gov.st = .stopped ∨ s.gov.st = .tripped)) ∨
    (s.govEstop = s.trip .estop ∧ s.gov.st ≠ .stopped ∧ s.gov.st ≠ .tripped) := by
  cases hst : s.gov.st <;> simp [State.govEstop, hst]

/-- The latch tells GOV and leaves the inputs, what is raised, and SAW in FAULT or out of it. -/
theorem govEstop_leaves (s : State) : s.govEstop.inu = s.inu ∧ s.saw.SameFault s.govEstop.saw ∧
    ∀ n, s.rqp.latched.getLsbD n = true → s.govEstop.rqp.latched.getLsbD n = true := by
  rcases govEstop_cases s with ⟨h, -⟩ | ⟨h, -⟩ <;> rw [h]
  · exact ⟨rfl, ⟨Iff.rfl, rfl⟩, fun _ hn => hn⟩
  · exact ⟨trip_inu s .estop, trip_sameFault s .estop, fun _ hn => trip_latched s .estop hn⟩

/-- A GOV that the latch leaves STOPPED or TRIPPED stays so through the saw's fault. -/
theorem govEstop_sawFault_gov (s : State) : (s.govEstop.sawFault .estop).gov = s.govEstop.gov := by
  have hidle : s.govEstop.gov.st = .stopped ∨ s.govEstop.gov.st = .tripped := by
    rcases govEstop_cases s with ⟨h, hst⟩ | ⟨h, -⟩ <;> rw [h]
    · exact hst
    · rw [trip_gov]
      exact .inr rfl
  rcases hidle with h | h <;> exact (sawFault_works _ _).gov_idle (by simp [h]) (by simp [h])

end

/-- The level of a channel whose change to active is accepted, the channels as the acceptance leaves them. -/
theorem level_of_accepted {s t : State} {c : Channel} (ht : t.inu.chans = (s.accepted c).inu.chans)
    (hraw : (s.chan c).raw = true) : (t.chan c).level = true := by
  have hchan : t.chan c = (s.accepted c).chan c := by rw [State.chan, ht]; rfl
  have hself : (s.accepted c).chan c = { s.chan c with level := (s.chan c).raw, candidate := none } :=
    vector_get_set_self ..
  rw [hchan, hself]
  exact hraw

/-- What ESTOP makes of GOV and SAW, its latch set. -/
theorem estop_outcome (u : State) : (u.govEstop.sawFault .estop).inu = u.inu ∧
    (∀ n, u.rqp.latched.getLsbD n = true → (u.govEstop.sawFault .estop).rqp.latched.getLsbD n = true) ∧
    (u.gov.st = .stopped ∨ u.gov.st = .tripped → (u.govEstop.sawFault .estop).gov = u.gov) ∧
    (u.gov.st ≠ .stopped → u.gov.st ≠ .tripped → (u.govEstop.sawFault .estop).gov = Gov.tripped u .estop ∧
      (u.govEstop.sawFault .estop).rqp.latched.getLsbD 3 = true) ∧
    (u.saw.st = .fault → (u.govEstop.sawFault .estop).saw.st = .fault ∧
      (u.govEstop.sawFault .estop).saw.cause = u.saw.cause) ∧
    (u.saw.st ≠ .fault → (u.govEstop.sawFault .estop).saw.st = .fault ∧
      (u.govEstop.sawFault .estop).saw.cause = .estop ∧
      (u.govEstop.sawFault .estop).rqp.latched.getLsbD 5 = true) := by
  have hworks : Works u.govEstop (u.govEstop.sawFault .estop) := sawFault_works _ _
  obtain ⟨hinu, ⟨hfault, hcause⟩, hlatched⟩ := govEstop_leaves u
  refine ⟨hworks.inu.trans hinu, fun n hn => hworks.latched (hlatched n hn), fun hst => ?_, fun hs ht => ?_, fun hst => ?_,
    fun hst => ?_⟩
  · rcases govEstop_cases u with ⟨h, -⟩ | ⟨-, hs, ht⟩
    · rw [govEstop_sawFault_gov, h]
    · exact absurd hst (not_or.mpr ⟨hs, ht⟩)
  · rcases govEstop_cases u with ⟨-, h⟩ | ⟨h, -⟩
    · exact absurd h (not_or.mpr ⟨hs, ht⟩)
    · refine ⟨by rw [govEstop_sawFault_gov, h, trip_gov], hworks.latched ?_⟩
      rw [h]
      exact trip_raised u .estop
  · rw [sawFault_of_fault (hfault.mpr hst)]
    exact ⟨hfault.mpr hst, hcause⟩
  · have hne : u.govEstop.saw.st ≠ .fault := mt hfault.mp hst
    rw [sawFault_saw hne]
    exact ⟨rfl, rfl, sawFault_raised hne⟩

/-- What GUARD makes of SAW, its latch set. -/
theorem guard_outcome (u : State) : u.sawGuard.inu = u.inu ∧ u.sawGuard.gov.st = u.gov.st ∧
    (∀ n, u.rqp.latched.getLsbD n = true → u.sawGuard.rqp.latched.getLsbD n = true) ∧
    (u.saw.st = .idle ∨ u.saw.st = .fault → u.sawGuard.saw = u.saw) ∧
    (u.saw.st ≠ .idle → u.saw.st ≠ .fault → u.sawGuard.saw.st = .fault ∧ u.sawGuard.saw.cause = .guard ∧
      u.sawGuard.rqp.latched.getLsbD 5 = true) := by
  by_cases hidle : u.saw.st = .idle
  · have hguard : u.sawGuard = u := if_pos hidle
    rw [hguard]
    exact ⟨rfl, rfl, fun _ hn => hn, fun _ => rfl, fun h => absurd hidle h⟩
  · have hguard : u.sawGuard = u.sawFault .guard := if_neg hidle
    have hworks : Works u (u.sawFault .guard) := sawFault_works u .guard
    obtain ⟨b, d, w, hgov⟩ := hworks.gov
    rw [hguard]
    refine ⟨hworks.inu, by rw [hgov], fun n hn => hworks.latched hn, fun hst => ?_, fun _ hne => ?_⟩
    · rw [sawFault_of_fault (hst.resolve_left hidle)]
    · rw [sawFault_saw hne]
      exact ⟨rfl, rfl, sawFault_raised hne⟩

/-- Settles O37: the latch, then GOV and SAW as each takes it. -/
theorem emergencyStopLatches : Obligations.EmergencyStopLatches := by
  intro s c hrun hsome hraw hc
  rcases hc with rfl | rfl
  · by_cases hl : s.inu.estopLatch = true
    · have hact : (s.accepted .estop).deliver .estop true = s.accepted .estop := if_pos hl
      exact ⟨_, exec_debounceAccept_active hrun hsome hraw hact, level_of_accepted rfl hraw, fun _ => ⟨hl, rfl⟩, nofun,
        fun _ h => absurd (hl.symm.trans h) nofun, nofun, fun _ => ⟨rfl, rfl, rfl, rfl⟩⟩
    · generalize hu : (s.accepted .estop).latchSet (fun u => { u with estopLatch := true }) = u
      have hact : (s.accepted .estop).deliver .estop true = u.govEstop.sawFault .estop := by
        rw [← hu]
        exact if_neg hl
      have hinputs : u.inu = { (s.accepted .estop).inu with estopLatch := true } := by rw [← hu]; rfl
      have hgov : u.gov = s.gov := by rw [← hu]; rfl
      have hsaw : u.saw = s.saw := by rw [← hu]; rfl
      have hraised : u.rqp.latched.getLsbD 6 = true := by rw [← hu]; exact latchSet_raised _ _
      obtain ⟨hinu, hkept, hstays, htrips, hfault, hfaults⟩ := estop_outcome u
      have hset := hinu.trans hinputs
      rw [hgov] at hstays htrips
      rw [hsaw] at hfault hfaults
      refine ⟨_, exec_debounceAccept_active hrun hsome hraw hact, level_of_accepted ?_ hraw, fun _ => ?_, nofun,
        fun _ _ => ⟨hkept 6 hraised, fun hst => ?_, fun hs ht => ?_, ?_, fun hne => ?_, fun hst => ?_⟩, nofun, ?_⟩
      · have hchans := congrArg Inu.chans hset
        exact hchans
      · have hestop := congrArg Inu.estopLatch hset
        have hguard := congrArg Inu.guardLatch hset
        exact ⟨hestop, hguard⟩
      · exact ⟨congrArg Gov.st (hstays hst), congrArg Gov.cause (hstays hst)⟩
      · obtain ⟨h, hbit⟩ := htrips hs ht
        exact ⟨congrArg Gov.st h, congrArg Gov.cause h, congrArg Gov.duty h, hbit⟩
      · by_cases hst : s.saw.st = .fault
        · exact (hfault hst).1
        · exact (hfaults hst).1
      · exact (hfaults hne).2
      · exact (hfault hst).2
      · rintro (⟨-, h⟩ | ⟨h, -⟩)
        · exact absurd h hl
        · cases h
  · by_cases hl : s.inu.guardLatch = true
    · have hact : (s.accepted .guard).deliver .guard true = s.accepted .guard := if_pos hl
      exact ⟨_, exec_debounceAccept_active hrun hsome hraw hact, level_of_accepted rfl hraw, nofun, fun _ => ⟨hl, rfl, rfl⟩,
        nofun, fun _ h => absurd (hl.symm.trans h) nofun, fun _ => ⟨rfl, rfl, rfl, rfl⟩⟩
    · generalize hu : (s.accepted .guard).latchSet (fun u => { u with guardLatch := true }) = u
      have hact : (s.accepted .guard).deliver .guard true = u.sawGuard := by
        rw [← hu]
        exact if_neg hl
      have hinputs : u.inu = { (s.accepted .guard).inu with guardLatch := true } := by rw [← hu]; rfl
      have hgov : u.gov = s.gov := by rw [← hu]; rfl
      have hsaw : u.saw = s.saw := by rw [← hu]; rfl
      have hraised : u.rqp.latched.getLsbD 6 = true := by rw [← hu]; exact latchSet_raised _ _
      obtain ⟨hinu, hst, hkept, hstays, hfaults⟩ := guard_outcome u
      have hset := hinu.trans hinputs
      rw [hgov] at hst
      rw [hsaw] at hstays hfaults
      refine ⟨_, exec_debounceAccept_active hrun hsome hraw hact, level_of_accepted ?_ hraw, nofun, fun _ => ?_, nofun,
        fun _ _ => ⟨hkept 6 hraised, hstays, hfaults⟩, ?_⟩
      · have hchans := congrArg Inu.chans hset
        exact hchans
      · have hestop := congrArg Inu.estopLatch hset
        have hguard := congrArg Inu.guardLatch hset
        exact ⟨hguard, hestop, hst⟩
      · rintro (⟨h, -⟩ | ⟨-, h⟩)
        · cases h
        · exact absurd h hl

end Sys2Proof.Machine
end

section
/-! SUPPORT. The requests on the outlet units (R136, R137, R139, R140). -/

namespace Sys2Proof.Machine

-- each theorem's proof is checked before the next begins, so that few threads are needed
set_option Elab.async false

section
variable {f : Flc} {s : State} {u : UnitIx} {x : Identity}

/-! ## Units looked for -/

/-- No unit is found for an identity that no entry holds. -/
theorem unitOf_of_absent (h : ∀ v e, f.units.get v = some e → e.identity ≠ x) : f.unitOf x = none := by
  cases hu : f.unitOf x with
  | none => rfl
  | some v =>
    obtain ⟨e, he, hx⟩ := unitOf_some hu
    exact absurd hx (h v e he)

/-- The unit found for an identity is the one entry that holds it. -/
theorem unitOf_of_unique {e : UnitEntry} (he : f.units.get u = some e) (hx : e.identity = x)
    (hone : ∀ v e', f.units.get v = some e' → e'.identity = x → v = u) : f.unitOf x = some u := by
  cases hu : f.unitOf x with
  | none => exact absurd hx (unitOf_none hu he)
  | some v =>
    obtain ⟨e', he', hx'⟩ := unitOf_some hu
    rw [hone v e' he' hx']

/-- The lowest empty position of the unit table. -/
theorem freeUnit_of_lowest (hu : f.units.get u = none) (hlow : ∀ v, v < u → f.units.get v ≠ none) :
    f.freeUnit = some u := by
  rw [Flc.freeUnit, allUnits, ← Fin.find?_eq_find?_finRange, Fin.find?_eq_some_iff]
  refine ⟨by rw [hu]; rfl, fun v hv => ?_⟩
  obtain ⟨e, he⟩ := Option.ne_none_iff_exists'.mp (hlow v hv)
  rw [he]
  rfl

/-- A request on an entry of the unit table is the act on that entry. -/
theorem onUnit_of_entry {index : Byte} {e : UnitEntry} (hi : u.val = index.toNat) (he : s.flc.units.get u = some e)
    (act : State → UnitIx → UnitEntry → State × Answer) : onUnit index act s = act s u e := by
  have hix : indexOf Config.units index = some u := by
    have hlt : index.toNat < Config.units := hi ▸ u.isLt
    exact (dif_pos hlt).trans (congrArg some (Fin.ext hi.symm))
  simp only [onUnit, hix, he]

/-- A record names a unit as its field target. -/
theorem unitNamed_of {i : Slot} {r : Allotment} {o : Outlet} (hr : s.record i = some r) (ht : r.target = .field u o) :
    s.unitNamed u = true := by
  refine List.any_eq_true.mpr ⟨o, List.mem_finRange o, ?_⟩
  cases hj : s.slotOf (.field u o) with
  | none => exact absurd ht (slotOf_none hj hr)
  | some j =>
    obtain ⟨r', hr', -⟩ := slotOf_some hj
    rw [Option.bind_some, hr']
    rfl

/-- No record names the unit. -/
theorem unitNamed_of_not (h : ∀ i r o, s.record i = some r → r.target ≠ .field u o) : s.unitNamed u = false := by
  refine List.any_eq_false.mpr fun o _ => ?_
  cases hj : s.slotOf (.field u o) with
  | none => exact Bool.false_ne_true
  | some j =>
    obtain ⟨r', hr', ht⟩ := slotOf_some hj
    exact absurd ht (h j r' o hr')

/-- An entry removed with no visit in flight to it (R137). -/
theorem dropUnit_of_unvisited (h : f.visitTo u = none) : f.dropUnit u = f.setUnit u none := by
  simp only [Flc.dropUnit, h]
  rfl

end

section
variable {s : State} (h : s.Ready)
include h

/-! ## ADOPT and DROP_UNIT (R136, R137) -/

/-- ADOPT of a valid identity that has no entry stores it in the lowest empty position. -/
theorem exec_adopt_of_free {x : Identity} {u : UnitIx} (hx : validIdentity x = true) (hnew : s.flc.unitOf x = none)
    (hu : s.flc.freeUnit = some u) :
    exec (.adopt x) s = .next ({ s with flc :=
      { s.flc.setUnit u (some (newEntry x s.now)) with found := s.flc.found.filter (· != x) } }.arbitrate.answered .done
        [BitVec.ofNat 8 u.val]) := by
  refine request_arbitrates h (t := { s with flc :=
    { s.flc.setUnit u (some (newEntry x s.now)) with found := s.flc.found.filter (· != x) } }) ?_ rfl
  have hflc : s.cleared.flc = s.flc := rfl
  simp only [hx, hflc, hnew, hu, Bool.not_true, Bool.false_eq_true, if_false, Option.isSome_none]
  rfl

/-- DROP_UNIT of a unit that a record names is refused. -/
theorem exec_dropUnit_of_named {index : Byte} {u : UnitIx} {e : UnitEntry} (hi : u.val = index.toNat)
    (he : s.flc.units.get u = some e) (hn : s.unitNamed u = true) :
    exec (.dropUnit index) s = .next (s.answered .inUse []) :=
  request_answers h ((onUnit_of_entry (s := s.cleared) hi he _).trans (if_pos hn))

/-- DROP_UNIT of a unit that no record names removes its entry. -/
theorem exec_dropUnit_of_unnamed {index : Byte} {u : UnitIx} {e : UnitEntry} (hi : u.val = index.toNat)
    (he : s.flc.units.get u = some e) (hn : s.unitNamed u = false) (hv : s.flc.visitTo u = none) :
    exec (.dropUnit index) s = .next ({ s with flc := s.flc.setUnit u none }.answered .done []) := by
  refine request_answers h (t := { s with flc := s.flc.setUnit u none })
    ((onUnit_of_entry (s := s.cleared) hi he _).trans ((if_neg (ne_true_of_eq_false hn)).trans ?_))
  rw [← dropUnit_of_unvisited hv]
  rfl

end

/-- Settles O42: each request by what its search in the unit table finds. -/
theorem unitRequests : Obligations.UnitRequests := by
  intro s h
  refine ⟨fun hrun => ?_, fun hrun => ?_, fun x u hx hnew hu hlow => ?_, fun index u e hi he =>
    ⟨fun ⟨i, r, o, hr, ht⟩ => ?_, fun hno hv => ?_⟩, fun x rest => exec_takeFound_of_cons h, exec_takeFound_of_nil h, ?_⟩
  · exact request_arbitrates_not h (if_pos hrun) rfl
  · exact request_arbitrates h (t := { s with flc := { s.flc with
      found := [], enrol := { s.flc.enrol with running := true, more := false, series := ⟨none, none⟩ } } })
      (if_neg (ne_true_of_eq_false hrun)) rfl
  · exact exec_adopt_of_free h hx (unitOf_of_absent hnew) (freeUnit_of_lowest hu hlow)
  · exact exec_dropUnit_of_named h hi he (unitNamed_of hr ht)
  · exact exec_dropUnit_of_unnamed h hi he (unitNamed_of_not hno) hv
  · rw [rawSet_found]
    cases s.flc.found <;> simp

end Sys2Proof.Machine
end

section
/-! SUPPORT. The line's timers, its ends without presence, and the outcome of a visit (R118, R126, R132, R143 to R148). -/

namespace Sys2Proof.Machine

-- each theorem's proof is checked before the next begins, so that few threads are needed
set_option Elab.async false

/-! ## The poll (R143) -/

section
variable {s : State} {u v : UnitIx}

/-- An entry with a mark of its own, else ROUTINE from now (R143). -/
def UnitEntry.polled (now : Nat) (e : UnitEntry) : UnitEntry := { e with mark := some (e.mark.getD ⟨.routine, now⟩) }

/-- A polled entry stays when polled again. -/
theorem polled_polled (now : Nat) (x : Option UnitEntry) :
    (x.map (·.polled now)).map (·.polled now) = x.map (·.polled now) := by
  cases x <;> rfl

/-- The second state differs from the first in the unit table and the transaction in flight alone, the line in use. -/
structure MarksOnly (s t : State) : Prop where
  same : t = { s with flc := { s.flc with units := t.flc.units, tx := t.flc.tx } }
  busy : s.flc.tx ≠ none → t.flc.tx ≠ none
  unvisited : ∀ u, s.flc.visitTo u = none → t.flc.visitTo u = none

theorem MarksOnly.refl : MarksOnly s s := ⟨rfl, id, fun _ => id⟩

theorem MarksOnly.trans {t w : State} (h : MarksOnly s t) (h' : MarksOnly t w) : MarksOnly s w where
  same := h'.same.trans (by rw [h.same])
  busy := h'.busy ∘ h.busy
  unvisited u := h'.unvisited u ∘ h.unvisited u

/-- A mark given. -/
theorem marksOnly_giveMark (s : State) (cls : MarkClass) (u : UnitIx) : MarksOnly s (s.giveMark cls u) := by
  refine ⟨?_, ?_, fun w hw => visitTo_giveMark hw s.now cls u⟩ <;> unfold State.giveMark State.onFlc <;>
    rcases giveMark_cases s.flc s.now cls u with hg | ⟨e, -, e', -, ⟨x, -, -, hg⟩ | ⟨-, hg, -⟩⟩ <;> simp only [hg]
  · rfl
  · rfl
  · exact id
  · exact fun _ => nofun
  · exact id

/-- A unit polled changes the unit table and the transaction in flight alone. -/
theorem marksOnly_pollUnit (s : State) (u : UnitIx) : MarksOnly s (s.pollUnit u) := by
  unfold State.pollUnit
  split
  · split
    · exact marksOnly_giveMark ..
    · exact .refl
  · exact .refl

/-- A mark given leaves the entry of any other unit. -/
theorem units_giveMark_ne {cls : MarkClass} (huv : u ≠ v) :
    (s.giveMark cls v).flc.units.get u = s.flc.units.get u := by
  unfold State.giveMark State.onFlc
  rcases giveMark_cases s.flc s.now cls v with hg | ⟨e, -, e', -, ⟨x, -, -, hg⟩ | ⟨-, hg, -⟩⟩ <;> simp only [hg]
  · exact vector_get_set_ne _ _ huv
  · exact vector_get_set_ne _ _ huv

/-- A ROUTINE mark given to a unit without one, to which no visit is in flight. -/
theorem units_giveMark_routine {e : UnitEntry} (he : s.flc.units.get u = some e) (hm : e.mark = none)
    (hv : s.flc.visitTo u = none) : (s.giveMark .routine u).flc.units.get u = some (e.polled s.now) := by
  show (s.flc.giveMark s.now .routine u).units.get u = _
  by_cases hreach : e.reach = .missing
  · rw [giveMark_of_missing he hv hreach]
    refine (vector_get_set_self ..).trans ?_
    rw [hm, UnitEntry.polled, hm]
    rfl
  · rw [giveMark_of_seen he hv hreach]
    refine (vector_get_set_self ..).trans ?_
    rw [hm, UnitEntry.polled, hm]
    rfl

/-- The entry of a unit polled with no visit in flight to it. -/
theorem units_pollUnit_self (hv : s.flc.visitTo u = none) :
    (s.pollUnit u).flc.units.get u = (s.flc.units.get u).map (·.polled s.now) := by
  unfold State.pollUnit
  split
  · next e he =>
    split
    · next hm => rw [units_giveMark_routine he (Option.isNone_iff_eq_none.mp hm) hv, he, Option.map_some]
    · next hm =>
      obtain ⟨m, hm⟩ := Option.ne_none_iff_exists'.mp fun h => hm (Option.isNone_iff_eq_none.mpr h)
      rw [he, Option.map_some, UnitEntry.polled, hm, Option.getD_some, ← hm]
  · next he => rw [he, Option.map_none]

/-- The entry of a unit while another is polled. -/
theorem units_pollUnit_ne (huv : u ≠ v) : (s.pollUnit v).flc.units.get u = s.flc.units.get u := by
  unfold State.pollUnit
  split
  · split
    · exact units_giveMark_ne huv
    · rfl
  · rfl

/-- The units of a list polled. -/
theorem foldl_pollUnit (l : List UnitIx) (s : State) :
    MarksOnly s (l.foldl State.pollUnit s) ∧ ∀ u, s.flc.visitTo u = none →
      (l.foldl State.pollUnit s).flc.units.get u =
        if u ∈ l then (s.flc.units.get u).map (·.polled s.now) else s.flc.units.get u := by
  induction l generalizing s with
  | nil => exact ⟨.refl, fun u _ => rfl⟩
  | cons v l ih =>
    have hstep := marksOnly_pollUnit s v
    have hnow : (s.pollUnit v).now = s.now := by
      have h := congrArg State.now hstep.same
      exact h
    obtain ⟨hrest, hunits⟩ := ih (s.pollUnit v)
    refine ⟨hstep.trans hrest, fun u hu => ?_⟩
    rw [List.foldl_cons, hunits u (hstep.unvisited u hu), hnow]
    by_cases huv : u = v
    · subst huv
      rw [units_pollUnit_self hu, polled_polled, ite_self, if_pos List.mem_cons_self]
    · rw [units_pollUnit_ne huv]
      simp only [List.mem_cons, huv, false_or]

/-- The poll timer's expiry on a line in use marks every unit to which no visit is in flight. -/
theorem exec_pollTimerExpiry_of_busy (hrun : s.inReset = false) (htimer : s.flc.pollTimer ≠ none) (hbusy : s.flc.tx ≠ none) :
    ∃ t, exec .pollTimerExpiry s = .next t ∧
      t = { s with flc := { s.flc with
        pollTimer := some (s.param .pollPeriod * 1000), units := t.flc.units, tx := t.flc.tx } } ∧
      ∀ u, s.flc.visitTo u = none → t.flc.units.get u = (s.flc.units.get u).map (·.polled s.now) := by
  obtain ⟨hmarks, hunits⟩ := foldl_pollUnit allUnits
    { s with flc := { s.flc with pollTimer := some (s.param .pollPeriod * 1000) } }
  obtain ⟨t, ht⟩ : ∃ t, allUnits.foldl State.pollUnit
    { s with flc := { s.flc with pollTimer := some (s.param .pollPeriod * 1000) } } = t := ⟨_, rfl⟩
  rw [ht] at hmarks hunits
  have harbitrate : t.arbitrate = t := by rw [State.arbitrate, State.onFlc, arbitrate_of_busy (hmarks.busy hbusy)]
  refine ⟨t, ?_, hmarks.same, fun u hu => (hunits u hu).trans (if_pos (List.mem_finRange u))⟩
  show execPollTimerExpiry s = _
  rw [execPollTimerExpiry, event_of_running hrun, if_pos (Option.isSome_iff_ne_none.mpr htimer)]
  exact congrArg Host.Outcome.next ((congrArg State.arbitrate ht).trans harbitrate)

end

/-! ## The outcome of a visit (R147, R148) -/

section
variable {s : State} {v : Visit} {e : UnitEntry} {put : UnitEntry → State} (hd : v.dropped = false)
  (he : s.flc.units.get v.unit = some e)
  (hput : ∀ e', put e' = { s with flc := { s.flc with tx := none, units := s.flc.units.set v.unit (some e') } })
include hd he hput

/-- A visit whose entry stands ends by what becomes of the entry. -/
theorem visitEnd_of_entry (success : Bool) {e' : UnitEntry} {moved : Bool}
    (h : (if success then e.visitOk v else e.visitFailed v s.now) = (e', moved)) :
    s.visitEnd v success = if moved then (put e').raise .unitReach else put e' := by
  have hentry : v.entry { s.flc with tx := none } = some e := (if_neg (ne_true_of_eq_false hd)).trans he
  rw [hput]
  simp only [State.visitEnd, State.onFlc, hentry, h] <;> rfl

/-- What a visit's outcome makes of an entry that stands. -/
theorem visitEnd_outcomes :
    (e.reach = .present → s.visitEnd v true = put { e with failures := 0, mark := v.after }) ∧
    (e.reach ≠ .present → s.visitEnd v true =
      (put { e with failures := 0, mark := v.after, reach := .present, owed := none }).raise .unitReach) ∧
    (v.before = none → v.after = none →
      (e.reach ≠ .missing → e.failures < 2 →
        s.visitEnd v false = put { e with failures := e.failures + 1, mark := some ⟨v.cls, s.now⟩ }) ∧
      (e.reach ≠ .missing → 2 ≤ e.failures →
        s.visitEnd v false = (put { e with
          failures := 3, reach := .missing, mark := none
          owed := if v.cls = .routine then none else some v.cls }).raise .unitReach) ∧
      (e.reach = .missing → s.visitEnd v false = put { e with mark := none })) ∧
    (e.reach ≠ .missing → e.failures < 2 → ∀ m, v.before = some m → v.after = none →
      s.visitEnd v false = put { e with
        failures := e.failures + 1
        mark := some (if m.cls.rank < v.cls.rank then ⟨v.cls, m.time⟩ else m) }) := by
  have hend := @visitEnd_of_entry s v e put hd he hput
  refine ⟨fun hr => ?_, fun hr => ?_, fun hb ha => ⟨fun hr hf => ?_, fun hr hf => ?_, fun hr => ?_⟩,
    fun hr hf m hb ha => ?_⟩
  · refine hend true (moved := false) ?_
    simp only [if_true, UnitEntry.visitOk, hr]
  · refine hend true (moved := true) ?_
    simp only [if_true, UnitEntry.visitOk, hr, if_false]
  · refine hend false (moved := false) ?_
    simp only [Bool.false_eq_true, if_false, UnitEntry.visitFailed, hr, hf, if_true, hb, ha] <;> rfl
  · refine hend false (moved := true) ?_
    simp only [Bool.false_eq_true, if_false, UnitEntry.visitFailed, hr, Nat.not_lt.mpr hf, hb, ha] <;> rfl
  · refine hend false (moved := false) ?_
    simp only [Bool.false_eq_true, if_false, UnitEntry.visitFailed, hr, if_true, hb, ha] <;> rfl
  · refine hend false (moved := false) ?_
    simp only [Bool.false_eq_true, if_false, UnitEntry.visitFailed, hr, hf, if_true, hb, ha, combineMarks, combineMark]
    split <;> rfl

end

/-! ## Ends without presence (R118, R126, R132) -/

section
variable {s : State} (hrun : s.inReset = false)
include hrun

/-- A broadcast ends, with presence or without. -/
theorem exec_ends_broadcast {p : PhaseReached} (htx : s.flc.tx = some (.broadcast p)) :
    exec .broadcastEnd s = .next { s with flc := { s.flc with tx := none }.arbitrate } ∧
    exec .noPresence s = .next { s with flc := { s.flc with tx := none }.arbitrate } := by
  constructor
  · show execBroadcastEnd s = _
    simp only [execBroadcastEnd, event_of_running hrun, htx] <;> rfl
  · show execNoPresence s = _
    simp only [execNoPresence, event_of_running hrun, State.noPresence, htx] <;> rfl

/-- A seek ends without presence. -/
theorem exec_noPresence_seek {owner : SeekOwner} {p : PhaseReached} (htx : s.flc.tx = some (.seek owner p)) :
    exec .noPresence s = .next (s.seekDone owner .noPresence).arbitrate := by
  show execNoPresence s = _
  simp only [execNoPresence, event_of_running hrun, State.noPresence, htx]

/-- A visit ends without presence before any block. -/
theorem exec_noPresence_visit {v : Visit} (htx : s.flc.tx = some (.visit v)) (hb : v.begun = false) :
    exec .noPresence s = .next (s.visitEnd v false).arbitrate := by
  show execNoPresence s = _
  simp only [execNoPresence, event_of_running hrun, State.noPresence, htx, hb, Bool.false_eq_true, if_false]

end

/-- Settles O43: the poll by a fold over the units, the ends by the transaction in flight, the visit by its entry. -/
theorem lineEventsAndVisitOutcomes : Obligations.LineEventsAndVisitOutcomes := by
  refine ⟨fun s hrun => ⟨exec_pollTimerExpiry_of_busy hrun, fun htimer => ?_, fun p => exec_ends_broadcast hrun,
    fun p => exec_noPresence_seek hrun, fun p => exec_noPresence_seek hrun, fun v => exec_noPresence_visit hrun⟩,
    fun s v e put hd he hput => visitEnd_outcomes hd he hput⟩
  exact event_is hrun (if_pos (Option.isSome_iff_ne_none.mpr htimer))

end Sys2Proof.Machine
end

section
/-! SUPPORT. The end of a seek at its owner (R133, R140, R144). -/

namespace Sys2Proof.Machine

-- each theorem's proof is checked before the next begins, so that few threads are needed
set_option Elab.async false

section
variable {s : State} {x : Identity} {fork : Option Nat} {readings : List Reading}

/-! ## The enrolment's seek (R140) -/

/-- An identity that has an entry or stands in the found list is skipped. -/
theorem enrolTake_of_known (h : (∃ u e, s.flc.units.get u = some e ∧ e.identity = x) ∨ x ∈ s.flc.found) :
    s.enrolTake x fork = s.enrolNext fork := by
  refine if_pos ?_
  rcases h with ⟨u, e, he, hx⟩ | h
  · cases hu : s.flc.unitOf x with
    | none => exact absurd hx (unitOf_none hu he)
    | some v => rfl
  · rw [List.contains_iff_mem.mpr h, Bool.or_true]

section
variable (hnew : ∀ u e, s.flc.units.get u = some e → e.identity ≠ x) (hfound : x ∉ s.flc.found)
include hnew hfound

/-- The test that skips an identity, for a new one. -/
theorem enrolTake_test : ((s.flc.unitOf x).isSome || s.flc.found.contains x) = false := by
  rw [unitOf_of_absent hnew, Bool.eq_false_iff.mpr fun h => hfound (List.contains_iff_mem.mp h)]
  rfl

/-- A new identity is placed in the found list. -/
theorem enrolTake_of_new (hroom : s.flc.found.length < 8) : s.enrolTake x fork =
    ({ s with flc := { s.flc with found := placeFound x s.flc.found } } : State).enrolNext fork :=
  (if_neg (ne_true_of_eq_false (enrolTake_test hnew hfound))).trans (if_neg (Nat.not_le.mpr hroom))

/-- A new identity that finds the list full ends the enrolment, with more set. -/
theorem enrolTake_of_full (hfull : 8 ≤ s.flc.found.length) : s.enrolTake x fork =
    ({ s with flc := { s.flc with enrol := { s.flc.enrol with more := true } } } : State).endEnrolment .full :=
  (if_neg (ne_true_of_eq_false (enrolTake_test hnew hfound))).trans (if_pos hfull)

end

/-- The series goes on while a zero-chosen fork was recorded. -/
theorem enrolNext_of_fork (h : fork ≠ none) : s.enrolNext fork = s := if_pos (Option.isSome_iff_ne_none.mpr h)

/-! ## The sweep's seek (R144) -/

/-- A mark given leaves the sweep. -/
theorem giveMark_withSweep (f : Flc) (w : Sweep) (now : Nat) (cls : MarkClass) (u : UnitIx) :
    { f with sweep := w }.giveMark now cls u = { f.giveMark now cls u with sweep := w } := by
  have hvisit : { f with sweep := w }.visitTo u = f.visitTo u := rfl
  unfold Flc.giveMark
  rw [hvisit]
  cases f.units.get u with
  | none => rfl
  | some e => cases f.visitTo u <;> rfl

/-- What a sweep's seek makes of the unit table: a found unit that has an entry is marked DEMAND. -/
def Flc.Swept (f : Flc) (now : Nat) (x : Identity) (g : Flc) : Prop :=
  ((∀ u e, f.units.get u = some e → e.identity ≠ x) ∧ g = f) ∨
    (∃ u e, f.units.get u = some e ∧ e.identity = x ∧
      (∀ v e', f.units.get v = some e' → e'.identity = x → v = u) ∧ g = f.giveMark now .demand u)

/-- The sweep's seek that finds an identity: counted, its unit marked, the sweep going on or ended. -/
theorem sweepSeek_ok {g : Flc} (h : s.flc.Swept s.now x g) :
    s.sweepSeek (.ok x fork) =
      if fork.isSome && s.flc.sweep.found + 1 < sweepSeeks then
        { s with flc := { g with sweep := { s.flc.sweep with found := s.flc.sweep.found + 1 } } }
      else
        ({ s with flc := { g with sweep := { s.flc.sweep with found := s.flc.sweep.found + 1 } } } : State).endSweep := by
  rcases h with ⟨hnew, rfl⟩ | ⟨u, e, he, hx, hone, rfl⟩
  · have hunit : { s.flc with sweep := { s.flc.sweep with found := s.flc.sweep.found + 1 } }.unitOf x = none :=
      unitOf_of_absent hnew
    simp only [State.sweepSeek, State.onFlc, hunit]
  · have hunit : { s.flc with sweep := { s.flc.sweep with found := s.flc.sweep.found + 1 } }.unitOf x = some u :=
      unitOf_of_unique he hx hone
    simp only [State.sweepSeek, State.onFlc, hunit, State.giveMark, giveMark_withSweep]

/-! ## The seek's end (R132, R133) -/

/-- The end of a seek, by its owner. -/
theorem exec_seekEnd_of {owner : SeekOwner} {p : PhaseReached} {outcome : SeekOutcome} (hrun : s.inReset = false)
    (htx : s.flc.tx = some (.seek owner p)) (hseek : seek (s.flc.seriesOf owner) readings = outcome) :
    exec (.seekEnd readings) s = .next (s.seekDone owner outcome).arbitrate := by
  show execSeekEnd readings s = _
  simp only [execSeekEnd, event_of_running hrun, htx, hseek]

/-- A first reading (1,1) means that no unit takes part (R132). -/
theorem seek_of_silent (k : Series) (rest : List Reading) : seek k (⟨true, true⟩ :: rest) = .none := rfl

/-- The enrolment's series after a seek that found an identity. -/
def State.enrolFound (s : State) (x : Identity) (fork : Option Nat) : State :=
  { s with flc := { s.flc with
    tx := none, enrol := { s.flc.enrol with series := ⟨some x, fork.or s.flc.enrol.series.lastFork⟩ } } }

/-- The sweep's series after a seek that found an identity. -/
def State.sweepFound (s : State) (x : Identity) (fork : Option Nat) : State :=
  { s with flc := { s.flc with
    tx := none, sweep := { s.flc.sweep with series := ⟨some x, fork.or s.flc.sweep.series.lastFork⟩ } } }

end

section
variable {s : State} {x : Identity} {fork : Option Nat} {readings : List Reading} {p : PhaseReached}
  (hrun : s.inReset = false)
include hrun

section
variable (htx : s.flc.tx = some (.seek .enrolment p))
include htx

/-- An enrolment's seek that found an identity. -/
theorem exec_seekEnd_enrolment_ok (hseek : seek s.flc.enrol.series readings = .ok x fork) {t : State}
    (h : (s.enrolFound x fork).enrolTake x fork = t) : exec (.seekEnd readings) s = .next t.arbitrate :=
  (exec_seekEnd_of hrun htx hseek).trans (congrArg (fun t => Host.Outcome.next (State.arbitrate t)) h)

/-- An enrolment's seek that found none, or a line error, ends it so. -/
theorem exec_seekEnd_enrolment_ends {ended : EnrolEnd}
    (h : (seek s.flc.enrol.series readings = .none ∧ ended = .none) ∨
      (seek s.flc.enrol.series readings = .lineError ∧ ended = .lineError)) :
    exec (.seekEnd readings) s = .next { s with
      flc := { s.flc with tx := none, enrol := { s.flc.enrol with running := false, ended } }.arbitrate
      rqp := { s.rqp with latched := s.rqp.latched ||| Cause.enrolDone.bit } } := by
  rcases h with ⟨hseek, rfl⟩ | ⟨hseek, rfl⟩ <;> exact exec_seekEnd_of hrun htx hseek

end

section
variable (htx : s.flc.tx = some (.seek .sweep p))
include htx

/-- A sweep's seek that found none, or a line error, closes the sweep. -/
theorem exec_seekEnd_sweep_ends (h : seek s.flc.sweep.series readings = .none ∨ seek s.flc.sweep.series readings = .lineError) :
    exec (.seekEnd readings) s = .next { s with flc := { s.flc with
      tx := none, sweep := { s.flc.sweep with isOpen := false }
      sweepTimer := some (s.param .sweepPeriod * 1000) }.arbitrate } := by
  rcases h with hseek | hseek <;> exact exec_seekEnd_of hrun htx hseek

/-- A sweep's seek that found an identity closes the sweep without a fork, or as its 32nd; else the sweep goes on. -/
theorem exec_seekEnd_sweep_ok (hseek : seek s.flc.sweep.series readings = .ok x fork) {f : Flc}
    (hf : { s.flc with tx := none }.Swept s.now x f) :
    ((fork = none ∨ 31 ≤ s.flc.sweep.found) → exec (.seekEnd readings) s = .next { s with flc := { f with
      sweep := { isOpen := false, series := ⟨some x, fork.or s.flc.sweep.series.lastFork⟩, found := s.flc.sweep.found + 1 }
      sweepTimer := some (s.param .sweepPeriod * 1000) }.arbitrate }) ∧
    (fork ≠ none → s.flc.sweep.found < 31 → exec (.seekEnd readings) s = .next { s with flc :=
      { f with sweep := { s.flc.sweep with
        series := ⟨some x, fork.or s.flc.sweep.series.lastFork⟩, found := s.flc.sweep.found + 1 } }.arbitrate }) := by
  have hswept : (s.sweepFound x fork).flc.Swept s.now x
      { f with sweep := (s.sweepFound x fork).flc.sweep } := by
    rcases hf with ⟨hnew, rfl⟩ | ⟨u, e, he, hx, hone, rfl⟩
    · exact .inl ⟨hnew, rfl⟩
    · exact .inr ⟨u, e, he, hx, hone, (giveMark_withSweep ..).symm⟩
  have hexec := (exec_seekEnd_of hrun htx hseek).trans
    (congrArg (fun t => Host.Outcome.next (State.arbitrate t)) (sweepSeek_ok (fork := fork) hswept))
  refine ⟨fun h => hexec.trans ?_, fun hfork hlt => hexec.trans ?_⟩
  · rw [if_neg]
    · rfl
    · rw [Bool.and_eq_true, Option.isSome_iff_ne_none, decide_eq_true_iff]
      rintro ⟨hne, hlt⟩
      exact h.elim hne fun h31 => absurd (Nat.lt_of_succ_lt_succ hlt) (Nat.not_lt.mpr h31)
  · rw [if_pos]
    · rfl
    · rw [Bool.and_eq_true, Option.isSome_iff_ne_none, decide_eq_true_iff]
      exact ⟨hfork, Nat.succ_lt_succ hlt⟩

end

end

/-- Settles O46: the seek's outcome at its owner, the enrolment's identity known or new, the sweep's unit marked or absent. -/
theorem seekEndUpdatesItsSeries : Obligations.SeekEndUpdatesItsSeries := by
  intro s readings x fork hrun
  refine ⟨?_, ?_, fun rest k h => h ▸ seek_of_silent k rest⟩
  · rintro p k k' raised htx rfl rfl rfl
    have hok := fun hseek {t} => exec_seekEnd_enrolment_ok (x := x) (fork := fork) (readings := readings) (t := t) hrun htx hseek
    refine ⟨fun hseek hnew hfound hroom => ⟨placeFound x s.flc.found, placeFound_perm .., fun hasc => placeFound_ascending hasc hfound,
      fun hfork => ?_, fun hfork => ?_⟩, fun hseek hnew hfound hfull => ?_, fun hseek hknown => ⟨fun hfork => ?_, fun hfork => ?_⟩,
      fun ended => exec_seekEnd_enrolment_ends hrun htx⟩
    · exact hok hseek ((enrolTake_of_new (s := s.enrolFound x fork) hnew hfound hroom).trans (enrolNext_of_fork hfork))
    · subst hfork
      exact hok hseek (enrolTake_of_new (s := s.enrolFound x none) hnew hfound hroom)
    · exact hok hseek (enrolTake_of_full (s := s.enrolFound x fork) hnew hfound hfull)
    · exact hok hseek ((enrolTake_of_known (s := s.enrolFound x fork) hknown).trans (enrolNext_of_fork hfork))
    · subst hfork
      exact hok hseek (enrolTake_of_known (s := s.enrolFound x none) hknown)
  · rintro p w k' f htx rfl rfl
    exact ⟨exec_seekEnd_sweep_ends hrun htx, fun hseek hf => exec_seekEnd_sweep_ok hrun htx hseek hf⟩

end Sys2Proof.Machine
end

section
/-! SUPPORT. SET_PARAM: the value stored, the parameters moved, the ballast and the gate (R82, R98, R185, R186). -/

namespace Sys2Proof.Machine

-- each theorem's proof is checked before the next begins, so that few threads are needed
set_option Elab.async false

/-! ## Parameters by number (Table 11-10) -/

/-- A parameter's number names it, and no other number does. -/
theorem param_ofNumber_iff (n : Nat) (p : Param) : Param.ofNumber n = some p ↔ p.number = n := by
  constructor
  · intro h
    by_cases hn : n - 1 < 34
    · have hpos : n ≠ 0 := by
        rintro rfl
        cases h
      have hall : ∀ k : Fin 34, ∀ q, Param.all[k.val]? = some q → q.index.val = k.val := by decide
      rw [Param.ofNumber, if_neg hpos] at h
      have hix := hall ⟨n - 1, hn⟩ p h
      rw [Param.number, hix]
      exact Nat.succ_pred_eq_of_ne_zero hpos
    · have hpos : n ≠ 0 := by omega
      rw [Param.ofNumber, if_neg hpos, List.getElem?_eq_none (Nat.not_lt.mp hn)] at h
      cases h
  · rintro rfl
    cases p <;> rfl

/-- A number that is 0 or above 34 names none. -/
theorem param_ofNumber_none {n : Nat} (h : n = 0 ∨ 34 < n) : Param.ofNumber n = none := by
  rcases hp : Param.ofNumber n with _ | p
  · rfl
  · have hn := (param_ofNumber_iff n p).mp hp
    have hlt := p.index.isLt
    have h34 : Config.params = 34 := rfl
    unfold Param.number at hn
    omega

/-- A parameter's bytes in a payload. -/
theorem paramBytes_eq (v : Params) (p : Param) : paramBytes v p =
    [BitVec.ofNat 8 p.number, BitVec.ofNat 8 (v.get p / 256), BitVec.ofNat 8 (v.get p)] := by
  rw [paramBytes, beBytes_one, beBytes_two]
  rfl

/-! ## What the cross-limits move (R186) -/

section
variable {v : Params} {p q : Param} {x : Nat}

/-- A parameter does not move itself. -/
theorem self_notMem_movable (p : Param) : p ∉ p.movable := by
  cases p <;> decide

/-- Only three parameters move others. -/
theorem movable_cases (h : q ∈ p.movable) :
    (p = .fSet ∧ q = .fTrip) ∨ (p = .fSet ∧ q = .fFloor) ∨ (p = .shedBand ∧ q = .fFloor) ∨
      (p = .trimHighPct ∧ q = .trimLowPct) := by
  cases p <;> simp [Param.movable] at h ⊢ <;> exact h

/-- The parameter named holds the value stored. -/
theorem setParams_get_self (v : Params) (p : Param) (x : Nat) : (setParams v p x).get p = storedValue v p x := by
  have hfold : ∀ (ps : List Param) (w : Params), p ∉ ps → (applyLimits w ps).get p = w.get p := by
    intro ps
    induction ps with
    | nil => exact fun w _ => rfl
    | cons a ps ih =>
      intro w hnot
      rw [List.mem_cons, not_or] at hnot
      exact (ih _ hnot.2).trans (Params.get_put_ne _ _ hnot.1)
  exact (hfold p.movable _ (self_notMem_movable p)).trans (Params.get_put_self ..)

/-- Every other parameter after SET_PARAM, by R186's table. -/
theorem setParams_get_other (hv : v.inRange) (hq : q ≠ p) : (setParams v p x).get q =
    if p = .fSet ∧ q = .fTrip then max (v.get .fTrip) (storedValue v p x + 100)
    else if p = .fSet ∧ q = .fFloor then min (v.get .fFloor) (storedValue v p x - v.get .shedBand)
    else if p = .shedBand ∧ q = .fFloor then min (v.get .fFloor) (v.get .fSet - storedValue v p x)
    else if p = .trimHighPct ∧ q = .trimLowPct then min (v.get .trimLowPct) (storedValue v p x - 5)
    else v.get q := by
  by_cases hm : q ∈ p.movable
  · rcases movable_cases hm with ⟨rfl, rfl⟩ | ⟨rfl, rfl⟩ | ⟨rfl, rfl⟩ | ⟨rfl, rfl⟩
    all_goals
      simp only [setParams_fSet, setParams_shedBand, setParams_trimHighPct, Params.get_put, reduceCtorEq, if_false, if_true,
        and_self, and_false, false_and, Param.clamp_of_inRange (hv _), storedValue]
  · have hnot : ∀ {a b : Param}, b ∈ a.movable → ¬ (p = a ∧ q = b) := by
      rintro a b hb ⟨rfl, rfl⟩
      exact hm hb
    rw [setParams_get_of_ne v x hq hm, if_neg (hnot (by decide)), if_neg (hnot (by decide)), if_neg (hnot (by decide)),
      if_neg (hnot (by decide))]

/-- No parameter was moved exactly when every other one stayed. -/
theorem movedParam_eq_none_iff :
    movedParam v (setParams v p x) p = none ↔ ∀ q, q ≠ p → (setParams v p x).get q = v.get q := by
  rw [movedParam, List.find?_eq_none]
  constructor
  · intro h q hq
    by_cases hm : q ∈ p.movable
    · exact (not_ne_iff.mp fun hne => h q hm (bne_iff_ne.mpr hne)).symm
    · exact setParams_get_of_ne v x hq hm
  · intro h q hm
    have hq : q ≠ p := fun he => self_notMem_movable p (he ▸ hm)
    simp [h q hq]

/-- The parameter moved is another one that changed; the floor is named only where f_trip stayed. -/
theorem movedParam_some (h : movedParam v (setParams v p x) p = some q) :
    q ≠ p ∧ (setParams v p x).get q ≠ v.get q ∧
      (p = .fSet → q = .fFloor → (setParams v p x).get .fTrip = v.get .fTrip) := by
  have hm := List.mem_of_find?_eq_some h
  have hne := List.find?_some h
  refine ⟨fun he => self_notMem_movable p (he ▸ hm), fun he => by simp [he] at hne, ?_⟩
  rintro rfl rfl
  by_contra htrip
  have hfound : movedParam v (setParams v .fSet x) .fSet = some .fTrip :=
    List.find?_cons_of_pos (bne_iff_ne.mpr (Ne.symm htrip))
  exact absurd (hfound.symm.trans h) nofun

end

/-! ## The effect on the blocks (R82, R98) -/

section
variable (s : State) (p : Param) (x : Nat)

/-- The parameter as SET_PARAM stores it, in the state. -/
theorem param_stored : (s.onParams fun v => setParams v p x).param p = storedValue s.params p x := setParams_get_self ..

/-- SET_PARAM changes the parameters and the governor alone. -/
theorem paramSet_eq : s.paramSet p x = { s with params := setParams s.params p x, gov := (s.paramSet p x).gov } := by
  simp only [State.paramSet]
  split
  · rfl
  · split
    · rfl
    · split
      · unfold State.spanChanged
        split <;> rfl
      · rfl

variable {p x}

/-- An unchanged value leaves the governor. -/
theorem paramSet_gov_of_same (h : storedValue s.params p x = s.param p) : (s.paramSet p x).gov = s.gov := by
  simp only [State.paramSet, param_stored, h, if_true]
  rfl

/-- A parameter that is neither B_cap nor gate_span leaves the governor. -/
theorem paramSet_gov_of_other (hb : p ≠ .bCap) (hg : p ≠ .gateSpan) : (s.paramSet p x).gov = s.gov := by
  simp only [State.paramSet, hb, hg, if_false, ite_self]
  rfl

/-- A changed B_cap cuts the accumulator to the bank (R82). -/
theorem paramSet_gov_bCap (h : storedValue s.params .bCap x ≠ s.param .bCap) : (s.paramSet .bCap x).gov =
    s.gov.setBallast (setParams s.params .bCap x) (min s.gov.bAcc (16 * storedValue s.params .bCap x)) := by
  simp only [State.paramSet, param_stored, h, if_false, if_true, State.capChanged]
  rfl

/-- A gate_span lowered below the position cuts the position to it (R98). -/
theorem paramSet_gov_gateSpan_below (h : storedValue s.params .gateSpan x ≠ s.param .gateSpan)
    (hlt : storedValue s.params .gateSpan x < s.gov.gatePos) : (s.paramSet .gateSpan x).gov =
      { s.gov with gatePos := storedValue s.params .gateSpan x, gateValid := false } := by
  simp only [State.paramSet, param_stored, h, reduceCtorEq, if_false, if_true, State.spanChanged, onParams_gov, hlt]
  rfl

/-- A gate_span at or above the position leaves the governor (R98). -/
theorem paramSet_gov_gateSpan_above (hle : s.gov.gatePos ≤ storedValue s.params .gateSpan x) :
    (s.paramSet .gateSpan x).gov = s.gov := by
  simp only [State.paramSet, param_stored, reduceCtorEq, if_false, State.spanChanged, onParams_gov,
    Nat.not_lt.mpr hle, ite_self]

end

/-- A changed gate_span acts the same at a port cleared of its overrun. -/
theorem spanChanged_cleared (s : State) : s.cleared.spanChanged = s.spanChanged.cleared := by
  by_cases hlt : s.param .gateSpan < s.gov.gatePos
  · rw [State.spanChanged, State.spanChanged, if_pos hlt]
    exact if_pos hlt
  · rw [State.spanChanged, State.spanChanged, if_neg hlt]
    exact if_neg hlt

/-- SET_PARAM's effect at a port cleared of its overrun. -/
theorem paramSet_cleared (s : State) (p : Param) (x : Nat) : s.cleared.paramSet p x = (s.paramSet p x).cleared := by
  by_cases hsame : storedValue s.params p x = s.param p
  · simp only [State.paramSet, param_stored, if_pos hsame, if_pos (show storedValue s.cleared.params p x = s.cleared.param p from hsame)]
    rfl
  · simp only [State.paramSet, param_stored, if_neg hsame, if_neg (show ¬ storedValue s.cleared.params p x = s.cleared.param p from hsame)]
    split
    · rfl
    · split
      · exact spanChanged_cleared (s.onParams fun v => setParams v p x)
      · rfl

/-! ## SET_PARAM's answer (R185) -/

section
variable {s : State} (h : s.Ready) {number : Byte} {value : Half} {p : Param} (hp : p.number = number.toNat)
include h hp

/-- SET_PARAM that moves no other parameter. -/
theorem exec_setParam_unmoved (hm : movedParam s.params (setParams s.params p value.toNat) p = none) :
    exec (.setParam number value) s = .next ((s.paramSet p value.toNat).answered
      (if storedValue s.params p value.toNat = value.toNat then .done else .clamped)
      (paramBytes (setParams s.params p value.toNat) p)) := by
  refine request_answers (t := s.paramSet p value.toNat) h ?_
  have hnum := (param_ofNumber_iff _ _).mpr hp
  have hparams : (s.paramSet p value.toNat).params = setParams s.params p value.toNat := by rw [paramSet_eq]
  have hmoved : movedParam s.cleared.params (s.paramSet p value.toNat).cleared.params p = none :=
    (congrArg (fun v => movedParam s.params v p) hparams).trans hm
  have hget : (s.paramSet p value.toNat).cleared.param p = storedValue s.params p value.toNat :=
    (congrArg (fun v => Params.get v p) hparams).trans (setParams_get_self ..)
  simp only [hnum, paramSet_cleared, hmoved, hget]
  exact congrArg (fun v => (_, (⟨_, paramBytes v p⟩ : Answer))) hparams

/-- SET_PARAM that moves another parameter names the first moved. -/
theorem exec_setParam_moved {q : Param} (hm : movedParam s.params (setParams s.params p value.toNat) p = some q) :
    exec (.setParam number value) s = .next ((s.paramSet p value.toNat).answered .clamped
      (paramBytes (setParams s.params p value.toNat) p ++ paramBytes (setParams s.params p value.toNat) q)) := by
  refine request_answers (t := s.paramSet p value.toNat) h ?_
  have hnum := (param_ofNumber_iff _ _).mpr hp
  have hparams : (s.paramSet p value.toNat).params = setParams s.params p value.toNat := by rw [paramSet_eq]
  have hmoved : movedParam s.cleared.params (s.paramSet p value.toNat).cleared.params p = some q :=
    (congrArg (fun v => movedParam s.params v p) hparams).trans hm
  simp only [hnum, paramSet_cleared, hmoved]
  exact congrArg (fun v => (_, (⟨_, paramBytes v p ++ paramBytes v q⟩ : Answer))) hparams

end

/-- A row of Table 11-10 (number, parameter, least, greatest, default) is the model's. -/
def rowHolds (row : Nat × Param × Nat × Nat × Nat) : Bool :=
  row.2.1.number == row.1 && row.2.1.range == (row.2.2.1, row.2.2.2.1) && row.2.1.default == row.2.2.2.2

/-- What a row that holds says. -/
theorem of_rowsHold {rows : List (Nat × Param × Nat × Nat × Nat)} (h : rows.all rowHolds = true) {n lo hi default : Nat}
    {p : Param} (hrow : (n, p, lo, hi, default) ∈ rows) :
    p.number = n ∧ p.range = (lo, hi) ∧ Params.defaults.get p = default := by
  have hone := List.all_eq_true.mp h _ hrow
  simp only [rowHolds, Bool.and_eq_true, beq_iff_eq] at hone
  obtain ⟨⟨hnumber, hrange⟩, hdefault⟩ := hone
  exact ⟨hnumber, hrange, (Params.defaults_get p).trans hdefault⟩

/-- Settles O57: the stored value, the moves by R186's table, and the two parameters that act at once. -/
theorem setParamClampsAndLimits : Obligations.SetParamClampsAndLimits := by
  refine ⟨fun s number value h => ⟨fun hn => ?_, fun p x hp hok hx => ?_⟩, ?_, param_ofNumber_iff⟩
  · refine request_answers (t := s) h ?_
    simp only [param_ofNumber_none hn]
    rfl
  · obtain rfl : x = storedValue s.params p value.toNat := by
      rw [hx]
      cases p <;> rfl
    have hself := setParams_get_self s.params p value.toNat
    have hnumber : BitVec.ofNat 8 p.number = number := by rw [hp, BitVec.ofNat_toNat, BitVec.setWidth_eq]
    obtain ⟨code, payload, hexec, hquiet, hloud⟩ : ∃ (code : ResultCode) (payload : List Byte),
        exec (.setParam number value) s = .next ((s.paramSet p value.toNat).answered code payload) ∧
        (movedParam s.params (setParams s.params p value.toNat) p = none →
          code = (if storedValue s.params p value.toNat = value.toNat then .done else .clamped) ∧
          payload = paramBytes (setParams s.params p value.toNat) p) ∧
        ∀ q, movedParam s.params (setParams s.params p value.toNat) p = some q → code = .clamped ∧
          payload = paramBytes (setParams s.params p value.toNat) p ++ paramBytes (setParams s.params p value.toNat) q := by
      rcases hm : movedParam s.params (setParams s.params p value.toNat) p with _ | q
      · exact ⟨_, _, exec_setParam_unmoved h hp hm, fun _ => ⟨rfl, rfl⟩, nofun⟩
      · refine ⟨_, _, exec_setParam_moved h hp hm, nofun, fun q' hq' => ?_⟩
        obtain rfl := Option.some.inj hq'
        exact ⟨rfl, rfl⟩
    rw [paramSet_eq] at hexec
    refine ⟨_, _, code, payload, hexec, hself, fun q hq => setParams_get_other hok.1 hq, fun hsame => ?_, fun ⟨q, hq, hne⟩ => ?_,
      fun hcase => ?_, ?_, ?_, ?_⟩
    · obtain ⟨hcode, hpay⟩ := hquiet (movedParam_eq_none_iff.mpr hsame)
      rw [hpay, paramBytes_eq, hself, hnumber]
      exact ⟨rfl, hcode⟩
    · rcases hm : movedParam s.params (setParams s.params p value.toNat) p with _ | q'
      · exact absurd (movedParam_eq_none_iff.mp hm q hq) hne
      · obtain ⟨hcode, hpay⟩ := hloud q' hm
        obtain ⟨hq', hne', htrip⟩ := movedParam_some hm
        refine ⟨hcode, q', hq', hne', htrip, ?_⟩
        rw [hpay, paramBytes_eq, paramBytes_eq, hself, hnumber]
        rfl
    · exact hcase.elim (fun hne => paramSet_gov_of_other s hne.1 hne.2) (paramSet_gov_of_same s)
    · rintro rfl hne
      rw [paramSet_gov_bCap s hne]
      have hreserve : (setParams s.params .bCap value.toNat).get .reserve = s.param .reserve :=
        setParams_get_of_ne _ _ nofun nofun
      by_cases hreg : s.gov.st = .regulating
      · rw [setBallast_regulating hreg, hself, hreserve]
        simp only [hreg, if_true] <;> rfl
      · rw [setBallast_other hreg]
        simp only [hreg, if_false]
    · rintro rfl hlt hne
      exact paramSet_gov_gateSpan_below s hne hlt
    · rintro rfl hle
      exact paramSet_gov_gateSpan_above s hle
  · exact fun n lo hi default p hrow => of_rowsHold (by decide) hrow

end Sys2Proof.Machine
end

section
/-! SUPPORT. A publication at SAW: the scale, the feed step rate and the stall check (R162, R166). -/

namespace Sys2Proof.Machine

-- each theorem's proof is checked before the next begins, so that few threads are needed
set_option Elab.async false

section
variable {s t : State} {scale : Nat}

/-! ## The stall check (R166) -/

/-- The stall check of a stroke in hand. -/
theorem stallPasses_feeding {k : StrokeRec} (hst : s.saw.st = .feeding) (hk : s.saw.stroke = some k) :
    s.stallPasses = withinStall s.count (expectedCount true k.reference k.done k.countsPerMm k.stepsPerMm)
      (s.param .stallTol) := by
  simp only [State.stallPasses, hst, hk]

/-- The stall check of a return in hand. -/
theorem stallPasses_returning {k : ReturnRec} (hst : s.saw.st = .returning) (hk : s.saw.ret = some k) :
    s.stallPasses = withinStall s.count (expectedCount false k.reference k.issued k.countsPerMm k.stepsPerMm)
      (s.param .stallTol) := by
  simp only [State.stallPasses, hst, hk]

/-- Out of FEEDING and RETURNING there is no stall check. -/
theorem stallPasses_of_ne (hf : s.saw.st ≠ .feeding) (hr : s.saw.st ≠ .returning) : s.stallPasses = true := by
  unfold State.stallPasses
  split
  · next h => exact absurd h hf
  · next h => exact absurd h hr
  all_goals rfl

/-- A count within the tolerance passes. -/
theorem withinStall_of_le {a b : Int} {tol : Nat} (h : (a - b).natAbs ≤ tol) : withinStall a b tol = true :=
  decide_eq_true h

/-- A count farther off does not. -/
theorem withinStall_of_lt {a b : Int} {tol : Nat} (h : tol < (a - b).natAbs) : withinStall a b tol = false :=
  decide_eq_false (Nat.not_le.mpr h)

/-! ## The scale taken (R162) -/

/-- The scale taken, and in FEEDING the feed step rate it commands (R162). -/
def State.scaled (s : State) (scale : Nat) : State :=
  let s := s.onSaw fun w => { w with scale }
  if s.saw.st = .feeding then s.onSaw fun w => w.setFeedRate s.strokeRate else s

/-- A publication at SAW is the scale taken and then the stall check. -/
theorem sawPublication_eq (s : State) (regulating : Bool) (f : Nat) : s.sawPublication regulating f =
    if (s.scaled (if regulating then scaleOf f (s.param .fSet) (s.param .feedBand) else 0)).stallPasses then
      s.scaled (if regulating then scaleOf f (s.param .fSet) (s.param .feedBand) else 0)
    else (s.scaled (if regulating then scaleOf f (s.param .fSet) (s.param .feedBand) else 0)).sawFault .stall := rfl

/-- Out of FEEDING the scale alone changes. -/
theorem scaled_of_ne (h : s.saw.st ≠ .feeding) (scale : Nat) : s.scaled scale = { s with saw := { s.saw with scale } } :=
  if_neg h

/-- In FEEDING the feed step rate follows. -/
theorem scaled_feeding {k : StrokeRec} {o : CutOrder} {rest : List CutOrder} (hst : s.saw.st = .feeding)
    (hk : s.saw.stroke = some k) (ho : s.saw.cuts = o :: rest) {rate : Nat}
    (hrate : rate = min 20000 (feedMmPerS o.ceiling scale (s.param .feedMin) * k.stepsPerMm)) :
    s.scaled scale = { s with saw := { s.saw with
      scale, feedRate := rate
      feed := if rate = 0 then .idle else match s.saw.feed with
        | .idle => .stepping true rate (1000000 / rate)
        | stepping => stepping } } := by
  have hstroke : ({ s with saw := { s.saw with scale } } : State).strokeRate = rate := by
    rw [hrate]
    simp only [State.strokeRate, hk, Saw.headCeiling, ho]
    rfl
  have heq : s.scaled scale = { s with saw := ({ s.saw with scale } : Saw).setFeedRate rate } :=
    (if_pos hst).trans (congrArg (fun x => { s with saw := ({ s.saw with scale } : Saw).setFeedRate x }) hstroke)
  rw [heq, Saw.setFeedRate]
  by_cases hzero : rate = 0
  · cases s.saw.feed <;> simp only [hzero, if_true]
  · cases s.saw.feed <;> simp only [hzero, if_false] <;> rfl

/-- The scale taken is held. -/
theorem scaled_scale (s : State) (scale : Nat) : (s.scaled scale).saw.scale = scale := by
  unfold State.scaled
  dsimp only
  split <;> rfl

/-- The sequencer's state, the stroke and the return stay when a scale is taken. -/
theorem scaled_kept (s : State) (scale : Nat) : (s.scaled scale).saw.st = s.saw.st ∧
    (s.scaled scale).saw.stroke = s.saw.stroke ∧ (s.scaled scale).saw.ret = s.saw.ret ∧
    (s.scaled scale).count = s.count ∧ (s.scaled scale).params = s.params := by
  unfold State.scaled
  dsimp only
  split <;> exact ⟨rfl, rfl, rfl, rfl, rfl⟩

/-- The scale of a publication, by R162's table. -/
theorem scaleOf_cases {f fSet band : Nat} (h1 : fSet ≤ f → scale = 256) (h2 : f ≤ fSet - band → scale = 0)
    (h3 : fSet - band < f → f < fSet → scale = 256 * (f - (fSet - band)) / band) : scaleOf f fSet band = scale := by
  unfold scaleOf
  split
  · next h => exact (h1 h).symm
  · next h =>
    split
    · next h' => exact (h2 h').symm
    · next h' => exact (h3 (Nat.lt_of_not_le h') (Nat.lt_of_not_le h)).symm

/-- A stall of a saw that is not in FAULT. -/
theorem stall_outcome (hst : s.saw.st ≠ .fault) (cause : FaultCause) : (s.sawFault cause).saw.st = .fault ∧
    (s.sawFault cause).saw.cause = cause ∧ (s.sawFault cause).saw.feed = .idle := by
  rw [sawFault_saw hst]
  exact ⟨rfl, rfl, rfl⟩

/-- A fault keeps the scale. -/
theorem sawFault_scale (s : State) (cause : FaultCause) : (s.sawFault cause).saw.scale = s.saw.scale := by
  by_cases h : s.saw.st = .fault
  · rw [sawFault_of_fault h]
  · rw [sawFault_saw h]
    rfl

end

/-- Settles O54: the scale by its table, then the stall check of the state that the scale leaves. -/
theorem publicationScalesTheFeed : Obligations.PublicationScalesTheFeed := by
  rintro s t regulating f scale rfl - - hstop hfull hnone hpart
  have hscale : (if regulating then scaleOf f (s.param .fSet) (s.param .feedBand) else 0) = scale := by
    cases regulating
    · exact (hstop rfl).symm
    · exact scaleOf_cases (hfull rfl) (hnone rfl) (hpart rfl)
  rw [sawPublication_eq, hscale]
  obtain ⟨hst, hstroke, hret, hcount, hparams⟩ := scaled_kept s scale
  have htol : (s.scaled scale).param .stallTol = s.param .stallTol := congrArg (fun v => Params.get v .stallTol) hparams
  refine ⟨?_, fun hf hr => ?_, fun k o rest mm rate hf hk ho hmm hrate => ⟨fun hin => ?_, fun hout => ?_⟩,
    fun k hr hk => ⟨fun hin => ?_, fun hout => ?_⟩⟩
  · split
    · exact scaled_scale s scale
    · exact (sawFault_scale _ _).trans (scaled_scale s scale)
  · rw [if_pos (stallPasses_of_ne (fun h => hf (hst ▸ h)) fun h => hr (hst ▸ h))]
    exact scaled_of_ne hf scale
  · rw [if_pos ((stallPasses_feeding (hst.trans hf) (hstroke.trans hk)).trans
      (withinStall_of_le (by rw [hcount, htol]; exact hin)))]
    refine scaled_feeding hf hk ho (hrate.trans ?_)
    rw [hmm]
    rfl
  · rw [if_neg (ne_true_of_eq_false ((stallPasses_feeding (hst.trans hf) (hstroke.trans hk)).trans
      (withinStall_of_lt (by rw [hcount, htol]; exact hout))))]
    exact stall_outcome (by rw [hst, hf]; nofun) .stall
  · rw [if_pos ((stallPasses_returning (hst.trans hr) (hret.trans hk)).trans
      (withinStall_of_le (by rw [hcount, htol]; exact hin)))]
    exact scaled_of_ne (by rw [hr]; nofun) scale
  · rw [if_neg (ne_true_of_eq_false ((stallPasses_returning (hst.trans hr) (hret.trans hk)).trans
      (withinStall_of_lt (by rw [hcount, htol]; exact hout))))]
    exact stall_outcome (by rw [hst, hr]; nofun) .stall

end Sys2Proof.Machine
end

section
/-! SUPPORT. The sequencer's acts as single updates: settings, FEED_WAIT, returns and the arrival home (R158 to R165). -/

namespace Sys2Proof.Machine

-- each theorem's proof is checked before the next begins, so that few threads are needed
set_option Elab.async false

section
variable {s t : State} {i : Slot} {r : Allotment} {kind : ReturnKind}

/-! ## Where the carriage and the saw record stand -/

/-- The carriage is home exactly while it is homed with a count of 0. -/
theorem atHome_iff : s.atHome = true ↔ s.inu.homed = true ∧ s.inu.count = 0 := by
  simp [State.atHome]

/-- The carriage is away. -/
theorem atHome_of_away (h : ¬ (s.inu.homed = true ∧ s.inu.count = 0)) : s.atHome = false :=
  Bool.eq_false_iff.mpr fun h' => h (atHome_iff.mp h')

/-- Every saw record trimmed cuts nothing. -/
theorem sawCutting_of_trimmed (h : ∀ i r, s.record i = some r → r.kind = .saw → r.trimmed = true) : s.sawCutting = false := by
  cases hi : s.sawSlot with
  | none => simp only [State.sawCutting, State.sawRecord, hi, Option.bind_none]
  | some i =>
    obtain ⟨r, hr, hk⟩ := sawSlot_some hi
    simp only [State.sawCutting, sawRecord_of_slot hi, hr, h i r hr hk, Bool.not_true, Bool.and_false]

/-- The record in the saw slot trimmed cuts nothing. -/
theorem sawCutting_of_slot_trimmed (hi : s.sawSlot = some i) (hr : s.record i = some r) (ht : r.trimmed = true) :
    s.sawCutting = false := by
  simp only [State.sawCutting, sawRecord_of_slot hi, hr, ht, Bool.not_true, Bool.and_false]

/-- A state entered, whatever the state before (R154). -/
theorem enterSaw_eq (s : State) (st : SawState) : s.enterSaw st = { s with
    saw := { s.saw with st }
    rqp := { s.rqp with latched := if s.saw.st = st then s.rqp.latched else s.rqp.latched ||| Cause.sawState.bit } } := by
  by_cases h : s.saw.st = st
  · rw [enterSaw_of_eq h, if_pos h, ← h]
  · rw [enterSaw_of_ne h, if_neg h]
    rfl

/-! ## FEED_WAIT (R159, R160) -/

/-- FEED_WAIT entered while the saw record does not cut: cut power is wanted. -/
theorem enterFeedWait_of_idle (hcut : s.sawCutting = false) (hnone : s.alt.strict = none) :
    s.enterFeedWait = (s.enterSaw .feedWait).onSaw fun w => { w with setting := none, cutWanted := true } := by
  have hset := setCutWanted_of_none (s := (s.enterSaw .feedWait).onSaw fun w => { w with setting := none }) (want := true)
    (by rw [enterSaw_eq]; exact hnone)
  have hcut' : ((s.enterSaw .feedWait).onSaw fun w => { w with setting := none }).sawCutting = false := by
    rw [enterSaw_eq]
    exact hcut
  unfold State.enterFeedWait
  rw [if_neg (ne_true_of_eq_false hcut'), hset]
  rfl

/-! ## A setting (R159) -/

/-- The SETTLE stage with a settle time. -/
theorem beginSettle_of_time (h : s.param .setSettle ≠ 0) : s.beginSettle = s.onSaw fun w =>
    { w with waitTimer := none, settleTimer := some (s.param .setSettle * 1000)
             setting := w.setting.map fun k => { k with stage := .settle } } := if_neg h

/-- The WAIT stage with SET_DONE inactive. -/
theorem beginSetWait_of_waiting (h : s.active .setDone = false) : s.beginSetWait = s.onSaw fun w =>
    { w with setworks := .idle, waitTimer := some ((s.param .setTimeoutCode + 1) * 16 * 1000)
             setting := w.setting.map fun k => { k with stage := .wait } } := if_neg (ne_true_of_eq_false h)

/-- The WAIT stage with SET_DONE active goes on to SETTLE. -/
theorem beginSetWait_of_done (h : s.active .setDone = true) (hs : s.param .setSettle ≠ 0) : s.beginSetWait = s.onSaw fun w =>
    { w with setworks := .idle, waitTimer := none, settleTimer := some (s.param .setSettle * 1000)
             setting := w.setting.map fun k => { k with stage := .settle } } := by
  refine (if_pos h).trans ((if_neg hs).trans ?_)
  cases hk : s.saw.setting <;> simp only [State.onSaw, hk] <;> rfl

/-- The MOVE stage with steps to issue. -/
theorem beginSetMove_of_pos {n : Nat} (h : n ≠ 0) : s.beginSetMove n = s.onSaw fun w =>
    { w with setting := some { remaining := n, stage := .move }, setworks := .stepping true 2000 500 } := if_neg h

/-! ## A return (R164) -/

/-- The feed step rate of a return. -/
def State.returnRate (s : State) : Nat := min 20000 (s.param .returnRate * s.param .stepsPerMm)

/-- The record of a return begun (R164). -/
def State.returnRec (s : State) (kind : ReturnKind) : ReturnRec :=
  { kind, stepsPerMm := s.param .stepsPerMm, countsPerMm := s.param .encPerMm, reference := s.inu.count, issued := 0
    allowance := (s.saw.headStroke + 500) * s.param .stepsPerMm }

/-- RETURNING entered with its record made, before the carriage is looked at. -/
def State.returnBegun (s : State) (kind : ReturnKind) : State :=
  (s.enterSaw .returning).onSaw fun w => { w with ret := some (s.returnRec kind) }

/-- A return by where the carriage stands. -/
theorem enterReturning_eq (s : State) (kind : ReturnKind) : s.enterReturning kind =
    if s.atHome then (s.returnBegun kind).arriveHome kind
    else if s.active .revLimit then (s.returnBegun kind).sawFault .revLimit
    else (s.returnBegun kind).onSaw fun w =>
      { w with feedRate := s.returnRate, feed := .stepping false s.returnRate (1000000 / s.returnRate) } := by
  simp only [State.enterReturning, State.returnBegun, enterSaw_eq]
  rfl

/-- A return that begins at home arrives at once. -/
theorem enterReturning_of_home (h : s.atHome = true) : s.enterReturning kind = (s.returnBegun kind).arriveHome kind := by
  rw [enterReturning_eq, if_pos h]

/-- A return that begins away, at REV_LIMIT, faults. -/
theorem enterReturning_of_limit (h : ¬ (s.inu.homed = true ∧ s.inu.count = 0)) (hr : s.active .revLimit = true) :
    s.enterReturning kind = (s.returnBegun kind).sawFault .revLimit := by
  rw [enterReturning_eq, if_neg (ne_true_of_eq_false (atHome_of_away h)), if_pos hr]

/-- A return that begins away steps in reverse. -/
theorem enterReturning_of_away (h : ¬ (s.inu.homed = true ∧ s.inu.count = 0)) (hr : s.active .revLimit = false) :
    s.enterReturning kind = (s.enterSaw .returning).onSaw fun w =>
      { w with ret := some (s.returnRec kind), feedRate := s.returnRate
               feed := .stepping false s.returnRate (1000000 / s.returnRate) } := by
  rw [enterReturning_eq, if_neg (ne_true_of_eq_false (atHome_of_away h)), if_neg (ne_true_of_eq_false hr)]
  rfl

/-! ## The end of the spin-up (R158, R168) -/

/-- The spin-up timer stopped and the remembered phase made absent. -/
def State.spun (s : State) : State := { s with saw := { s.saw with spinTimer := none, remembered := none } }

/-- The spin-up's end with a remembered phase. -/
theorem spunUp_of_remembered {phase : Phase} (h : s.saw.remembered = some phase) : s.spunUp = match phase with
    | .setting => s.spun.resumeSetting
    | .feedWait => s.spun.enterFeedWait
    | .returning kind => s.spun.enterReturning kind := by
  simp only [State.spunUp, State.onSaw, h]
  cases phase <;> rfl

/-- The spin-up's end with none. -/
theorem spunUp_of_none (h : s.saw.remembered = none) :
    s.spunUp = if s.atHome then s.spun.beginOrder else s.spun.enterReturning .homing := by
  have hspun : s.spun = { s with saw := { s.saw with spinTimer := none } } := by
    unfold State.spun
    rw [← h]
  rw [hspun]
  simp only [State.spunUp, State.onSaw, h] <;> rfl

/-- The spin-up timer's expiry in SPINUP. -/
theorem exec_spinupTimerExpiry_of (hrun : s.inReset = false) (hst : s.saw.st = .spinup) (ht : s.saw.spinTimer ≠ none)
    (h : s.spunUp = t) : exec .spinupTimerExpiry s = .next t :=
  event_is hrun ((if_pos ⟨Option.isSome_iff_ne_none.mpr ht, hst⟩).trans h)

end

end Sys2Proof.Machine
end

section
/-! SUPPORT. The end of the spin-up and the stages of a setting (R158, R159, R168). -/

namespace Sys2Proof.Machine

-- each theorem's proof is checked before the next begins, so that few threads are needed
set_option Elab.async false

section
variable {s t : State} {k : SettingRec}

/-- SPINUP left for a state entered (R154, R158). -/
def State.spunInto (st : SawState) (t : State) : State :=
  { t with
    saw := { t.saw with st, spinTimer := none, remembered := none }
    rqp := { t.rqp with latched := t.rqp.latched ||| Cause.sawState.bit } }

/-- A state other than SPINUP entered at the spin-up's end. -/
theorem enterSaw_spun (hst : s.saw.st = .spinup) {st : SawState} (hne : st ≠ .spinup) : s.spun.enterSaw st = s.spunInto st :=
  enterSaw_of_ne (s := s.spun) fun h => hne (h.symm.trans hst)

/-! ## The end of the spin-up (R158) -/

section
variable (hst : s.saw.st = .spinup)
include hst

/-- FEED_WAIT entered from the spin-up. -/
theorem spun_enterFeedWait (hcut : s.sawCutting = false) (hnone : s.alt.strict = none) : s.spun.enterFeedWait =
    State.spunInto .feedWait { s with saw := { s.saw with setting := none, cutWanted := true } } := by
  rw [enterFeedWait_of_idle (s := s.spun) hcut hnone, enterSaw_spun hst (st := .feedWait) nofun]
  rfl

/-- A return begun from the spin-up, away from home. -/
theorem spun_enterReturning {kind : ReturnKind} (haway : ¬ (s.inu.homed = true ∧ s.inu.count = 0))
    (hrev : s.active .revLimit = false) : s.spun.enterReturning kind = State.spunInto .returning { s with saw := { s.saw with
      feedRate := s.returnRate, feed := .stepping false s.returnRate (1000000 / s.returnRate)
      ret := some (s.returnRec kind) } } := by
  rw [enterReturning_of_away (s := s.spun) haway hrev, enterSaw_spun hst (st := .returning) nofun]
  rfl

/-- The head order's setting begun from the spin-up. -/
theorem spun_enterSetting {o : CutOrder} {rest : List CutOrder} (ho : s.saw.cuts = o :: rest)
    (hsteps : o.thickness * s.param .setStepsPerMm / 10 ≠ 0) : s.spun.enterSetting =
      State.spunInto .setting { s with saw := { s.saw with
        setting := some { remaining := o.thickness * s.param .setStepsPerMm / 10, stage := .move }
        setworks := .stepping true 2000 500 } } := by
  have hthick : s.spun.saw.headThickness = o.thickness := by
    show s.saw.headThickness = _
    simp only [Saw.headThickness, ho]
  rw [State.enterSetting, hthick, enterSaw_spun hst (st := .setting) nofun]
  exact beginSetMove_of_pos hsteps

/-- A remembered setting resumed at the stage held. -/
theorem spun_resumeSetting (hk : s.saw.setting = some k) : s.spun.resumeSetting = match k.stage with
    | .move => (s.spunInto .setting).beginSetMove k.remaining
    | .wait => (s.spunInto .setting).beginSetWait
    | .settle => (s.spunInto .setting).beginSettle := by
  have hset : (s.spunInto .setting).saw.setting = some k := hk
  rw [State.resumeSetting, enterSaw_spun hst (st := .setting) nofun]
  cases hs : k.stage <;> simp only [hset, hs]

/-- A setting resumed with its stage's record as it was held. -/
theorem spun_resumed (hk : s.saw.setting = some k) :
    (k.stage = .move → k.remaining ≠ 0 → s.spun.resumeSetting =
      State.spunInto .setting { s with saw := { s.saw with setworks := .stepping true 2000 500 } }) ∧
    (k.stage = .wait → s.active .setDone = false → s.spun.resumeSetting = State.spunInto .setting { s with saw :=
      { s.saw with setworks := .idle, waitTimer := some ((s.param .setTimeoutCode + 1) * 16 * 1000) } }) ∧
    (k.stage = .settle → s.param .setSettle ≠ 0 → s.spun.resumeSetting = State.spunInto .setting { s with saw :=
      { s.saw with waitTimer := none, settleTimer := some (s.param .setSettle * 1000) } }) := by
  rw [spun_resumeSetting hst hk]
  have hsame : ∀ {st}, k.stage = st → (s.spunInto .setting).saw.setting.map (fun k => { k with stage := st }) = s.saw.setting := by
    rintro st rfl
    exact (congrArg (Option.map _) hk).trans hk.symm
  refine ⟨fun hstage hpos => ?_, fun hstage hdone => ?_, fun hstage htime => ?_⟩ <;> rw [hstage]
  · have hheld : some { remaining := k.remaining, stage := .move } = s.saw.setting := by rw [hk, ← hstage]
    refine (beginSetMove_of_pos hpos).trans ?_
    rw [hheld]
    rfl
  · refine (beginSetWait_of_waiting (s := s.spunInto .setting) hdone).trans ?_
    rw [State.onSaw, hsame hstage]
    rfl
  · refine (beginSettle_of_time (s := s.spunInto .setting) htime).trans ?_
    rw [State.onSaw, hsame hstage]
    rfl

end

/-! ## The events of a setting (R159) -/

/-- The setting in hand waits. -/
theorem inSetWait_of (hst : s.saw.st = .setting) (hk : s.saw.setting = some k) (hstage : k.stage = .wait) :
    s.inSetWait = true := by
  simp only [State.inSetWait, hst, hk, hstage]
  rfl

/-- The state whose channel has taken an active raw state (R53). -/
theorem accepted_of_active {c : Channel} (hraw : (s.chan c).raw = true) : s.accepted c = { s with inu := { s.inu with
    chans := s.inu.chans.set (channelNumber c) { s.chan c with level := true, candidate := none } } } := by
  unfold State.accepted
  rw [hraw]

/-- A change to inactive accepted is handed on (R53, R54). -/
theorem exec_debounceAccept_inactive {c : Channel} (hrun : s.inReset = false) (hx : (s.chan c).candidate ≠ none)
    (hraw : (s.chan c).raw = false) (h : (s.accepted c).deliver c false = t) :
    exec (.debounceAccept c) s = .next t.arbitrate :=
  exec_debounceAccept_of_some hrun hx (hraw ▸ h)

section
variable (hrun : s.inReset = false) (hst : s.saw.st = .setting) (hk : s.saw.setting = some k)
include hrun hst hk

/-- A setworks step of the MOVE stage. -/
theorem exec_setworksStep_of (hstage : k.stage = .move) (hstep : ∃ fwd rate left, s.saw.setworks = .stepping fwd rate left) :
    exec .setworksStep s = .next (s.setworksStep k) := by
  obtain ⟨fwd, rate, left, hw⟩ := hstep
  show execSetworksStep s = _
  simp only [execSetworksStep, event_of_running hrun, hw, hk, hst, hstage, and_self, if_true]

/-- The wait timer's expiry in the WAIT stage. -/
theorem exec_setworksWaitExpiry_of (hstage : k.stage = .wait) (hw : s.saw.waitTimer ≠ none) :
    exec .setworksWaitExpiry s = .next (s.sawFault .setTimeout) :=
  event_is hrun (if_pos ⟨Option.isSome_iff_ne_none.mpr hw, inSetWait_of hst hk hstage⟩)

/-- SET_DONE accepted active in the WAIT stage. -/
theorem exec_setDone_of (hstage : k.stage = .wait) (hx : (s.chan .setDone).candidate ≠ none)
    (hraw : (s.chan .setDone).raw = true) (htime : s.param .setSettle ≠ 0) :
    exec (.debounceAccept .setDone) s = .next ({ s with
      inu := { s.inu with chans := s.inu.chans.set 5 { s.chan .setDone with level := true, candidate := none } }
      saw := { s.saw with
        setting := some { k with stage := .settle }, waitTimer := none
        settleTimer := some (s.param .setSettle * 1000) } }.arbitrate) := by
  have hwait : (s.accepted .setDone).inSetWait = true := inSetWait_of (s := s.accepted .setDone) hst hk hstage
  rw [exec_debounceAccept_active hrun hx hraw ((if_pos hwait).trans (beginSettle_of_time (s := s.accepted .setDone) htime)),
    State.onSaw]
  have hsetting : (s.accepted .setDone).saw.setting = some k := hk
  rw [hsetting, accepted_of_active hraw]
  rfl

end

/-- The settle timer's expiry in SETTING enters FEED_WAIT. -/
theorem exec_settleTimerExpiry_of (hrun : s.inReset = false) (hst : s.saw.st = .setting) (ht : s.saw.settleTimer ≠ none)
    (htrim : ∀ i r, s.record i = some r → r.kind = .saw → r.trimmed = true) (hnone : s.alt.strict = none) :
    exec .settleTimerExpiry s = .next { s with
      saw := { s.saw with st := .feedWait, setting := none, settleTimer := none, cutWanted := true }
      rqp := { s.rqp with latched := s.rqp.latched ||| Cause.sawState.bit } } := by
  have hwait := enterFeedWait_of_idle (s := { s with saw := { s.saw with settleTimer := none } }) (sawCutting_of_trimmed htrim) hnone
  rw [enterSaw_of_ne (by show s.saw.st ≠ _; rw [hst]; nofun)] at hwait
  exact event_is hrun ((if_pos ⟨Option.isSome_iff_ne_none.mpr ht, hst⟩).trans hwait)

end

/-- Settles O52: the spin-up's end by what is remembered, the setting by its stage. -/
theorem spinupAndSettingStages : Obligations.SpinupAndSettingStages := by
  refine ⟨fun s i r into hrun hst ht hnone hi hr _ htrim hinto => ?_, fun s k hrun hst hk =>
    ⟨fun hstage hstep => ⟨fun hlt => ?_, fun hone hdone => ?_, fun hone hdone htime => ?_⟩,
      fun hstage => ⟨exec_setworksWaitExpiry_of hrun hst hk hstage, exec_setDone_of hrun hst hk hstage⟩,
      exec_settleTimerExpiry_of hrun hst⟩⟩
  · obtain rfl : into = State.spunInto := funext fun st => funext fun t => hinto st t
    have hcut := sawCutting_of_slot_trimmed hi hr htrim
    have hexec := fun {t} => exec_spinupTimerExpiry_of (t := t) hrun hst ht
    refine ⟨fun h => hexec ?_, fun kind h haway hrev => hexec ?_,
      fun o rest steps ho hthick hsteps hrem hhome hcount hpos => hexec ?_, fun k hrem hk => ?_⟩
    · rw [← spun_enterFeedWait hst hcut hnone]
      rcases h with hrem | ⟨hrem, hhome, hcount, o, rest, ho, hthick⟩
      · exact spunUp_of_remembered hrem
      · refine (spunUp_of_none hrem).trans ((if_pos (atHome_iff.mpr ⟨hhome, hcount⟩)).trans (if_pos ?_))
        show s.saw.headThickness = 0
        simp only [Saw.headThickness, ho, hthick]
    · refine Eq.trans ?_ (spun_enterReturning hst (kind := kind) haway hrev)
      rcases h with hrem | ⟨hrem, rfl⟩
      · exact spunUp_of_remembered hrem
      · exact (spunUp_of_none hrem).trans (if_neg (ne_true_of_eq_false (atHome_of_away haway)))
    · subst hsteps
      refine (spunUp_of_none hrem).trans ((if_pos (atHome_iff.mpr ⟨hhome, hcount⟩)).trans
        ((if_neg ?_).trans (spun_enterSetting hst ho hpos)))
      show ¬ s.saw.headThickness = 0
      simpa only [Saw.headThickness, ho] using hthick
    · obtain ⟨hmove, hwait, hsettle⟩ := spun_resumed hst hk
      have hresume := spunUp_of_remembered hrem
      exact ⟨fun hstage hpos => hexec (hresume.trans (hmove hstage hpos)),
        fun hstage hdone => hexec (hresume.trans (hwait hstage hdone)),
        fun hstage htime => hexec (hresume.trans (hsettle hstage htime))⟩
  all_goals rw [exec_setworksStep_of hrun hst hk hstage hstep, State.setworksStep]
  · exact congrArg Host.Outcome.next (if_neg (Nat.not_le.mpr hlt))
  · rw [if_pos hone.le, hone]
    exact congrArg Host.Outcome.next (beginSetWait_of_waiting (by exact hdone))
  · rw [if_pos hone.le, hone]
    exact congrArg Host.Outcome.next (beginSetWait_of_done (by exact hdone) (by exact htime))

end Sys2Proof.Machine
end

section
/-! SUPPORT. Releases of the saw record through its clutch, and the ends of the clutch waits (R18, R19, R23, R24). -/

namespace Sys2Proof.Machine

-- each theorem's proof is checked before the next begins, so that few threads are needed
set_option Elab.async false

/-! ## What ALT's acts leave of the port -/

@[simp] theorem setRecord_rqp (s : State) (i : Slot) (x : Option Allotment) : (s.setRecord i x).rqp = s.rqp := rfl
@[simp] theorem ballastStep_rqp (s : State) (d : StepDir) (w : Nat) : (s.ballastStep d w).rqp = s.rqp := rfl
@[simp] theorem noteChange_rqp (s : State) (b : Bool) (i : Slot) : (s.noteChange b i).rqp = s.rqp := by
  cases b <;> rfl

@[simp] theorem checkStrict_rqp (s : State) : s.checkStrict.rqp = s.rqp := by
  rcases checkStrict_cases s with h | ⟨i, -, -, h⟩ <;> rw [h]
  rfl

@[simp] theorem orderOpen_rqp (s : State) (g : Target) : (s.orderOpen g).rqp = s.rqp := by
  cases g <;> rfl

@[simp] theorem openRelease_rqp (s : State) (b : Bool) (i : Slot) (d : Dest) (reason : Option Reason) :
    (s.openRelease b i d reason).rqp = s.rqp := by
  unfold State.openRelease
  split
  · rfl
  · dsimp only
    rw [orderOpen_rqp, noteChange_rqp, setRecord_rqp]
    split <;> rfl

@[simp] theorem endWait_rqp (s : State) (g : Target) : (s.endWait g).rqp = s.rqp := by
  cases g <;> rfl

@[simp] theorem completeRelease_rqp (s : State) (b w : Bool) (i : Slot) : (s.completeRelease b w i).rqp = s.rqp := by
  unfold State.completeRelease
  repeat' split
  all_goals simp

@[simp] theorem settleRelease_rqp (s : State) (b : Bool) (i : Slot) : (s.settleRelease b i).rqp = s.rqp := by
  unfold State.settleRelease
  repeat' split
  all_goals simp

@[simp] theorem beginRelease_rqp (s : State) (b : Bool) (i : Slot) (d : Dest) (reason : Option Reason) :
    (s.beginRelease b i d reason).rqp = s.rqp := by simp [State.beginRelease]

@[simp] theorem setWanted_rqp (s : State) (b : Bool) (i : Slot) (w : Bool) : (s.setWanted b i w).rqp = s.rqp := by
  unfold State.setWanted
  split
  · rfl
  · split
    · rfl
    · dsimp only
      split <;> simp

@[simp] theorem sawFaultAtAlt_rqp (s : State) : s.sawFaultAtAlt.rqp = s.rqp := by
  unfold State.sawFaultAtAlt
  repeat' split
  all_goals simp

@[simp] theorem clearCutWanted_rqp (s : State) : s.clearCutWanted.rqp = s.rqp := by
  unfold State.clearCutWanted State.setCutWanted
  split <;> simp

/-! ## The saw record's release (R18, R19, R24) -/

section
variable {s : State} {i : Slot} {r : Allotment} {b : Bool} {d : Dest} {reason : Option Reason}

/-- The state with the saw record on its way to a destination: the clutch released, the wait begun (R18, R24). -/
def State.declutching (s : State) (b : Bool) (i : Slot) (r : Allotment) (d : Dest) (reason : Option Reason) : State :=
  { s with
    alt := { s.alt with
      slots := s.alt.slots.set i (some (r.releasing d reason)), changed := s.alt.changedBy b i
      gOut := if r.state = .granted then s.alt.gOut - r.idle else s.alt.gOut
      clutch := false, wait := some (.release (s.param .clutchTimeout * 1000)) }
    gov := if r.state = .granted then s.gov.ballastStep s.params .down r.idle else s.gov }

/-- The state with the saw record's release complete as it begins (R19, R24). -/
def State.declutched (s : State) (b : Bool) (i : Slot) (r : Allotment) (d : Dest) (reason : Option Reason) : State :=
  { s with
    alt := { s.alt with
      slots := s.alt.slots.set i (Allotment.released { r.releasing d reason with trimmed := true } d)
      changed := s.alt.changedBy b i
      gOut := if r.state = .granted then s.alt.gOut - r.idle else s.alt.gOut
      clutch := false, wait := none }
    gov := (if r.state = .granted then s.gov.ballastStep s.params .down r.idle else s.gov).ballastStep s.params .up
      (r.idle + if r.trimmed then 0 else r.claim - r.idle) }

/-- The share of the saw record is its idle claim (R23). -/
theorem share_of_saw (hk : r.kind = .saw) : r.share = r.idle := if_pos hk

/-- The saw record's release begun, up to its open order (R18). -/
theorem openRelease_clutch (hr : s.record i = some r) (hk : r.kind = .saw) (ht : r.target = .clutch)
    (hst : r.state = .granted ∨ r.state = .live) : s.openRelease b i d reason = s.declutching b i r d reason := by
  unfold State.declutching
  rcases hst with hst | hst
  · rw [openRelease_granted hr hst, ht, noteChange_eq, share_of_saw hk, if_pos hst, if_pos hst]
    rfl
  · have hne : ¬ r.state = .granted := by rw [hst]; nofun
    rw [openRelease_live hr hst, ht, noteChange_eq, if_neg hne, if_neg hne]
    rfl

/-- The completion of the saw record's release (R19, R24). -/
theorem completeRelease_clutch (hr : s.record i = some r) (hk : r.kind = .saw) (ht : r.target = .clutch)
    (hst : r.state = .releasing d) (withStep : Bool) : s.completeRelease b withStep i = { s with
      alt := { s.alt with
        slots := s.alt.slots.set i (Allotment.released { r with trimmed := true } d), changed := s.alt.changedBy b i
        wait := none }
      gov := if withStep then s.gov.ballastStep s.params .up (r.idle + if r.trimmed then 0 else r.claim - r.idle)
        else s.gov } := by
  have hstep : r.releaseStep = r.idle + if r.trimmed then 0 else r.claim - r.idle := if_pos hk
  rw [completeRelease_of hr hst, ht, noteChange_eq, hstep, hk, decide_eq_true rfl, Bool.or_true]
  cases withStep <;> rfl

section
variable (hr : s.record i = some r) (hk : r.kind = .saw) (ht : r.target = .clutch) (hst : r.state = .granted ∨ r.state = .live)
include hr hk ht hst

/-- The saw record released with CLUTCH_IN active: the wait runs (R24). -/
theorem beginRelease_clutch_in (hin : s.active .clutchIn = true) :
    s.beginRelease b i d reason = (s.declutching b i r d reason).checkStrict := by
  have hrec : (s.declutching b i r d reason).record i = some (r.releasing d reason) := vector_get_set_self ..
  have htarget : (r.releasing d reason).target = .clutch := ht
  rw [State.beginRelease, openRelease_clutch hr hk ht hst]
  simp only [State.settleRelease, hrec, htarget]
  rw [if_pos]
  exact hin

/-- The saw record released with CLUTCH_IN inactive: the release is complete at once (R24). -/
theorem beginRelease_clutch_out (hin : s.active .clutchIn = false) :
    s.beginRelease b i d reason = (s.declutched b i r d reason).checkStrict := by
  have hrec : (s.declutching b i r d reason).record i = some (r.releasing d reason) := vector_get_set_self ..
  have htarget : (r.releasing d reason).target = .clutch := ht
  have hin' : ¬ (s.declutching b i r d reason).active .clutchIn = true := ne_true_of_eq_false hin
  rw [State.beginRelease, openRelease_clutch hr hk ht hst]
  simp only [State.settleRelease, hrec, htarget]
  rw [if_neg hin', completeRelease_clutch hrec hk htarget rfl]
  refine congrArg State.checkStrict ?_
  cases b <;> simp [State.declutching, State.declutched, Alt.changedBy, Allotment.releasing] <;> rfl

end

/-! ## A saw fault at ALT (R18) -/

section
variable (hi : s.sawSlot = some i) (hr : s.record i = some r) (hnone : s.alt.strict = none)
include hi hr

/-- A record that is waiting at no demand loses its want alone. -/
theorem sawFaultAtAlt_resting (hst : r.state = .idle ∨ (∃ d, r.state = .releasing d) ∨ ∃ h, r.state = .held h) :
    s.sawFaultAtAlt = s.setRecord i (some { r with wanted := false }) := by
  simp only [State.sawFaultAtAlt, hi, hr]
  rcases hst with h | ⟨d, h⟩ | ⟨d, h⟩ <;> simp only [h]

/-- A record that waits for admission goes to IDLE. -/
theorem sawFaultAtAlt_waiting (hst : r.state = .pending ∨ r.state = .shed) : s.sawFaultAtAlt = s.setWanted true i false := by
  simp only [State.sawFaultAtAlt, hi, hr]
  rcases hst with h | h <;> simp only [h]

/-- A switched record is released toward HELD for the fault. -/
theorem sawFaultAtAlt_switched (hst : r.state = .granted ∨ r.state = .live) : s.sawFaultAtAlt =
    (s.setRecord i (some { r with wanted := false })).beginRelease true i (.held .fault) (some .demandOff) := by
  simp only [State.sawFaultAtAlt, hi, hr]
  rcases hst with h | h <;> simp only [h]

end

/-! ## A saw fault (R173) -/

/-- SAW stopped by a fault, before ALT takes it. -/
def State.sawStopped (s : State) : State :=
  ((s.onSaw Saw.stopMotion).onSaw fun w => { w with cutWanted := false }).onSaw Saw.dropPhase

/-- A fault without a strict slot: SAW stopped, the record released, FAULT entered. -/
theorem sawFault_of_none (hne : s.saw.st ≠ .fault) (hnone : s.alt.strict = none) (cause : FaultCause) :
    s.sawFault cause = (s.sawStopped.sawFaultAtAlt.enterSaw .fault).onSaw fun w => { w with cause } := by
  have hclear := clearCutWanted_of_none (s := s.onSaw Saw.stopMotion) hnone
  simp only [State.sawFault, if_neg hne, hclear]
  rfl

/-- What a fault leaves of ALT, GOV and FLC is ALT's taking of it. -/
theorem sawFault_at_alt (hne : s.saw.st ≠ .fault) (hnone : s.alt.strict = none) {t : State}
    (h : s.sawStopped.sawFaultAtAlt = t) (cause : FaultCause) :
    (s.sawFault cause).alt = t.alt ∧ (s.sawFault cause).gov = t.gov ∧ (s.sawFault cause).flc = t.flc := by
  rw [sawFault_of_none hne hnone, h, enterSaw_eq]
  exact ⟨rfl, rfl, rfl⟩

/-- A fault raises SAW_STATE and leaves the inputs and the parameters. -/
theorem sawFault_rest (hne : s.saw.st ≠ .fault) (cause : FaultCause) :
    (s.sawFault cause).rqp = { s.rqp with latched := s.rqp.latched ||| Cause.sawState.bit } ∧
    (s.sawFault cause).inu = s.inu ∧ (s.sawFault cause).params = s.params := by
  have hw : Works s (s.sawFault cause) := Works.refl.sawFault
  have hparams := congrArg (fun x : Nat × Bool × Params × List Instr => x.2.2.1) hw.outer
  refine ⟨?_, hw.inu, hparams⟩
  simp only [State.sawFault, if_neg hne]
  rw [enterSaw_of_ne]
  · simp [State.raise, State.onSaw, State.onRqp]
  · simpa [State.onSaw, Saw.dropPhase, Saw.stopMotion] using hne

/-- A fault leaves ALT's record of a saw that is not switched with its want dropped. -/
theorem sawFault_resting (hne : s.saw.st ≠ .fault) (hnone : s.alt.strict = none) (hi : s.sawSlot = some i)
    (hr : s.record i = some r) (hst : r.state = .idle ∨ (∃ d, r.state = .releasing d) ∨ ∃ h, r.state = .held h)
    (cause : FaultCause) :
    (s.sawFault cause).alt = { s.alt with slots := s.alt.slots.set i (some { r with wanted := false }) } ∧
    (s.sawFault cause).gov = s.gov ∧ (s.sawFault cause).flc = s.flc :=
  sawFault_at_alt hne hnone (sawFaultAtAlt_resting (s := s.sawStopped) hi hr hst) cause

end

end Sys2Proof.Machine
end

section
/-! SUPPORT. A saw fault at ALT record by record, and the ends of the clutch waits (R18, R19, R23, R24, R173). -/

namespace Sys2Proof.Machine

-- each theorem's proof is checked before the next begins, so that few threads are needed
set_option Elab.async false

/-! ## A saw fault, record by record (R18) -/

section
variable {s : State} {i : Slot} {r : Allotment} {cause : FaultCause} (hnone : s.alt.strict = none)
include hnone

/-- Without a saw record a fault leaves ALT, GOV and FLC. -/
theorem sawFault_recordless (hi : s.sawSlot = none) :
    (s.sawFault cause).alt = s.alt ∧ (s.sawFault cause).gov = s.gov ∧ (s.sawFault cause).flc = s.flc := by
  by_cases hst : s.saw.st = .fault
  · rw [sawFault_of_fault hst]
    exact ⟨rfl, rfl, rfl⟩
  · have hi' : s.sawStopped.sawSlot = none := hi
    have hat : s.sawStopped.sawFaultAtAlt = s.sawStopped := by simp only [State.sawFaultAtAlt, hi']
    exact sawFault_at_alt hst hnone hat cause

section
variable (hst : s.saw.st ≠ .fault) (hi : s.sawSlot = some i) (hr : s.record i = some r)
include hst hi hr

/-- A fault of a LIVE saw with CLUTCH_IN active begins the release. -/
theorem sawFault_live_in (ht : r.target = .clutch) (hlive : r.state = .live) (hin : s.active .clutchIn = true) :
    (s.sawFault cause).alt = { s.alt with
      slots := s.alt.slots.set i (some { r with
        wanted := false, state := .releasing (.held .fault), reason := some .demandOff })
      changed := s.alt.changed.set i true
      clutch := false, wait := some (.release (s.param .clutchTimeout * 1000)) } ∧
    (s.sawFault cause).gov = s.gov ∧ (s.sawFault cause).flc = s.flc := by
  have hk := kind_of_sawSlot hi hr
  have hne : ¬ r.state = .granted := by rw [hlive]; nofun
  have hat := (sawFaultAtAlt_switched (s := s.sawStopped) hi hr (.inr hlive)).trans
    ((beginRelease_clutch_in (record_setRecord_self s.sawStopped i (some { r with wanted := false })) hk ht (.inr hlive) hin).trans
      (checkStrict_of_none (by exact hnone)))
  obtain ⟨halt, hgov, hflc⟩ := sawFault_at_alt hst hnone hat cause
  refine ⟨halt.trans ?_, hgov.trans (if_neg hne), hflc⟩
  simp only [State.declutching, hne, if_false, slots_set_twice]
  rfl

/-- A fault of a LIVE saw with CLUTCH_IN inactive completes the release. -/
theorem sawFault_live_out (ht : r.target = .clutch) (hlive : r.state = .live) (hin : s.active .clutchIn = false) :
    (s.sawFault cause).alt = { s.alt with
      slots := s.alt.slots.set i (some { r with
        wanted := false, state := .held .fault, reason := some .demandOff, trimmed := true })
      changed := s.alt.changed.set i true, clutch := false, wait := none } ∧
    (s.sawFault cause).gov = s.gov.ballastStep s.params .up (if r.trimmed then r.idle else r.idle + (r.claim - r.idle)) ∧
    (s.sawFault cause).flc = s.flc := by
  have hk := kind_of_sawSlot hi hr
  have hne : ¬ r.state = .granted := by rw [hlive]; nofun
  have hat := (sawFaultAtAlt_switched (s := s.sawStopped) hi hr (.inr hlive)).trans
    ((beginRelease_clutch_out (record_setRecord_self s.sawStopped i (some { r with wanted := false })) hk ht (.inr hlive) hin).trans
      (checkStrict_of_none (by exact hnone)))
  obtain ⟨halt, hgov, hflc⟩ := sawFault_at_alt hst hnone hat cause
  refine ⟨halt.trans ?_, hgov.trans ?_, hflc⟩
  · simp only [State.declutched, hne, if_false, slots_set_twice]
    rfl
  · simp only [State.declutched, hne, if_false]
    cases r.trimmed <;> rfl

/-- A fault of a saw that waits for admission puts its record in IDLE. -/
theorem sawFault_waiting (hwait : r.state = .pending ∨ r.state = .shed) (hw : r.wanted = true) :
    (s.sawFault cause).alt = { s.alt with
      slots := s.alt.slots.set i (some { r with wanted := false, state := .idle, reason := some .demandOff })
      changed := s.alt.changed.set i true } ∧
    (s.sawFault cause).gov = s.gov ∧ (s.sawFault cause).flc = s.flc := by
  have hat := (sawFaultAtAlt_waiting (s := s.sawStopped) hi hr hwait).trans
    ((setWanted_off_waiting (s := s.sawStopped) hr hw hwait).trans (checkStrict_of_none (by exact hnone)))
  exact sawFault_at_alt hst hnone hat cause

/-- A fault leaves FLC, as the saw record is switched by its clutch. -/
theorem sawFault_flc (ht : r.target = .clutch) : (s.sawFault cause).flc = s.flc := by
  have hswitched : r.state = .granted ∨ r.state = .live → (s.sawFault cause).flc = s.flc := by
    intro hst'
    have hrec := record_setRecord_self s.sawStopped i (some { r with wanted := false })
    have hk := kind_of_sawSlot hi hr
    have hat := sawFaultAtAlt_switched (s := s.sawStopped) hi hr hst'
    cases hin : s.active .clutchIn
    · exact (sawFault_at_alt hst hnone (hat.trans ((beginRelease_clutch_out hrec hk ht hst' hin).trans
        (checkStrict_of_none (by exact hnone)))) cause).2.2
    · exact (sawFault_at_alt hst hnone (hat.trans ((beginRelease_clutch_in hrec hk ht hst' hin).trans
        (checkStrict_of_none (by exact hnone)))) cause).2.2
  have hwaiting : r.state = .pending ∨ r.state = .shed → (s.sawFault cause).flc = s.flc := by
    intro hst'
    cases hw : r.wanted
    · have hat := (sawFaultAtAlt_waiting (s := s.sawStopped) hi hr hst').trans (setWanted_same (s := s.sawStopped) hr hw)
      exact (sawFault_at_alt hst hnone hat cause).2.2
    · exact (sawFault_waiting hnone hst hi hr hst' hw).2.2
  cases hs : r.state with
  | idle => exact (sawFault_resting hst hnone hi hr (.inl hs) cause).2.2
  | releasing d => exact (sawFault_resting hst hnone hi hr (.inr (.inl ⟨d, hs⟩)) cause).2.2
  | held h => exact (sawFault_resting hst hnone hi hr (.inr (.inr ⟨h, hs⟩)) cause).2.2
  | pending => exact hwaiting (.inl hs)
  | shed => exact hwaiting (.inr hs)
  | granted => exact hswitched (.inl hs)
  | live => exact hswitched (.inr hs)

end

end

/-! ## The ends of the clutch waits (R23, R24) -/

section
variable {r : Allotment} {d : Dest}

/-- The saw record after its completed release, which leaves no saw record where it is retired (R19, R26). -/
def Allotment.declutchedTo (r : Allotment) : Dest → Allotment
  | .held h => { r with state := .held h, trimmed := true }
  | .shed => { r with state := if r.wanted then .shed else .idle, trimmed := true }
  | .idle | .vacant => if ¬ r.wanted then { r with state := .idle, trimmed := true }
    else if 0 < r.quota ∧ r.quota ≤ r.used then { r with state := .held .quota, reason := some .quota, trimmed := true }
    else { r with state := .pending, trimmed := true }

/-- Where the completed release of the saw record leads (R19). -/
theorem released_saw (hd : d ≠ .vacant) : Allotment.released { r with trimmed := true } d = some (r.declutchedTo d) := by
  cases d with
  | vacant => exact absurd rfl hd
  | held h => rfl
  | shed => cases hw : r.wanted <;> simp [Allotment.released, Allotment.declutchedTo, hw]
  | idle => cases hw : r.wanted <;> simp [Allotment.released, Allotment.declutchedTo, toPending_eq, hw]

end

section
variable {s : State} {i : Slot} {r r' : Allotment} {d : Dest} {left : Nat} (hi : s.sawSlot = some i) (hr : s.record i = some r)
include hi hr

/-- The saw record confirmed LIVE (R23). -/
theorem clutchIn_of (hwait : s.alt.wait = some (.engage left)) : s.clutchIn = State.noticeLive { s with
    alt := { s.alt with
      slots := s.alt.slots.set i (some { r with state := .live, reason := some .confirmed })
      changed := s.alt.changed.set i true, gOut := s.alt.gOut - r.idle, wait := none }
    gov := s.gov.ballastStep s.params .down r.idle } := by
  simp only [State.clutchIn, hwait, State.confirmClutch, hi, hr, share_of_saw (kind_of_sawSlot hi hr)]
  rfl

/-- An engagement that fails: the record is HELD as refused, SAW faults (R23). -/
theorem clutchFails_of : s.clutchFails = State.sawFault { s with
    alt := { s.alt with
      slots := s.alt.slots.set i (some { r with state := .held .refused, reason := some .refused })
      changed := s.alt.changed.set i true, gOut := s.alt.gOut - r.idle, clutch := false, wait := none } } .clutchFail := by
  simp only [State.clutchFails, hi, hr, share_of_saw (kind_of_sawSlot hi hr)]
  rfl

/-- The saw record's release complete at the end of its wait (R24). -/
theorem completeSawRelease_of (ht : r.target = .clutch) (hst : r.state = .releasing d)
    (hrel : Allotment.released { r with trimmed := true } d = some r') (withStep : Bool) :
    s.completeSawRelease withStep = State.noticeLeftReleasing { s with
      alt := { s.alt with
        slots := s.alt.slots.set i (some r'), changed := s.alt.changed.set i true, wait := none }
      gov := if withStep then s.gov.ballastStep s.params .up (r.idle + if r.trimmed then 0 else r.claim - r.idle)
        else s.gov } := by
  simp only [State.completeSawRelease, hi, completeRelease_clutch hr (kind_of_sawSlot hi hr) ht hst, hrel]
  rfl

end

section
variable {s : State} {i : Slot} {r r' : Allotment}

/-- The engagement wait's timeout. -/
theorem exec_clutchEngageTimeout_of {left : Nat} (hrun : s.inReset = false) (hwait : s.alt.wait = some (.engage left)) :
    exec .clutchEngageTimeout s = .next s.clutchFails := by
  show execClutchEngageTimeout s = _
  simp only [execClutchEngageTimeout, event_of_running hrun, hwait]

/-- The release wait's timeout. -/
theorem exec_clutchReleaseTimeout_of {left : Nat} (hrun : s.inReset = false) (hwait : s.alt.wait = some (.release left)) :
    exec .clutchReleaseTimeout s = .next s.clutchSticks := by
  show execClutchReleaseTimeout s = _
  simp only [execClutchReleaseTimeout, event_of_running hrun, hwait]

/-- SPINUP entered from CLAIMING or HALTED (R158, R168). -/
theorem noticeLive_of (h : s.saw.st = .claiming ∨ s.saw.st = .halted) : s.noticeLive = { s with
    saw := { s.saw with st := .spinup, spinTimer := some (s.param .spinupTime * 1000) }
    rqp := { s.rqp with latched := s.rqp.latched ||| Cause.sawState.bit } } := by
  have hne : s.saw.st ≠ .spinup := by rcases h with h | h <;> rw [h] <;> nofun
  rw [State.noticeLive, if_pos h, State.enterSpinup, enterSaw_of_ne hne]
  rfl

/-- SAW_IDLE entered as the record leaves RELEASING (R165, R167). -/
theorem noticeLeftReleasing_of (h : s.saw.st = .releasing) : s.noticeLeftReleasing = { s with
    saw := { s.saw with st := .idle }
    rqp := { s.rqp with latched := s.rqp.latched ||| Cause.sawState.bit } } := by
  have hne : s.saw.st ≠ .idle := by rw [h]; nofun
  rw [State.noticeLeftReleasing, if_pos h, enterSaw_of_ne hne]
  rfl

/-- The record's departure from RELEASING is SAW's affair. -/
theorem noticeLeftReleasing_rest (h : s.saw.st ≠ .fault) :
    s.noticeLeftReleasing.alt = s.alt ∧ s.noticeLeftReleasing.gov = s.gov ∧ s.noticeLeftReleasing.saw.st ≠ .fault := by
  unfold State.noticeLeftReleasing
  split
  · rw [enterSaw_eq]
    exact ⟨rfl, rfl, nofun⟩
  · exact ⟨rfl, rfl, h⟩

/-- A fault of a saw whose record stands at rest, unwanted, leaves ALT and GOV (R18). -/
theorem sawFault_unwanted (hne : s.saw.st ≠ .fault) (hnone : s.alt.strict = none) (hi : s.sawSlot = some i)
    (hr : s.record i = some r) (hst : r.state = .idle ∨ (∃ d, r.state = .releasing d) ∨ ∃ h, r.state = .held h)
    (hw : r.wanted = false) (cause : FaultCause) : (s.sawFault cause).alt = s.alt ∧ (s.sawFault cause).gov = s.gov := by
  obtain ⟨halt, hgov, -⟩ := sawFault_resting hne hnone hi hr hst cause
  have hsame : (some { r with wanted := false } : Option Allotment) = s.record i := by rw [hr, ← hw]
  refine ⟨halt.trans ?_, hgov⟩
  have hself := congrArg State.alt (setRecord_self (s := s) (i := i) hsame.symm)
  exact hself

section
variable {d : Dest} (hsaw : s.saw.st ≠ .fault) (hnone : s.alt.strict = none) (hi : s.sawSlot = some i) (hr : s.record i = some r)
include hsaw hnone hi hr

/-- What the timeout of an engagement leaves (R23). -/
theorem clutchFails_outcome : s.clutchFails.alt = { s.alt with
      slots := s.alt.slots.set i (some { r with state := .held .refused, reason := some .refused, wanted := false })
      changed := s.alt.changed.set i true, gOut := s.alt.gOut - r.idle, clutch := false, wait := none } ∧
    s.clutchFails.gov = s.gov ∧ s.clutchFails.saw.st = .fault ∧ s.clutchFails.saw.cause = .clutchFail := by
  rw [clutchFails_of hi hr]
  obtain ⟨u, hu⟩ : ∃ u : State, u = { s with alt := { s.alt with
    slots := s.alt.slots.set i (some { r with state := .held .refused, reason := some .refused })
    changed := s.alt.changed.set i true, gOut := s.alt.gOut - r.idle, clutch := false, wait := none } } := ⟨_, rfl⟩
  have hslots : u.alt.slots = s.alt.slots.set i (some { r with state := .held .refused, reason := some .refused }) := by rw [hu]
  have hst : u.saw.st ≠ .fault := by rw [hu]; exact hsaw
  have hi' := sawSlot_of_set hi (by have hk := kind_of_sawSlot hi hr; exact hk) hslots
  have hr' : u.record i = some { r with state := .held .refused, reason := some .refused } :=
    (record_of_slots hslots i).trans (if_pos rfl)
  obtain ⟨halt, hgov, -⟩ := sawFault_resting hst (by rw [hu]; exact hnone) hi' hr' (.inr (.inr ⟨_, rfl⟩)) .clutchFail
  have htwice : u.alt.slots.set i (some { r with state := .held .refused, reason := some .refused, wanted := false }) =
      s.alt.slots.set i (some { r with state := .held .refused, reason := some .refused, wanted := false }) := by
    rw [hslots]
    exact slots_set_twice s i _ _
  rw [← hu, halt, hgov, sawFault_saw hst, htwice, hu]
  exact ⟨rfl, rfl, rfl, rfl⟩

/-- What the timeout of a release leaves (R24). -/
theorem clutchSticks_outcome (ht : r.target = .clutch) (hst : r.state = .releasing d)
    (hrel : Allotment.released { r with trimmed := true } d = some r')
    (hrest : r'.state = .idle ∨ (∃ d, r'.state = .releasing d) ∨ ∃ h, r'.state = .held h) (hk : r'.kind = .saw)
    (hw : r'.wanted = false) :
    s.clutchSticks.alt = { s.alt with
      slots := s.alt.slots.set i (some r'), changed := s.alt.changed.set i true, wait := none } ∧
    s.clutchSticks.gov = s.gov ∧ s.clutchSticks.saw.st = .fault ∧ s.clutchSticks.saw.cause = .clutchStuck := by
  obtain ⟨u, hu⟩ : ∃ u : State, u = { s with alt := { s.alt with
    slots := s.alt.slots.set i (some r'), changed := s.alt.changed.set i true, wait := none } } := ⟨_, rfl⟩
  have hdone : s.completeSawRelease false = u.noticeLeftReleasing := (completeSawRelease_of hi hr ht hst hrel false).trans (by rw [hu]; rfl)
  obtain ⟨halt, hgov, hst'⟩ := noticeLeftReleasing_rest (s := u) (by rw [hu]; exact hsaw)
  have hslots : u.noticeLeftReleasing.alt.slots = s.alt.slots.set i (some r') := by rw [halt, hu]
  obtain ⟨halt', hgov'⟩ := sawFault_unwanted hst' (by rw [halt, hu]; exact hnone) (sawSlot_of_set hi hk hslots)
    ((record_of_slots hslots i).trans (if_pos rfl)) hrest hw .clutchStuck
  rw [State.clutchSticks, hdone, halt', hgov', halt, hgov, sawFault_saw hst', hu]
  exact ⟨rfl, rfl, rfl, rfl⟩

end

end

/-- An unwanted saw record whose release is complete stands at rest (R19). -/
theorem released_unwanted {r r' : Allotment} {d : Dest} (hw : r.wanted = false)
    (hrel : Allotment.released { r with trimmed := true } d = some r') :
    (r'.state = .idle ∨ (∃ d, r'.state = .releasing d) ∨ ∃ h, r'.state = .held h) ∧ r'.wanted = false ∧ r'.kind = r.kind := by
  cases d with
  | vacant => cases hrel
  | held h =>
    obtain rfl := Option.some.inj hrel
    exact ⟨.inr (.inr ⟨h, rfl⟩), hw, rfl⟩
  | shed =>
    simp only [Allotment.released, hw, Bool.false_eq_true, if_false, Option.some.injEq] at hrel
    subst hrel
    exact ⟨.inl rfl, rfl, rfl⟩
  | idle =>
    simp only [Allotment.released, hw, Bool.false_eq_true, if_false, Option.some.injEq] at hrel
    subst hrel
    exact ⟨.inl rfl, rfl, rfl⟩

/-- Settles O53: a fault by the saw record's state at ALT, each clutch wait by its end. -/
theorem sawFaultsAndClutchWaits : Obligations.SawFaultsAndClutchWaits := by
  refine ⟨fun s t cause ht => ?_, fun s i r chans hrun hnone hi hr hk ht hchans => ⟨fun left hwait hst =>
    ⟨fun hx hraw hsaw => ?_, fun hsaw => ?_⟩, fun left d hwait hst hd r' hr' => ?_⟩⟩
  · subst ht
    refine ⟨fun hst => sawFault_of_fault hst cause, fun hst => ⟨sawFault_saw hst cause, sawFault_rest hst cause⟩,
      fun hi hnone => sawFault_recordless hnone hi, fun hst i r hi hr ht hnone => ⟨?_, fun hlive hin => ?_, fun hlive hin _ => ?_,
        fun hwait hw => ?_, fun hrest => ?_⟩⟩
    · exact sawFault_flc hnone hst hi hr ht
    · obtain ⟨halt, hgov, -⟩ := sawFault_live_in (cause := cause) hnone hst hi hr ht hlive hin
      exact ⟨halt, hgov⟩
    · obtain ⟨halt, hgov, -⟩ := sawFault_live_out (cause := cause) hnone hst hi hr ht hlive hin
      exact ⟨halt, hgov⟩
    · obtain ⟨halt, hgov, -⟩ := sawFault_waiting (cause := cause) hnone hst hi hr hwait hw
      exact ⟨halt, hgov⟩
    · obtain ⟨halt, hgov, -⟩ := sawFault_resting hst hnone hi hr hrest cause
      exact ⟨halt, hgov⟩
  · rw [exec_debounceAccept_active hrun hx hraw (clutchIn_of (s := s.accepted .clutchIn) hi hr hwait),
      noticeLive_of (by exact hsaw), accepted_of_active hraw, hchans true]
    rfl
  · exact ⟨_, exec_clutchEngageTimeout_of hrun hwait, clutchFails_outcome hsaw hnone hi hr⟩
  · obtain rfl : r' = r.declutchedTo d := by
      rw [hr']
      cases d <;> rfl
    refine ⟨fun hx hraw hsaw => ?_, fun hsaw hw => ?_⟩
    · have hclutch : (s.accepted .clutchIn).clutchOut = (s.accepted .clutchIn).completeSawRelease true := by
        have hwait' : (s.accepted .clutchIn).alt.wait = some (.release left) := hwait
        simp only [State.clutchOut, hwait']
      have hdone := completeSawRelease_of (s := s.accepted .clutchIn) hi hr ht hst (released_saw hd) true
      rw [exec_debounceAccept_inactive hrun hx hraw (hclutch.trans (hdone.trans (noticeLeftReleasing_of (by exact hsaw))))]
      have haccepted : (s.accepted .clutchIn).inu = chans false := by
        rw [hchans, ← hraw]
        rfl
      rw [haccepted]
      cases r.trimmed <;> rfl
    · have hrel := released_saw (r := r) hd
      obtain ⟨hrest, hw', hk'⟩ := released_unwanted hw hrel
      exact ⟨_, exec_clutchReleaseTimeout_of hrun hwait,
        clutchSticks_outcome hsaw hnone hi hr ht hst hrel hrest (hk'.trans hk) hw'⟩

end Sys2Proof.Machine
end

section
/-! SUPPORT. Feed and return steps, the travel limits, and the arrival home (R161 to R165, R172). -/

namespace Sys2Proof.Machine

-- each theorem's proof is checked before the next begins, so that few threads are needed
set_option Elab.async false

section
variable {s t : State} {i : Slot} {r : Allotment} {kind : ReturnKind}

/-! ## The end of a stroke (R163) -/

/-- The LIVE, untrimmed saw record cuts. -/
theorem sawCutting_of_live (hi : s.sawSlot = some i) (hr : s.record i = some r) (hst : r.state = .live)
    (ht : r.trimmed = false) : s.sawCutting = true := by
  simp only [State.sawCutting, sawRecord_of_slot hi, hr, hst, ht]
  rfl

/-- A saw record that is not LIVE, or trimmed, does not cut. -/
theorem sawCutting_of_not (hi : s.sawSlot = some i) (hr : s.record i = some r) (h : r.state ≠ .live ∨ r.trimmed = true) :
    s.sawCutting = false := by
  simp only [State.sawCutting, sawRecord_of_slot hi, hr]
  rcases h with h | h
  · rw [beq_false_of_ne h, Bool.false_and]
  · rw [h, Bool.not_true, Bool.and_false]

/-- The trim back of a LIVE, untrimmed saw record (R26). -/
theorem trimBack_of (hi : s.sawSlot = some i) (hr : s.record i = some r) (hst : r.state = .live) (ht : r.trimmed = false) :
    s.trimBack = { s with
      alt := { s.alt with
        slots := s.alt.slots.set i (some { r with trimmed := true, reason := some .trimmed })
        changed := s.alt.changed.set i true }
      gov := s.gov.ballastStep s.params .up (r.claim - r.idle) } := by
  simp only [State.trimBack, hi, hr, hst, ht, and_self, if_true]
  rfl

/-- The state a stroke that passes its stall check leaves, before the return begins (R163). -/
def State.strokeDone (s : State) (i : Slot) (r : Allotment) : State :=
  { s with
    alt := { s.alt with
      slots := s.alt.slots.set i (some { r with trimmed := true, reason := some .trimmed })
      changed := s.alt.changed.set i true }
    gov := s.gov.ballastStep s.params .up (r.claim - r.idle)
    saw := { s.saw with stroke := none, feed := .idle, feedRate := 0, cutWanted := false } }

/-- A stroke's last step, counted. -/
def State.strokeStepped (s : State) (k : StrokeRec) : State :=
  { s with saw := { s.saw with stroke := some { k with done := k.done + 1 }, feed := .idle, feedRate := 0 } }

section
variable {k : StrokeRec} (hst : s.saw.st = .feeding)
include hst

/-- A stroke's last step fails its stall check: the fault STALL. -/
theorem feedStep_stalled (hlast : k.steps ≤ k.done + 1) (hout : s.param .stallTol <
    (s.count - (k.reference.toInt + ((k.done + 1) * k.countsPerMm / k.stepsPerMm : Nat))).natAbs) :
    s.feedStep k = (s.strokeStepped k).sawFault .stall := by
  have hpass : (s.strokeStepped k).stallPasses = false :=
    (stallPasses_feeding (s := s.strokeStepped k) hst rfl).trans (withinStall_of_lt hout)
  exact (if_pos hlast).trans (if_neg (ne_true_of_eq_false hpass))

/-- A stroke's last step passes its stall check: trimmed back, returned. -/
theorem feedStep_ended (hlast : k.steps ≤ k.done + 1)
    (hin : (s.count - (k.reference.toInt + ((k.done + 1) * k.countsPerMm / k.stepsPerMm : Nat))).natAbs ≤ s.param .stallTol)
    (hnone : s.alt.strict = none) (hi : s.sawSlot = some i) (hr : s.record i = some r) (hlive : r.state = .live)
    (ht : r.trimmed = false) : s.feedStep k = (s.strokeDone i r).enterReturning .stroke := by
  have hpass : (s.strokeStepped k).stallPasses = true :=
    (stallPasses_feeding (s := s.strokeStepped k) hst rfl).trans (withinStall_of_le hin)
  have htrim := trimBack_of (s := s.strokeStepped k) hi hr hlive ht
  have hclear : (s.strokeStepped k).trimBack.clearCutWanted =
      (s.strokeStepped k).trimBack.onSaw fun w => { w with cutWanted := false } :=
    clearCutWanted_of_none (by rw [htrim]; exact hnone)
  refine (if_pos hlast).trans ((if_pos hpass).trans ?_)
  show ((s.strokeStepped k).trimBack.clearCutWanted.onSaw fun w => { w with stroke := none }).enterReturning .stroke = _
  rw [hclear, htrim]
  rfl

end

/-- A feed step in FEEDING with the saw record LIVE and untrimmed. -/
theorem exec_feedStep_of {k : StrokeRec} (hrun : s.inReset = false) (hst : s.saw.st = .feeding)
    (hfeed : ∃ fwd rate left, s.saw.feed = .stepping fwd rate left) (hk : s.saw.stroke = some k) :
    exec .feedStep s = .next (if s.sawCutting then s.feedStep k else s) := by
  obtain ⟨fwd, rate, left, hf⟩ := hfeed
  show execFeedStep s = _
  simp only [execFeedStep, event_of_running hrun, hf, hk, hst, true_and]

/-! ## The arrival home (R165) -/

/-- SAW at home, before it goes on (R165). -/
def State.homeReached (s : State) (kind : ReturnKind) : State :=
  { s with saw := { s.saw with
    feed := .idle, feedRate := 0, ret := none, cuts := if kind = .stroke then s.saw.cuts.tail else s.saw.cuts } }

/-- An arrival home goes on from there. -/
theorem arriveHome_eq (s : State) (kind : ReturnKind) : s.arriveHome kind = (s.homeReached kind).afterReturn kind := rfl

/-- After a return of the work that ends it, with no order left or the stop flag set. -/
theorem afterReturn_ends (hk : kind ≠ .abort) (h : s.saw.cuts = [] ∨ s.saw.stopFlag = true) :
    s.afterReturn kind = (s.sawWant false).enterReleasing := by
  have htest : (s.saw.cuts.isEmpty || s.saw.stopFlag) = true := by
    rcases h with h | h
    · rw [h]
      rfl
    · rw [h, Bool.or_true]
  cases kind with
  | abort => exact absurd rfl hk
  | stroke => exact if_pos htest
  | homing => exact if_pos htest

/-- After a return of the work that goes on with the head order. -/
theorem afterReturn_next {o : CutOrder} {rest : List CutOrder} (hk : kind ≠ .abort) (ho : s.saw.cuts = o :: rest)
    (hstop : s.saw.stopFlag = false) : s.afterReturn kind = s.beginOrder := by
  have htest : ¬ (s.saw.cuts.isEmpty || s.saw.stopFlag) = true := by
    rw [ho, hstop]
    exact Bool.false_ne_true
  cases kind with
  | abort => exact absurd rfl hk
  | stroke => exact if_neg htest
  | homing => exact if_neg htest

/-- The head order without a setting. -/
theorem beginOrder_flat {o : CutOrder} {rest : List CutOrder} (ho : s.saw.cuts = o :: rest) (h : o.thickness = 0) :
    s.beginOrder = s.enterFeedWait := by
  refine if_pos ?_
  simp only [Saw.headThickness, ho, h]

/-- The head order with a setting of some steps. -/
theorem beginOrder_set {o : CutOrder} {rest : List CutOrder} (ho : s.saw.cuts = o :: rest) (h : o.thickness ≠ 0)
    (hsteps : o.thickness * s.param .setStepsPerMm / 10 ≠ 0) : s.beginOrder = (s.enterSaw .setting).onSaw fun w => { w with
      setting := some { remaining := o.thickness * s.param .setStepsPerMm / 10, stage := .move }
      setworks := .stepping true 2000 500 } := by
  have hthick : s.saw.headThickness = o.thickness := by simp only [Saw.headThickness, ho]
  refine (if_neg (hthick ▸ h)).trans ?_
  rw [State.enterSetting, hthick]
  exact beginSetMove_of_pos hsteps

/-- RELEASING_SAW or SAW_IDLE entered, by the saw record. -/
theorem enterReleasing_st (s : State) : s.enterReleasing.saw.st = .releasing ∨ s.enterReleasing.saw.st = .idle := by
  unfold State.enterReleasing
  rw [enterSaw_eq]
  cases s.sawReleasing
  · exact .inr rfl
  · exact .inl rfl

/-! ## The travel limits (R161, R164, R172) -/

/-- FEEDING entered, up to FWD_LIMIT's check. -/
theorem enterFeeding_cases (s : State) : ∃ u : State, u.saw.st = .feeding ∧ u.inu = s.inu ∧
    s.enterFeeding = if u.active .fwdLimit then u.sawFault .fwdLimit else u.onSaw fun w => w.setFeedRate u.strokeRate := by
  have hw : Works s (s.clearCutWanted.enterSaw .feeding) := Works.refl.clearCutWanted.enterSaw
  have hst : (s.clearCutWanted.enterSaw .feeding).saw.st = .feeding := by rw [enterSaw_saw]
  have hinu := hw.inu
  unfold State.enterFeeding
  generalize s.clearCutWanted.enterSaw .feeding = v at hst hinu
  dsimp only
  split
  · exact ⟨v, hst, hinu, rfl⟩
  · refine ⟨State.onSaw v _, ?_, ?_, rfl⟩
    · exact hst
    · exact hinu

/-- A saw record released toward IDLE at the end of the work, with CLUTCH_IN active (R13, R18, R24). -/
theorem sawWant_off_live_in (hi : s.sawSlot = some i) (hr : s.record i = some r) (ht : r.target = .clutch)
    (hw : r.wanted = true) (hst : r.state = .live) (hin : s.active .clutchIn = true) (hnone : s.alt.strict = none) :
    s.sawWant false = { s with alt := { s.alt with
      slots := s.alt.slots.set i (some { r with wanted := false, state := .releasing .idle, reason := some .demandOff })
      changed := s.alt.changed.set i true, clutch := false, wait := some (.release (s.param .clutchTimeout * 1000)) } } := by
  have hk := kind_of_sawSlot hi hr
  have hne : ¬ r.state = .granted := by rw [hst]; nofun
  have hrelease := (beginRelease_clutch_in (b := true) (d := .idle) (reason := some .demandOff)
    (record_setRecord_self s i (some { r with wanted := false })) hk ht (.inr hst) hin).trans
    (checkStrict_of_none (by exact hnone))
  simp only [State.sawWant, hi]
  rw [setWanted_off_switched hr hw (.inr hst), hrelease]
  simp only [State.declutching, hne, if_false, slots_set_twice]
  rfl

end

end Sys2Proof.Machine
end

section
/-! SUPPORT. The stroke's return and the arrival home, case by case (R161 to R165). -/

namespace Sys2Proof.Machine

-- each theorem's proof is checked before the next begins, so that few threads are needed
set_option Elab.async false

/-! ## The cut list, the stroke and the return stay while SAW goes on to the next order (R158, R159, R165) -/

/-- The cut list, the stroke and the return are as they were. -/
def Saw.SameWork (w w' : Saw) : Prop := w'.cuts = w.cuts ∧ w'.ret = w.ret ∧ w'.stroke = w.stroke

section
variable {s : State} {i : Slot} {r : Allotment} {kind : ReturnKind}

theorem enterSaw_sameWork (s : State) (st : SawState) : s.saw.SameWork (s.enterSaw st).saw := by
  rw [enterSaw_saw]
  exact ⟨rfl, rfl, rfl⟩

section
variable (hcut : s.sawCutting = false) (hnone : s.alt.strict = none)
include hcut hnone

theorem enterFeedWait_sameWork : s.saw.SameWork s.enterFeedWait.saw := by
  rw [enterFeedWait_of_idle hcut hnone, enterSaw_eq]
  exact ⟨rfl, rfl, rfl⟩

theorem beginSettle_sameWork : s.saw.SameWork s.beginSettle.saw := by
  by_cases htime : s.param .setSettle = 0
  · have hwait := enterFeedWait_sameWork (s := s.onSaw fun w =>
      { w with waitTimer := none, setting := w.setting.map fun k => { k with stage := .settle } }) hcut hnone
    rw [State.beginSettle, if_pos (by exact htime)]
    exact hwait
  · rw [beginSettle_of_time htime]
    exact ⟨rfl, rfl, rfl⟩

theorem beginSetWait_sameWork : s.saw.SameWork s.beginSetWait.saw := by
  cases hdone : s.active .setDone
  · rw [beginSetWait_of_waiting hdone]
    exact ⟨rfl, rfl, rfl⟩
  · have hsettle := beginSettle_sameWork (s := s.onSaw fun w =>
      { w with setworks := .idle, waitTimer := msTimer ((s.param .setTimeoutCode + 1) * 16)
               setting := w.setting.map fun k => { k with stage := .wait } }) hcut hnone
    rw [State.beginSetWait, if_pos (by exact hdone)]
    exact hsettle

theorem beginSetMove_sameWork (n : Nat) : s.saw.SameWork (s.beginSetMove n).saw := by
  by_cases hn : n = 0
  · have hwait := beginSetWait_sameWork (s := s.onSaw fun w => { w with setting := some { remaining := n, stage := .move } })
      hcut hnone
    rw [State.beginSetMove, if_pos hn]
    exact hwait
  · rw [beginSetMove_of_pos hn]
    exact ⟨rfl, rfl, rfl⟩

theorem beginOrder_sameWork : s.saw.SameWork s.beginOrder.saw := by
  unfold State.beginOrder
  split
  · exact enterFeedWait_sameWork hcut hnone
  · obtain ⟨hcuts, hret, hstroke⟩ := enterSaw_sameWork s .setting
    obtain ⟨hcuts', hret', hstroke'⟩ := beginSetMove_sameWork (s := s.enterSaw .setting) (by rw [enterSaw_eq]; exact hcut)
      (by rw [enterSaw_eq]; exact hnone) (s.saw.headThickness * s.param .setStepsPerMm / 10)
    exact ⟨hcuts'.trans hcuts, hret'.trans hret, hstroke'.trans hstroke⟩

/-- How SAW goes on after a stroke's or a homing return. -/
theorem afterReturn_outcome (hkind : kind ≠ .abort) :
    s.saw.SameWork (s.afterReturn kind).saw ∧
    ((s.saw.cuts = [] ∨ s.saw.stopFlag = true) →
      (s.afterReturn kind).saw.st = .releasing ∨ (s.afterReturn kind).saw.st = .idle) ∧
    (∀ o rest, s.saw.cuts = o :: rest → s.saw.stopFlag = false → o.thickness = 0 →
      (s.afterReturn kind).saw.st = .feedWait ∧ (s.afterReturn kind).saw.cutWanted = true) ∧
    (∀ o rest, s.saw.cuts = o :: rest → s.saw.stopFlag = false → 1 ≤ o.thickness * s.param .setStepsPerMm / 10 →
      (s.afterReturn kind).saw.st = .setting ∧ (s.afterReturn kind).saw.setting =
        some { remaining := o.thickness * s.param .setStepsPerMm / 10, stage := .move }) := by
  have hends : (s.saw.cuts = [] ∨ s.saw.stopFlag = true) → s.saw.SameWork (s.afterReturn kind).saw ∧
      ((s.afterReturn kind).saw.st = .releasing ∨ (s.afterReturn kind).saw.st = .idle) := by
    intro h
    rw [afterReturn_ends hkind h]
    refine ⟨?_, enterReleasing_st _⟩
    have hwork := enterSaw_sameWork (s.sawWant false) (if (s.sawWant false).sawReleasing then .releasing else .idle)
    rw [sawWant_saw] at hwork
    exact hwork
  refine ⟨?_, fun h => (hends h).2, fun o rest ho hstop hthick => ?_, fun o rest ho hstop hsteps => ?_⟩
  · cases hc : s.saw.cuts with
    | nil => exact (hends (.inl hc)).1
    | cons o rest =>
      cases hstop : s.saw.stopFlag
      · rw [afterReturn_next hkind hc hstop]
        exact beginOrder_sameWork hcut hnone
      · exact (hends (.inr hstop)).1
  · rw [afterReturn_next hkind ho hstop, beginOrder_flat ho hthick, enterFeedWait_of_idle hcut hnone, enterSaw_eq]
    exact ⟨rfl, rfl⟩
  · have hthick : o.thickness ≠ 0 := by
      intro h
      rw [h, Nat.zero_mul] at hsteps
      exact absurd hsteps (by decide)
    rw [afterReturn_next hkind ho hstop, beginOrder_set ho hthick (Nat.pos_iff_ne_zero.mp hsteps), enterSaw_eq]
    exact ⟨rfl, rfl⟩

end

/-! ## The return at a stroke's end (R163, R164) -/

section
variable (hi : s.sawSlot = some i) (hk : r.kind = .saw) (hnone : s.alt.strict = none)
include hi hk hnone

/-- A stroke's return that begins at home: the head order leaves, SAW goes on (R165). -/
theorem strokeDone_home (hhome : s.inu.homed = true) (hcount : s.inu.count = 0) :
    ∃ t, (s.strokeDone i r).enterReturning .stroke = t ∧ t.saw.cuts = s.saw.cuts.tail ∧ t.saw.ret = none ∧
      t.saw.stroke = none ∧
      ((s.saw.cuts.tail = [] ∨ s.saw.stopFlag = true) → t.saw.st = .releasing ∨ t.saw.st = .idle) ∧
      (∀ o rest, s.saw.cuts.tail = o :: rest → s.saw.stopFlag = false → o.thickness = 0 →
        t.saw.st = .feedWait ∧ t.saw.cutWanted = true) ∧
      (∀ o rest, s.saw.cuts.tail = o :: rest → s.saw.stopFlag = false → 1 ≤ o.thickness * s.param .setStepsPerMm / 10 →
        t.saw.st = .setting ∧ t.saw.setting =
          some { remaining := o.thickness * s.param .setStepsPerMm / 10, stage := .move }) := by
  have hat : (s.strokeDone i r).atHome = true := atHome_iff.mpr ⟨hhome, hcount⟩
  obtain ⟨u, hu⟩ : ∃ u, u = ((s.strokeDone i r).returnBegun .stroke).homeReached .stroke := ⟨_, rfl⟩
  have hbegun : (s.strokeDone i r).enterReturning .stroke = u.afterReturn .stroke := by
    rw [enterReturning_of_home hat, arriveHome_eq, hu]
  rw [State.returnBegun, enterSaw_eq] at hu
  have hslots : u.alt.slots = s.alt.slots.set i (some { r with trimmed := true, reason := some .trimmed }) := by
    rw [hu]
    rfl
  have hcut : u.sawCutting = false := sawCutting_of_slot_trimmed (sawSlot_of_set hi (by exact hk) hslots)
    ((record_of_slots hslots i).trans (if_pos rfl)) rfl
  have hwork : u.saw.cuts = s.saw.cuts.tail ∧ u.saw.ret = none ∧ u.saw.stroke = none ∧ u.saw.stopFlag = s.saw.stopFlag ∧
      u.params = s.params := by
    rw [hu]
    exact ⟨rfl, rfl, rfl, rfl, rfl⟩
  obtain ⟨hcuts, hret, hstroke, hstop, hparams⟩ := hwork
  have hsteps : u.param .setStepsPerMm = s.param .setStepsPerMm := congrArg (fun v => Params.get v .setStepsPerMm) hparams
  obtain ⟨⟨hcuts', hret', hstroke'⟩, hgoes⟩ := afterReturn_outcome (kind := .stroke) hcut (by rw [hu]; exact hnone) nofun
  rw [hcuts, hstop, hsteps] at hgoes
  exact ⟨_, hbegun, hcuts'.trans hcuts, hret'.trans hret, hstroke'.trans hstroke, hgoes⟩

end

/-- A return that begins at REV_LIMIT faults (R164). -/
theorem enterReturning_limit_outcome (haway : ¬ (s.inu.homed = true ∧ s.inu.count = 0)) (hrev : s.active .revLimit = true) :
    (s.enterReturning kind).saw.st = .fault ∧ (s.enterReturning kind).saw.cause = .revLimit ∧
    (s.enterReturning kind).saw.feed = .idle ∧ (s.enterReturning kind).saw.cuts = s.saw.cuts := by
  have hsaw : (s.returnBegun kind).saw = { s.saw with st := .returning, ret := some (s.returnRec kind) } := by
    rw [State.returnBegun, enterSaw_eq]
    rfl
  rw [enterReturning_of_limit haway hrev, sawFault_saw (by rw [hsaw]; nofun), hsaw]
  exact ⟨rfl, rfl, rfl, rfl⟩

/-- FEEDING entered at FWD_LIMIT faults (R161). -/
theorem enterFeeding_limit_outcome (hfwd : s.active .fwdLimit = true) : s.enterFeeding.saw.st = .fault ∧
    s.enterFeeding.saw.cause = .fwdLimit ∧ s.enterFeeding.saw.feed = .idle := by
  obtain ⟨u, hst, hinu, h⟩ := enterFeeding_cases s
  have hactive : u.active .fwdLimit = true := by
    rw [← hfwd]
    simp only [State.active, State.chan, hinu]
  rw [h, if_pos hactive]
  exact stall_outcome (by rw [hst]; nofun) .fwdLimit

/-! ## Return steps (R164) -/

/-- A return step in RETURNING. -/
theorem exec_returnStep_of {k : ReturnRec} (hrun : s.inReset = false) (hst : s.saw.st = .returning)
    (hfeed : ∃ fwd rate left, s.saw.feed = .stepping fwd rate left) (hk : s.saw.ret = some k) :
    exec .returnStep s = .next (s.returnStep k) := by
  obtain ⟨fwd, rate, left, hf⟩ := hfeed
  show execReturnStep s = _
  simp only [execReturnStep, event_of_running hrun, hf, hk, hst, if_true]

/-! ## The home mark (R64, R165) -/

/-- The home mark in RETURNING, by a reverse move with Z high: the return arrives home. -/
theorem exec_encoderChange_home {k : ReturnRec} {a b : Bool} (hrun : s.inReset = false) (hst : s.saw.st = .returning)
    (hk : s.saw.ret = some k) (hab : (a, b) = (s.inu.quadB, !s.inu.quadA)) :
    exec (.encoderChange a b true) s = .next (({ s with inu := { s.inu with
      pinA := a, pinB := b, pinZ := true, quadA := a, quadB := b, count := 0, homed := true } } : State).arriveHome k.kind) := by
  rw [exec_encoderChange_of_running hrun, encoderMove_reverse_of_high (quadMove_eq_reverse_iff.mpr hab)]
  refine congrArg Host.Outcome.next ?_
  simp only [State.homeMark, State.onInu, hst, hk]
  rfl

end

end Sys2Proof.Machine
end

section
/-! SUPPORT. The settling of the statement on the carriage (R161 to R165, R172). -/

namespace Sys2Proof.Machine

-- each theorem's proof is checked before the next begins, so that few threads are needed
set_option Elab.async false

section
variable {s u : State} {i : Slot} {r : Allotment} {kind : ReturnKind}

/-! ## What follows the home mark (R165) -/

/-- SAW_STATE raised by a state entered. -/
def State.into (s : State) (st : SawState) : State :=
  { s with
    saw := { s.saw with st }
    rqp := { s.rqp with latched := s.rqp.latched ||| Cause.sawState.bit } }

theorem enterSaw_into {st : SawState} (h : s.saw.st ≠ st) : s.enterSaw st = s.into st := enterSaw_of_ne h

section
variable (hst : s.saw.st = .returning)
include hst

/-- An abort return that arrives home with no saw record, or one that does not release. -/
theorem afterReturn_abort_idle (h : s.sawReleasing = false) : s.afterReturn .abort = s.into .idle := by
  show s.enterSaw _ = _
  rw [h]
  exact enterSaw_into (by rw [hst]; nofun)

/-- An abort return that arrives home while the saw record releases. -/
theorem afterReturn_abort_releasing (h : s.sawReleasing = true) : s.afterReturn .abort = s.into .releasing := by
  show s.enterSaw _ = _
  rw [h]
  exact enterSaw_into (by rw [hst]; nofun)

/-- A return that ends the work releases the LIVE saw record. -/
theorem afterReturn_work_ends (hk : kind ≠ .abort) (hends : s.saw.cuts = [] ∨ s.saw.stopFlag = true)
    (hi : s.sawSlot = some i) (hr : s.record i = some r) (hlive : r.state = .live) (hw : r.wanted = true)
    (ht : r.target = .clutch) (hin : s.active .clutchIn = true) (hnone : s.alt.strict = none) :
    s.afterReturn kind = ({ s with alt := { s.alt with
      slots := s.alt.slots.set i (some { r with wanted := false, state := .releasing .idle, reason := some .demandOff })
      changed := s.alt.changed.set i true
      clutch := false, wait := some (.release (s.param .clutchTimeout * 1000)) } } : State).into .releasing := by
  rw [afterReturn_ends hk hends, sawWant_off_live_in hi hr ht hw hlive hin hnone, State.enterReleasing,
    sawReleasing_of_slot (r := { r with wanted := false, state := .releasing .idle, reason := some .demandOff })
      (sawSlot_of_set hi (by have h := kind_of_sawSlot hi hr; exact h) rfl) ((record_of_slots (s := s) rfl i).trans (if_pos rfl))]
  exact enterSaw_into (by show s.saw.st ≠ _; rw [hst]; nofun)

/-- A return goes on with an order without a setting. -/
theorem afterReturn_flat {o : CutOrder} {rest : List CutOrder} (hk : kind ≠ .abort) (ho : s.saw.cuts = o :: rest)
    (hstop : s.saw.stopFlag = false) (hthick : o.thickness = 0)
    (htrim : ∀ i r, s.record i = some r → r.kind = .saw → r.trimmed = true) (hnone : s.alt.strict = none) :
    s.afterReturn kind = (s.into .feedWait).onSaw fun w => { w with setting := none, cutWanted := true } := by
  rw [afterReturn_next hk ho hstop, beginOrder_flat ho hthick, enterFeedWait_of_idle (sawCutting_of_trimmed htrim) hnone,
    enterSaw_into (by rw [hst]; nofun)]

/-- A return goes on with an order's setting. -/
theorem afterReturn_set {o : CutOrder} {rest : List CutOrder} (hk : kind ≠ .abort) (ho : s.saw.cuts = o :: rest)
    (hstop : s.saw.stopFlag = false) (hthick : o.thickness ≠ 0) (hsteps : o.thickness * s.param .setStepsPerMm / 10 ≠ 0) :
    s.afterReturn kind = (s.into .setting).onSaw fun w => { w with
      setting := some { remaining := o.thickness * s.param .setStepsPerMm / 10, stage := .move }
      setworks := .stepping true 2000 500 } := by
  rw [afterReturn_next hk ho hstop, beginOrder_set ho hthick hsteps, enterSaw_into (by rw [hst]; nofun)]

end

/-! ## The return at a stroke's end (R163, R164) -/

/-- A stroke's return that begins away from home (R163, R164). -/
theorem strokeDone_away (hst : s.saw.st = .feeding) (haway : ¬ (s.inu.homed = true ∧ s.inu.count = 0))
    (hrev : s.active .revLimit = false) : (s.strokeDone i r).enterReturning .stroke =
      ((s.strokeDone i r).into .returning).onSaw fun w => { w with
        ret := some (s.returnRec .stroke), feedRate := s.returnRate
        feed := .stepping false s.returnRate (1000000 / s.returnRate) } := by
  rw [enterReturning_of_away (s := s.strokeDone i r) haway hrev, enterSaw_into (by show s.saw.st ≠ _; rw [hst]; nofun)]
  rfl

/-- The stall of a stroke keeps the cut list. -/
theorem strokeStalled_outcome (hst : s.saw.st = .feeding) (k : StrokeRec) :
    ((s.strokeStepped k).sawFault .stall).saw.st = .fault ∧ ((s.strokeStepped k).sawFault .stall).saw.cause = .stall ∧
    ((s.strokeStepped k).sawFault .stall).saw.feed = .idle ∧ ((s.strokeStepped k).sawFault .stall).saw.cuts = s.saw.cuts := by
  rw [sawFault_saw (by show s.saw.st ≠ _; rw [hst]; nofun)]
  exact ⟨rfl, rfl, rfl, rfl⟩

end

/-- Settles O55: the feed step by its count, the return step by its allowance, the home mark by the return's kind. -/
theorem carriageStepsAndArrivesHome : Obligations.CarriageStepsAndArrivesHome := by
  refine ⟨fun s k i r hrun hst hfeed hk hi hr => ?_, fun s t c hrun hx hraw ht => ?_, fun s =>
    ⟨fun hfwd _ => enterFeeding_limit_outcome hfwd, fun kind hrev haway => ?_⟩, fun s k hrun hst hk =>
    ⟨fun hfeed => ⟨fun hlt => ?_, fun hle => ?_⟩, fun a b home hab hnone hhome => ?_⟩⟩
  · have hexec := exec_feedStep_of hrun hst hfeed hk
    refine ⟨fun hnot => ?_, fun hlive htrim => ?_⟩
    · rw [hexec, sawCutting_of_not hi hr hnot]
      rfl
    · rw [sawCutting_of_live hi hr hlive htrim, if_pos rfl] at hexec
      have hsaw := kind_of_sawSlot hi hr
      rw [hexec]
      refine ⟨fun hlt => congrArg Host.Outcome.next (if_neg (Nat.not_le.mpr hlt)), fun hlast hout => ⟨_, rfl, ?_⟩,
        fun hlast hnone hcut hin haway hrev => ?_, fun hlast hnone hin => ⟨fun haway hrev => ⟨_, rfl, ?_⟩, fun hhome hcount => ?_⟩⟩
      · rw [feedStep_stalled hst hlast hout]
        exact strokeStalled_outcome hst k
      · rw [feedStep_ended hst hlast hin hnone hi hr hlive htrim, strokeDone_away hst haway hrev]
        simp only [State.strokeDone, ← hcut]
        rfl
      · rw [feedStep_ended hst hlast hin hnone hi hr hlive htrim]
        exact enterReturning_limit_outcome (s := s.strokeDone i r) haway hrev
      · obtain ⟨t, ht, hout⟩ := strokeDone_home hi hsaw hnone hhome hcount
        exact ⟨t, congrArg Host.Outcome.next ((feedStep_ended hst hlast hin hnone hi hr hlive htrim).trans ht), hout⟩
  · obtain rfl : t = s.accepted c := ht.trans (accepted_of_active hraw).symm
    have hfault : ∀ {st cause}, s.saw.st = st → st ≠ .fault →
        ((s.accepted c).sawFault cause).saw.st = .fault ∧ ((s.accepted c).sawFault cause).saw.cause = cause := by
      rintro st cause rfl hne
      obtain ⟨hst, hcause, -⟩ := stall_outcome (s := s.accepted c) hne cause
      exact ⟨hst, hcause⟩
    refine ⟨?_, ?_, ?_, ?_⟩
    · rintro rfl hst
      exact exec_debounceAccept_active hrun hx hraw (if_neg (by exact hst))
    · rintro rfl hst
      exact exec_debounceAccept_active hrun hx hraw (if_neg (by exact hst))
    · rintro rfl hst
      exact ⟨exec_debounceAccept_active hrun hx hraw (if_pos (by exact hst)), hfault hst nofun⟩
    · rintro rfl hst
      exact ⟨exec_debounceAccept_active hrun hx hraw (if_pos (by exact hst)), hfault hst nofun⟩
  · obtain ⟨hst, hcause, hfeed, -⟩ := enterReturning_limit_outcome (kind := kind) haway hrev
    exact ⟨hst, hcause, hfeed⟩
  · rw [exec_returnStep_of hrun hst hfeed hk]
    exact congrArg Host.Outcome.next (if_neg (Nat.not_le.mpr hlt))
  · refine ⟨_, exec_returnStep_of hrun hst hfeed hk, ?_⟩
    rw [State.returnStep, if_pos hle, sawFault_saw (by show s.saw.st ≠ _; rw [hst]; nofun)]
    exact ⟨rfl, rfl, rfl, rfl⟩
  · rw [exec_encoderChange_home hrun hst hk hab, arriveHome_eq]
    subst hhome
    have habort : k.kind = .abort → ∀ v : State, v.afterReturn k.kind = v.afterReturn .abort := fun h v => by rw [h]
    refine ⟨fun hkind hno => ?_, fun hkind i r d hi hr hrel => ?_, fun hkind i r hi hr hrel => ?_,
      fun hkind hends i r hi hr hlive hw ht hin => ?_, fun hkind hstop o rest ho hthick htrim => ?_,
      fun hkind hstop o rest steps ho hthick hsteps hpos => ?_⟩
    · have hi : s.sawSlot = none := by
        cases hi : s.sawSlot with
        | none => rfl
        | some i =>
          obtain ⟨r, hr, hsaw⟩ := sawSlot_some hi
          exact absurd hsaw (hno i r hr)
      rw [habort hkind, afterReturn_abort_idle (by exact hst) (sawReleasing_of_none (by exact hi))]
      rfl
    · rw [habort hkind, afterReturn_abort_releasing (by exact hst)
        ((sawReleasing_of_slot (r := r) (by exact hi) (by exact hr)).trans (isReleasing_iff.mpr ⟨d, hrel⟩))]
      rfl
    · rw [habort hkind, afterReturn_abort_idle (by exact hst) ((sawReleasing_of_slot (r := r) (by exact hi) (by exact hr)).trans
        (Bool.eq_false_iff.mpr fun h => (isReleasing_iff.mp h).elim hrel))]
      rfl
    · rw [afterReturn_work_ends (r := r) (by exact hst) hkind (by exact hends) (by exact hi) (by exact hr) hlive hw ht (by exact hin)
        (by exact hnone)]
      rfl
    · rw [afterReturn_flat (by exact hst) hkind (by exact ho) (by exact hstop) hthick (by exact htrim) (by exact hnone)]
      rfl
    · subst hsteps
      rw [afterReturn_set (by exact hst) hkind (by exact ho) (by exact hstop) hthick (by exact hpos)]
      rfl

end Sys2Proof.Machine
end

section
/-! SUPPORT. SAW_ABORT in any work state: the want dropped, and SAW at home or returning (R171). -/

namespace Sys2Proof.Machine

-- each theorem's proof is checked before the next begins, so that few threads are needed
set_option Elab.async false

/-! ## A record unwanted stays so through releases and faults (R13, R18, R19) -/

/-- The record in a slot, if there is one, is not wanted. -/
def State.UnwantedAt (s : State) (i : Slot) : Prop := ∀ r, s.record i = some r → r.wanted = false

section
variable {s t : State} {i j : Slot}

theorem UnwantedAt.congr (h : s.UnwantedAt i) (ht : t.record i = s.record i) : t.UnwantedAt i := fun r hr => h r (ht ▸ hr)

theorem UnwantedAt.setRecord {x : Option Allotment} (h : s.UnwantedAt i) (hx : ∀ r ∈ x, j = i → r.wanted = false) :
    (s.setRecord j x).UnwantedAt i := by
  intro r hr
  by_cases hij : i = j
  · subst hij
    rw [record_setRecord_self] at hr
    exact hx r (hr ▸ rfl) rfl
  · rw [record_setRecord_ne s x hij] at hr
    exact h r hr

theorem UnwantedAt.checkStrict (h : s.UnwantedAt i) : s.checkStrict.UnwantedAt i := by
  intro r hr
  rcases checkStrict_record s i with hs | hs <;> rw [hs] at hr
  · exact h r hr
  · obtain ⟨r', hr', rfl⟩ := Option.map_eq_some_iff.mp hr
    exact h r' hr'

/-- A completed release keeps the want. -/
theorem released_wanted {r r' : Allotment} {d : Dest} (h : r.released d = some r') : r'.wanted = r.wanted := by
  cases d with
  | vacant => cases h
  | held k =>
    obtain rfl := Option.some.inj h
    rfl
  | shed =>
    simp only [Allotment.released] at h
    split at h <;> obtain rfl := Option.some.inj h <;> rfl
  | idle =>
    simp only [Allotment.released, toPending_eq] at h
    split at h
    · obtain rfl := Option.some.inj h
      split <;> rfl
    · obtain rfl := Option.some.inj h
      rfl

theorem UnwantedAt.openRelease {b : Bool} {d : Dest} {reason : Option Reason} (h : s.UnwantedAt i) :
    (s.openRelease b j d reason).UnwantedAt i := by
  unfold State.openRelease
  split
  · exact h
  · next r hr =>
    refine UnwantedAt.congr (UnwantedAt.setRecord (s := if r.state = .granted then (s.subGranted r.share).ballastStep .down r.share else s)
      (j := j) (x := some { r with state := .releasing d, reason := reason.or r.reason }) ?_ ?_) ?_
    · split <;> exact h
    · rintro x hx rfl
      obtain rfl := Option.mem_some_iff.mp hx
      exact h r hr
    · rw [orderOpen_record, record_noteChange]

theorem UnwantedAt.completeRelease {b withStep : Bool} (h : s.UnwantedAt i) : (s.completeRelease b withStep j).UnwantedAt i := by
  cases hr : s.record j with
  | none => simpa only [State.completeRelease, hr] using h
  | some r =>
    cases hst : r.state
    case releasing d =>
      rw [completeRelease_of hr hst]
      refine UnwantedAt.congr (UnwantedAt.setRecord (s := if withStep then s.ballastStep .up r.releaseStep else s) (j := j)
        (x := Allotment.released { r with trimmed := r.trimmed || decide (r.kind = Kind.saw) } d) ?_ ?_) ?_
      · split <;> exact h
      · rintro x hx rfl
        exact (released_wanted hx).trans (h r hr)
      · rw [endWait_record, record_noteChange]
    all_goals simpa only [State.completeRelease, hr, hst] using h

theorem UnwantedAt.beginRelease {b : Bool} {d : Dest} {reason : Option Reason} (h : s.UnwantedAt i) :
    (s.beginRelease b j d reason).UnwantedAt i := by
  refine UnwantedAt.checkStrict ?_
  have hopen := UnwantedAt.openRelease (b := b) (j := j) (d := d) (reason := reason) h
  unfold State.settleRelease
  split
  · exact hopen
  · split
    · exact UnwantedAt.completeRelease hopen
    · split
      · exact hopen
      · exact UnwantedAt.completeRelease hopen
    · exact hopen

/-- A record without a want put in a slot. -/
theorem unwantedAt_put {r' : Allotment} (h : s.UnwantedAt i ∨ j = i) (hw : r'.wanted = false) :
    (s.setRecord j (some r')).UnwantedAt i := by
  intro r hr
  by_cases hij : i = j
  · subst hij
    rw [record_setRecord_self] at hr
    exact Option.some.inj hr ▸ hw
  · rw [record_setRecord_ne s _ hij] at hr
    exact h.elim (fun h => h r hr) fun h => absurd h.symm hij

/-- The want dropped in a slot. -/
theorem unwantedAt_setWanted {b : Bool} (h : s.UnwantedAt i ∨ j = i) : (s.setWanted b j false).UnwantedAt i := by
  cases hr : s.record j with
  | none =>
    have hsame : s.setWanted b j false = s := by simp only [State.setWanted, hr]
    rw [hsame]
    rcases h with h | rfl
    · exact h
    · exact fun r hr' => absurd (hr.symm.trans hr') nofun
  | some r =>
    cases hw : r.wanted
    · rw [setWanted_same hr hw]
      rcases h with h | rfl
      · exact h
      · exact fun r' hr' => Option.some.inj (hr.symm.trans hr') ▸ hw
    · have hwaiting : r.state = .pending ∨ r.state = .shed → (s.setWanted b j false).UnwantedAt i := by
        intro hst
        rw [setWanted_off_waiting hr hw hst]
        refine UnwantedAt.checkStrict (UnwantedAt.congr (unwantedAt_put h ?_) (record_noteChange ..))
        rfl
      have hswitched : r.state = .granted ∨ r.state = .live → (s.setWanted b j false).UnwantedAt i := by
        intro hst
        rw [setWanted_off_switched hr hw hst]
        exact UnwantedAt.beginRelease (unwantedAt_put h rfl)
      have hresting : (r.state = .idle ∨ (∃ d, r.state = .releasing d) ∨ ∃ h, r.state = .held h) →
          (s.setWanted b j false).UnwantedAt i := by
        intro hst
        rw [setWanted_off_resting hr hst]
        exact unwantedAt_put h rfl
      cases hst : r.state with
      | pending => exact hwaiting (.inl hst)
      | shed => exact hwaiting (.inr hst)
      | granted => exact hswitched (.inl hst)
      | live => exact hswitched (.inr hst)
      | idle => exact hresting (.inl hst)
      | releasing d => exact hresting (.inr (.inl ⟨d, hst⟩))
      | held h => exact hresting (.inr (.inr ⟨h, hst⟩))

/-- A saw fault gives no record a want. -/
theorem UnwantedAt.sawFaultAtAlt (h : s.UnwantedAt i) : s.sawFaultAtAlt.UnwantedAt i := by
  unfold State.sawFaultAtAlt
  split
  · exact h
  · next j _ =>
    split
    · exact h
    · next r _ =>
      have hdrop : (s.setRecord j (some { r with wanted := false })).UnwantedAt i := unwantedAt_put (.inl h) rfl
      split
      · exact UnwantedAt.beginRelease hdrop
      · exact UnwantedAt.beginRelease hdrop
      · exact unwantedAt_setWanted (.inl h)
      · exact unwantedAt_setWanted (.inl h)
      all_goals exact hdrop

/-- Cut power wanted cleared gives no record a want. -/
theorem UnwantedAt.clearCutWanted (h : s.UnwantedAt i) : s.clearCutWanted.UnwantedAt i := by
  unfold State.clearCutWanted State.setCutWanted
  split
  · exact UnwantedAt.checkStrict h
  · exact h

/-- A saw fault gives no record a want. -/
theorem UnwantedAt.sawFault {cause : FaultCause} (h : s.UnwantedAt i) : (s.sawFault cause).UnwantedAt i := by
  unfold State.sawFault
  split
  · exact h
  · have hstopped : ((s.onSaw Saw.stopMotion).clearCutWanted.onSaw Saw.dropPhase).UnwantedAt i :=
      UnwantedAt.clearCutWanted (s := s.onSaw Saw.stopMotion) h
    have hfault := UnwantedAt.sawFaultAtAlt hstopped
    dsimp only
    rw [enterSaw_eq]
    exact hfault

/-- The strict slot's check leaves the saw slot where it is. -/
theorem sawSlot_checkStrict (s : State) : s.checkStrict.sawSlot = s.sawSlot := by
  refine congrArg (allSlots.find? ·) (funext fun j => ?_)
  rcases checkStrict_record s j with h | h <;> rw [h]
  cases s.record j <;> rfl

/-! ## The abort's work (R171) -/

/-- What SAW is left with by the abort's first steps. -/
def Saw.aborted (w : Saw) : Saw :=
  { w with cutWanted := false, remembered := none, setting := none, stroke := none, ret := none, feedRate := 0
           spinTimer := none, waitTimer := none, settleTimer := none, feed := .idle, setworks := .idle }

/-- SAW after the abort's first steps. -/
theorem abortWork_saw (s : State) : s.abortWork.saw = s.saw.aborted := by
  simp only [State.abortWork, sawWant_saw, onSaw_saw, clearCutWanted_saw]
  rfl

theorem abortWork_works (s : State) : Works s s.abortWork := ((Works.refl.onSaw.clearCutWanted).onSaw).sawWant

/-- The saw record is not wanted after the abort's first steps. -/
theorem abortWork_unwanted (hi : s.sawSlot = some i) : s.abortWork.UnwantedAt i := by
  have hslot : ((s.onSaw Saw.stopMotion).clearCutWanted.onSaw Saw.dropPhase).sawSlot = some i := by
    show (s.onSaw Saw.stopMotion).clearCutWanted.sawSlot = some i
    unfold State.clearCutWanted State.setCutWanted
    split
    · rw [sawSlot_checkStrict]
      exact hi
    · exact hi
  simp only [State.abortWork, State.sawWant, hslot]
  exact unwantedAt_setWanted (.inr rfl)

/-- SAW as an abort leaves it. -/
structure Saw.LeftByAbort (w w' : Saw) : Prop where
  stopped : w'.setworks = .idle ∧ w'.spinTimer = none ∧ w'.waitTimer = none ∧ w'.settleTimer = none
  dropped : w'.setting = none ∧ w'.stroke = none ∧ w'.remembered = none ∧ w'.cutWanted = false
  kept : w'.cuts = w.cuts ∧ w'.stopFlag = w.stopFlag

section
variable {answer : Answer}

/-- An abort at home: SAW in RELEASING_SAW or SAW_IDLE (R165). -/
theorem abortSaw_home (hhome : s.inu.homed = true) (hcount : s.inu.count = 0) : ∃ t, s.abortSaw = done t [] ∧
    (t.saw.st = .releasing ∨ t.saw.st = .idle) ∧ t.saw.feed = .idle ∧ s.saw.LeftByAbort t.saw ∧
    ∀ i, s.abortWork.UnwantedAt i → t.UnwantedAt i := by
  have hinu : s.abortWork.inu = s.inu := (abortWork_works s).inu
  have hat : s.abortWork.atHome = true := atHome_iff.mpr (by rw [hinu]; exact ⟨hhome, hcount⟩)
  have hsaw : s.abortWork.enterReleasing.saw =
      { s.saw.aborted with st := if s.abortWork.sawReleasing then .releasing else .idle } := by
    rw [← abortWork_saw, State.enterReleasing, enterSaw_saw]
  refine ⟨s.abortWork.enterReleasing, if_pos hat, enterReleasing_st _, ?_, ?_, fun i hu => ?_⟩
  · rw [hsaw]
    rfl
  · rw [hsaw]
    exact ⟨⟨rfl, rfl, rfl, rfl⟩, ⟨rfl, rfl, rfl, rfl⟩, rfl, rfl⟩
  · rw [State.enterReleasing, enterSaw_eq]
    exact hu

section
variable (haway : ¬ (s.inu.homed = true ∧ s.inu.count = 0))
include haway

/-- An abort away from home: the abort return (R164). -/
theorem abortSaw_away (hrev : s.active .revLimit = false) : ∃ t, s.abortSaw = accepted t ∧
    t.saw.st = .returning ∧ (∃ k, t.saw.ret = some k ∧ k.kind = .abort) ∧ s.saw.LeftByAbort t.saw ∧
    ∀ i, s.abortWork.UnwantedAt i → t.UnwantedAt i := by
  have hinu : s.abortWork.inu = s.inu := (abortWork_works s).inu
  have haway' : ¬ (s.abortWork.inu.homed = true ∧ s.abortWork.inu.count = 0) := by rwa [hinu]
  have hrev' : s.abortWork.active .revLimit = false := by
    rw [← hrev]
    simp only [State.active, State.chan, hinu]
  refine ⟨_, if_neg (ne_true_of_eq_false (atHome_of_away haway')), ?_⟩
  rw [enterReturning_of_away haway' hrev', enterSaw_eq]
  simp only [State.onSaw, abortWork_saw]
  exact ⟨trivial, ⟨_, rfl, rfl⟩, ⟨⟨rfl, rfl, rfl, rfl⟩, ⟨rfl, rfl, rfl, rfl⟩, rfl, rfl⟩, fun i hu => hu⟩

/-- An abort away from home, at REV_LIMIT: the fault (R172; log 26). -/
theorem abortSaw_limit (hrev : s.active .revLimit = true) : ∃ t, s.abortSaw = accepted t ∧
    (t.saw.st = .fault ∧ t.saw.cause = .revLimit ∧ t.saw.feed = .idle) ∧ s.saw.LeftByAbort t.saw ∧
    ∀ i, s.abortWork.UnwantedAt i → t.UnwantedAt i := by
  have hinu : s.abortWork.inu = s.inu := (abortWork_works s).inu
  have haway' : ¬ (s.abortWork.inu.homed = true ∧ s.abortWork.inu.count = 0) := by rwa [hinu]
  have hrev' : s.abortWork.active .revLimit = true := by
    rw [← hrev]
    simp only [State.active, State.chan, hinu]
  have hsaw : (s.abortWork.returnBegun .abort).saw =
      { s.saw.aborted with st := .returning, ret := some (s.abortWork.returnRec .abort) } := by
    rw [State.returnBegun, enterSaw_eq, ← abortWork_saw]
    rfl
  refine ⟨_, if_neg (ne_true_of_eq_false (atHome_of_away haway')), ?_⟩
  rw [enterReturning_of_limit haway' hrev', sawFault_saw (by rw [hsaw]; nofun), hsaw]
  refine ⟨⟨rfl, rfl, rfl⟩, ⟨⟨rfl, rfl, rfl, rfl⟩, ⟨rfl, rfl, rfl, rfl⟩, rfl, rfl⟩, fun i hu => UnwantedAt.sawFault ?_⟩
  rw [State.returnBegun, enterSaw_eq]
  exact hu

end

end

/-! ## SAW_ABORT's answer (R171) -/

/-- SAW_ABORT in a work state, no abort return in hand. -/
theorem exec_sawAbort_works {u : State} {c : ResultCode} (h : s.Ready) (hidle : s.saw.st ≠ .idle) (hfault : s.saw.st ≠ .fault)
    (hrel : s.saw.st ≠ .releasing) (hret : s.saw.st = .returning → ∀ k, s.saw.ret = some k → k.kind ≠ .abort)
    (hu : s.cleared.abortSaw = (u, ⟨c, []⟩)) :
    exec .sawAbort s = .next (u.onRqp fun q => { q with exec := some ⟨c, []⟩ }) := by
  show execSawAbort s = _
  rw [execSawAbort, request_of_ready h]
  have hact : (match s.cleared.saw.st with
      | .idle | .fault => refuse s.cleared .wrongState
      | .releasing => done s.cleared []
      | .returning => if s.cleared.saw.aborting then done s.cleared [] else s.cleared.abortSaw
      | .claiming | .spinup | .setting | .feedWait | .feeding | .halted => s.cleared.abortSaw) = (u, ⟨c, []⟩) := by
    have hst : s.cleared.saw.st = s.saw.st := rfl
    cases hs : s.saw.st
    case idle => exact absurd hs hidle
    case fault => exact absurd hs hfault
    case releasing => exact absurd hs hrel
    case returning =>
      have hnot : s.cleared.saw.aborting = false := by
        show s.saw.aborting = false
        unfold Saw.aborting
        split
        · next k hk => exact beq_false_of_ne (hret hs k hk)
        · rfl
      simp only [hst, hs, hnot, Bool.false_eq_true, if_false, hu]
    all_goals simp only [hst, hs, hu]
  exact congrArg (fun x : State × Answer => Host.Outcome.next (x.1.onRqp fun q => { q with exec := some x.2 })) hact

end

end Sys2Proof.Machine
end

section
/-! SUPPORT. SAW_ABORT's whole next state, by the saw record's state and where the carriage stands (R13, R171). -/

namespace Sys2Proof.Machine

-- each theorem's proof is checked before the next begins, so that few threads are needed
set_option Elab.async false

section
variable {s v : State} {i : Slot} {r q : Allotment}

/-! ## The strict slot given up (R49) -/

/-- The check of a strict slot, if present, whose record is no candidate. -/
theorem checkStrict_resting (hs : v.alt.strict = none ∨ v.alt.strict = some i) (hq : v.record i = some q)
    (hnot : v.isCandidate i = false) : v.checkStrict = { v with alt := { v.alt with
      strict := none
      slots := v.alt.slots.set i (some { q with starve := if v.alt.strict = some i then 0 else q.starve }) } } := by
  rcases hs with hs | hs
  · have hself := congrArg (fun x : State => x.alt.slots) (setRecord_self hq)
    have hslots : v.alt.slots.set i (some q) = v.alt.slots := hself
    have hne : ¬ v.alt.strict = some i := by rw [hs]; nofun
    rw [checkStrict_of_none hs]
    simp only [hne, if_false, hslots, ← hs]
  · rw [checkStrict_of_not_candidate hs hnot, hq, Option.map_some]
    simp only [hs, if_true]

/-- The record on its way. -/
theorem record_declutching (s : State) (b : Bool) (i : Slot) (r : Allotment) (d : Dest) (reason : Option Reason) :
    (s.declutching b i r d reason).record i = some (r.releasing d reason) := vector_get_set_self ..

/-- The record released toward IDLE, unwanted. -/
theorem record_declutched_idle (s : State) (b : Bool) {r : Allotment} {reason : Option Reason} (i : Slot)
    (hw : r.wanted = false) : (s.declutched b i r .idle reason).record i =
      some { r.releasing .idle reason with state := .idle, trimmed := true } := by
  refine (vector_get_set_self ..).trans ?_
  have hw' : (r.releasing .idle reason).wanted = false := hw
  simp only [Allotment.released, hw', Bool.false_eq_true, if_false]

/-! ## The want dropped, with a strict slot that may be the saw's (R13, R18, R49) -/

section
variable (hs : v.alt.strict = none ∨ v.alt.strict = some i) (hi : v.sawSlot = some i) (hq : v.record i = some q)
include hs hi hq

/-- A saw record that waits for admission goes to IDLE. -/
theorem sawWant_off_waiting (hw : q.wanted = true) (hst : q.state = .pending ∨ q.state = .shed) :
    v.sawWant false = { v with alt := { v.alt with
      slots := v.alt.slots.set i (some { q with
        wanted := false, state := .idle, reason := some .demandOff
        starve := if v.alt.strict = some i then 0 else q.starve })
      changed := v.alt.changed.set i true, strict := none } } := by
  simp only [State.sawWant, hi]
  rw [setWanted_off_waiting hq hw hst]
  have hrec := record_setRecord_self v i (some { q with wanted := false, state := .idle, reason := some .demandOff })
  refine (checkStrict_resting (v := (v.setRecord i (some { q with
    wanted := false, state := .idle, reason := some .demandOff })).noteChange true i) (by exact hs) hrec
    (isCandidate_eq_false hrec nofun nofun nofun)).trans ?_
  exact congrArg (fun slots => { v with alt := { v.alt with slots, changed := v.alt.changed.set i true, strict := none } })
    (slots_set_twice v i _ _)

section
variable (ht : q.target = .clutch) (hw : q.wanted = true) (hst : q.state = .granted ∨ q.state = .live)
include ht hw hst

/-- A switched saw record is released toward IDLE; with CLUTCH_IN active the wait runs. -/
theorem sawWant_off_in (hin : v.active .clutchIn = true) : v.sawWant false = { v with
      alt := { v.alt with
        slots := v.alt.slots.set i (some { q with
          wanted := false, state := .releasing .idle, reason := some .demandOff
          starve := if v.alt.strict = some i then 0 else q.starve })
        changed := v.alt.changed.set i true, strict := none
        gOut := if q.state = .granted then v.alt.gOut - q.idle else v.alt.gOut
        clutch := false, wait := some (.release (v.param .clutchTimeout * 1000)) }
      gov := if q.state = .granted then v.gov.ballastStep v.params .down q.idle else v.gov } := by
  have hk := kind_of_sawSlot hi hq
  simp only [State.sawWant, hi]
  rw [setWanted_off_switched hq hw hst, beginRelease_clutch_in (record_setRecord_self v i (some { q with wanted := false })) hk ht hst hin]
  have hrec := record_declutching (v.setRecord i (some { q with wanted := false })) true i { q with wanted := false } .idle
    (some .demandOff)
  refine (checkStrict_resting (by exact hs) hrec (isCandidate_eq_false hrec nofun nofun nofun)).trans ?_
  simp only [State.declutching, slots_set_twice, Vector.set_set]
  rfl

/-- With CLUTCH_IN inactive the release is complete at once. -/
theorem sawWant_off_out (hin : v.active .clutchIn = false) : v.sawWant false = { v with
      alt := { v.alt with
        slots := v.alt.slots.set i (some { q with
          wanted := false, state := .idle, reason := some .demandOff, trimmed := true
          starve := if v.alt.strict = some i then 0 else q.starve })
        changed := v.alt.changed.set i true, strict := none
        gOut := if q.state = .granted then v.alt.gOut - q.idle else v.alt.gOut
        clutch := false, wait := none }
      gov := (if q.state = .granted then v.gov.ballastStep v.params .down q.idle else v.gov).ballastStep v.params .up
        (q.idle + if q.trimmed then 0 else q.claim - q.idle) } := by
  have hk := kind_of_sawSlot hi hq
  simp only [State.sawWant, hi]
  rw [setWanted_off_switched hq hw hst, beginRelease_clutch_out (record_setRecord_self v i (some { q with wanted := false })) hk ht hst hin]
  have hrec := record_declutched_idle (v.setRecord i (some { q with wanted := false })) true (r := { q with wanted := false })
    (reason := some .demandOff) i rfl
  refine (checkStrict_resting (by exact hs) hrec (isCandidate_eq_false hrec nofun nofun nofun)).trans ?_
  simp only [State.declutched, slots_set_twice, Vector.set_set]
  rfl

end

end

/-! ## The abort's first steps (R171) -/

/-- SAW's work dropped, before the want: the strict slot, where it was the saw's, may be given up already (R49, R160). -/
theorem abortWork_base (hs : s.alt.strict = none ∨ s.alt.strict = some i) (hi : s.sawSlot = some i) (hr : s.record i = some r) :
    ∃ (v : State) (slots : Vector (Option Allotment) Config.slots) (strict : Option Slot) (n : Nat),
      v = { s with saw := s.saw.aborted, alt := { s.alt with slots, strict } } ∧ s.abortWork = v.sawWant false ∧
      v.sawSlot = some i ∧ v.record i = some { r with starve := n } ∧ (strict = none ∨ strict = some i) ∧
      (if strict = some i then 0 else n) = (if s.alt.strict = some i then 0 else r.starve) ∧
      ∀ x, slots.set i x = s.alt.slots.set i x := by
  have hkept : ∀ {u : State}, (s.onSaw Saw.stopMotion).clearCutWanted = u →
      u = (s.onSaw Saw.stopMotion).onSaw (fun w => { w with cutWanted := false }) ∨
      (s.alt.strict = some i ∧ u = (((s.onSaw Saw.stopMotion).onSaw fun w => { w with cutWanted := false }).setRecord i
        (some { r with starve := 0 })).onAlt fun a => { a with strict := none }) := by
    rintro u rfl
    cases hcut : s.saw.cutWanted
    · have hnot : (s.onSaw Saw.stopMotion).saw.cutWanted = false := hcut
      rw [clearCutWanted_of_not hnot]
      exact .inl (congrArg (fun w => { s with saw := w }) (Saw.cutWanted_eta hnot).symm)
    · have hyes : (s.onSaw Saw.stopMotion).saw.cutWanted = true := hcut
      simp only [State.clearCutWanted, hyes, if_true, State.setCutWanted]
      rcases checkStrict_cases ((s.onSaw Saw.stopMotion).onSaw fun w => { w with cutWanted := false }) with h | ⟨j, hj, -, h⟩
      · exact .inl h
      · have hji : j = i := by
          have hj' : s.alt.strict = some j := hj
          rcases hs with hs | hs
          · exact absurd (hs.symm.trans hj') nofun
          · exact Option.some.inj (hj'.symm.trans hs)
        subst hji
        refine .inr ⟨hj, h.trans ?_⟩
        have hrec : ((s.onSaw Saw.stopMotion).onSaw fun w => { w with cutWanted := false }).record j = some r := hr
        rw [hrec]
        rfl
  rcases hkept rfl with h | ⟨hstrict, h⟩
  · refine ⟨_, s.alt.slots, s.alt.strict, r.starve, rfl, ?_, hi, hr, hs, rfl, fun x => rfl⟩
    rw [State.abortWork, h]
    rfl
  · refine ⟨_, s.alt.slots.set i (some { r with starve := 0 }), none, 0, rfl, ?_, ?_, ?_, .inl rfl, ?_, fun x =>
      slots_set_twice s i _ x⟩
    · rw [State.abortWork, h]
      rfl
    · exact sawSlot_of_set hi (by have hk := kind_of_sawSlot hi hr; exact hk) rfl
    · exact vector_get_set_self ..
    · rw [if_pos hstrict]
      rfl

end

end Sys2Proof.Machine
end

section
/-! SUPPORT. The settling of the statement on SAW_ABORT (R171). -/

namespace Sys2Proof.Machine

-- each theorem's proof is checked before the next begins, so that few threads are needed
set_option Elab.async false

section
variable {s : State} {i : Slot} {r r' : Allotment} {alt : Alt} {gov : Gov}

/-- What the dropped want leaves of the saw record, ALT and GOV, by the record's state (R13, R18, R19, R24, R49). -/
def State.WantLeaves (s : State) (i : Slot) (r r' : Allotment) (alt : Alt) (gov : Gov) : Prop :=
  ((r.state = .pending ∨ r.state = .shed) ∧ gov = s.gov ∧
    r' = { r with wanted := false, state := .idle, reason := some .demandOff
                  starve := if s.alt.strict = some i then 0 else r.starve } ∧
    alt = { s.alt with slots := s.alt.slots.set i (some r'), changed := s.alt.changed.set i true, strict := none }) ∨
  ((r.state = .granted ∨ r.state = .live) ∧ s.active .clutchIn = true ∧
    gov = (if r.state = .granted then s.gov.ballastStep s.params .down r.idle else s.gov) ∧
    r' = { r with wanted := false, state := .releasing .idle, reason := some .demandOff
                  starve := if s.alt.strict = some i then 0 else r.starve } ∧
    alt = { s.alt with
      slots := s.alt.slots.set i (some r'), changed := s.alt.changed.set i true, strict := none
      gOut := if r.state = .granted then s.alt.gOut - r.idle else s.alt.gOut
      clutch := false, wait := some (.release (s.param .clutchTimeout * 1000)) }) ∨
  ((r.state = .granted ∨ r.state = .live) ∧ s.active .clutchIn = false ∧
    gov = (if r.state = .granted then s.gov.ballastStep s.params .down r.idle else s.gov).ballastStep s.params .up
      (r.idle + if r.trimmed then 0 else r.claim - r.idle) ∧
    r' = { r with wanted := false, state := .idle, reason := some .demandOff, trimmed := true
                  starve := if s.alt.strict = some i then 0 else r.starve } ∧
    alt = { s.alt with
      slots := s.alt.slots.set i (some r'), changed := s.alt.changed.set i true, strict := none
      gOut := if r.state = .granted then s.alt.gOut - r.idle else s.alt.gOut, clutch := false, wait := none }) ∨
  ((r.state = .idle ∨ (∃ d, r.state = .releasing d) ∨ ∃ h, r.state = .held h) ∧ s.alt.strict = none ∧ gov = s.gov ∧
    r' = { r with wanted := false } ∧ alt = { s.alt with slots := s.alt.slots.set i (some r') })

section
variable (hs : s.alt.strict = none ∨ s.alt.strict = some i) (hi : s.sawSlot = some i) (hr : s.record i = some r)
  (ht : r.target = .clutch) (hw : r.wanted = true) (hleaves : s.WantLeaves i r r' alt gov)
include hs hi hr ht hw hleaves

/-- The abort's first steps, exactly. -/
theorem abortWork_eq : s.abortWork = { s with alt, gov, saw := s.saw.aborted } ∧
    alt.slots = s.alt.slots.set i (some r') ∧ r'.kind = .saw := by
  have hk := kind_of_sawSlot hi hr
  obtain ⟨v, slots, strict, n, hv, hwork, hi', hr', hs', hstarve, hset⟩ := abortWork_base hs hi hr
  have hs'' : v.alt.strict = none ∨ v.alt.strict = some i := by rw [hv]; exact hs'
  rw [hwork]
  rcases hleaves with ⟨hst, rfl, rfl, rfl⟩ | ⟨hst, hin, rfl, rfl, rfl⟩ | ⟨hst, hin, rfl, rfl, rfl⟩ | ⟨hst, hnone, rfl, rfl, rfl⟩
  · refine ⟨?_, rfl, hk⟩
    rw [sawWant_off_waiting hs'' hi' hr' hw hst, hv]
    simp only [hset, hstarve]
  · refine ⟨?_, rfl, hk⟩
    rw [sawWant_off_in hs'' hi' hr' ht hw hst (by rw [hv]; exact hin), hv]
    simp only [hset, hstarve]
    rfl
  · refine ⟨?_, rfl, hk⟩
    rw [sawWant_off_out hs'' hi' hr' ht hw hst (by rw [hv]; exact hin), hv]
    simp only [hset, hstarve]
  · refine ⟨?_, rfl, hk⟩
    have hbase : s.abortWork = State.sawWant { s with saw := s.saw.aborted } false := by
      rw [State.abortWork, clearCutWanted_of_none (by exact hnone)]
      rfl
    have hslot : State.sawSlot { s with saw := s.saw.aborted } = some i := hi
    rw [← hwork, hbase, State.sawWant]
    simp only [hslot]
    exact setWanted_off_resting hr hst

/-- The abort at home, exactly. -/
theorem abortSaw_home_eq (hidle : s.saw.st ≠ .idle) (hrel : s.saw.st ≠ .releasing) (hhome : s.inu.homed = true)
    (hcount : s.inu.count = 0) : s.abortSaw = done { s with
      alt, gov
      saw := { s.saw.aborted with st := if r'.isReleasing then .releasing else .idle }
      rqp := { s.rqp with latched := s.rqp.latched ||| Cause.sawState.bit } } [] := by
  obtain ⟨hwork, hslots, hk⟩ := abortWork_eq hs hi hr ht hw hleaves
  have hreleasing : s.abortWork.sawReleasing = r'.isReleasing := by
    rw [hwork]
    exact sawReleasing_of_slot (sawSlot_of_set hi hk hslots) ((record_of_slots hslots i).trans (if_pos rfl))
  have hat : s.abortWork.atHome = true := by
    rw [hwork]
    exact atHome_iff.mpr ⟨hhome, hcount⟩
  have hst : s.abortWork.saw.st = s.saw.st := by rw [hwork]; rfl
  refine (if_pos hat).trans (congrArg (done · []) ?_)
  show s.abortWork.enterSaw (if s.abortWork.sawReleasing then .releasing else .idle) = _
  rw [hreleasing, enterSaw_into, hwork]
  · rfl
  · rw [hst]
    split
    · exact hrel
    · exact hidle

/-- The abort away from home, exactly. -/
theorem abortSaw_away_eq (haway : ¬ (s.inu.homed = true ∧ s.inu.count = 0)) (hrev : s.active .revLimit = false) :
    s.abortSaw = accepted { s with
      alt, gov
      saw := { s.saw.aborted with
        st := .returning, feedRate := s.returnRate
        feed := .stepping false s.returnRate (1000000 / s.returnRate), ret := some (s.returnRec .abort) }
      rqp := { s.rqp with latched :=
        if s.saw.st = .returning then s.rqp.latched else s.rqp.latched ||| Cause.sawState.bit } } := by
  obtain ⟨hwork, -, -⟩ := abortWork_eq hs hi hr ht hw hleaves
  have hat : ¬ s.abortWork.atHome = true := by
    rw [hwork]
    exact ne_true_of_eq_false (atHome_of_away haway)
  refine (if_neg hat).trans (congrArg accepted ?_)
  rw [hwork, enterReturning_of_away (by exact haway) (by exact hrev), enterSaw_eq]
  rfl

end

end

/-- Settles O51: the answers by SAW's state, the work dropped, then SAW by where the carriage stands. -/
theorem sawAbortReturnsHome : Obligations.SawAbortReturnsHome := by
  refine ⟨fun s h => ⟨fun hst => ?_, fun hst => ?_, fun hidle hfault hrel hret => ?_⟩,
    fun s w i r r' alt gov h hi hr hk ht hw hs hidle hfault hrel hret hwdef hleaves => ?_⟩
  · refine request_answers (t := s) h ?_
    have hst' : s.cleared.saw.st = s.saw.st := rfl
    rcases hst with hst | hst <;> simp only [hst', hst] <;> rfl
  · refine request_answers (t := s) h ?_
    have hst' : s.cleared.saw.st = s.saw.st := rfl
    rcases hst with hst | ⟨hst, k, hk, habort⟩
    · simp only [hst', hst]
      rfl
    · have habort' : s.cleared.saw.aborting = true := by
        show s.saw.aborting = true
        simp only [Saw.aborting, hk, habort]
        rfl
      simp only [hst', hst, habort', if_true]
      rfl
  · have htail : ∀ {u : State}, s.saw.LeftByAbort u.saw → (∀ i, s.cleared.abortWork.UnwantedAt i → u.UnwantedAt i) →
        u.saw.setworks = .idle ∧ u.saw.spinTimer = none ∧ u.saw.waitTimer = none ∧ u.saw.settleTimer = none ∧
        u.saw.setting = none ∧ u.saw.stroke = none ∧ u.saw.remembered = none ∧ u.saw.cutWanted = false ∧
        u.saw.cuts = s.saw.cuts ∧ u.saw.stopFlag = s.saw.stopFlag ∧
        ∀ i r', s.sawSlot = some i → u.record i = some r' → r'.wanted = false := by
      rintro u ⟨⟨hset, hspin, hwait, hsettle⟩, ⟨hsetting, hstroke, hrem, hcut⟩, hcuts, hstop⟩ hunwanted
      exact ⟨hset, hspin, hwait, hsettle, hsetting, hstroke, hrem, hcut, hcuts, hstop, fun i r' hi hr' =>
        hunwanted i (abortWork_unwanted (s := s.cleared) hi) r' hr'⟩
    by_cases hhome : s.inu.homed = true ∧ s.inu.count = 0
    · obtain ⟨u, hu, hst, hfeed, hleft, hunwanted⟩ := abortSaw_home (s := s.cleared) hhome.1 hhome.2
      refine ⟨_, exec_sawAbort_works h hidle hfault hrel hret hu, ?_, fun _ _ => ⟨hst, hfeed⟩, fun hno => absurd hhome hno,
        fun hno => absurd hhome hno, htail hleft hunwanted⟩
      rw [if_pos hhome]
      rfl
    · cases hrev : s.active .revLimit
      · obtain ⟨u, hu, hst, hk, hleft, hunwanted⟩ := abortSaw_away (s := s.cleared) hhome hrev
        refine ⟨_, exec_sawAbort_works h hidle hfault hrel hret hu, ?_, fun hh hc => absurd ⟨hh, hc⟩ hhome, fun _ _ => ⟨hst, hk⟩,
          fun _ => nofun, htail hleft hunwanted⟩
        rw [if_neg hhome]
        rfl
      · obtain ⟨u, hu, hst, hleft, hunwanted⟩ := abortSaw_limit (s := s.cleared) hhome hrev
        refine ⟨_, exec_sawAbort_works h hidle hfault hrel hret hu, ?_, fun hh hc => absurd ⟨hh, hc⟩ hhome, fun _ => nofun,
          fun _ _ => hst, htail hleft hunwanted⟩
        rw [if_neg hhome]
        rfl
  · obtain rfl : w = s.saw.aborted := hwdef
    refine ⟨fun hhome hcount => ?_, fun haway hrev => ?_⟩
    · exact exec_sawAbort_works h hidle hfault hrel hret
        (abortSaw_home_eq (s := s.cleared) (by exact hs) (by exact hi) (by exact hr) ht hw (by exact hleaves) hidle hrel hhome hcount)
    · exact exec_sawAbort_works h hidle hfault hrel hret
        (abortSaw_away_eq (s := s.cleared) (by exact hs) (by exact hi) (by exact hr) ht hw (by exact hleaves) haway hrev)

end Sys2Proof.Machine
end

section
/-! SUPPORT. A publication at an allotter at rest, the control interval by governor state (R72 to R75, R79, R86), and the tach
edge that hands it a period (R58). -/

namespace Sys2Proof.Machine

-- each theorem's proof is checked before the next begins, so that few threads are needed
set_option Elab.async false

/-! ## Publications at an allotter without work -/

section
variable {s : State} {p : Publication}

/-- Without a LIVE record nothing accrues (R107). -/
theorem accrueSlot_of_none_live (h : ∀ i r, s.record i = some r → r.state ≠ .live) (period : Nat) (i : Slot) :
    State.accrueSlot period s i = s := by
  rcases hr : s.record i with _ | r
  · simp only [State.accrueSlot, hr]
  · simp only [State.accrueSlot, hr, h i r hr, false_and, if_false]

theorem accrual_of_none_live (h : ∀ i r, s.record i = some r → r.state ≠ .live) (period : Nat) :
    allSlots.foldl (State.accrueSlot period) s = s := List.foldl_fixed' (accrueSlot_of_none_live h period) allSlots

/-- Without a LIVE record none is chosen to be shed (R35). -/
theorem shedChoice_of_none_live (h : ∀ i r, s.record i = some r → r.state ≠ .live) : s.shedChoice = none := by
  refine Option.eq_none_iff_forall_ne_some.mpr fun i hi => ?_
  obtain ⟨r, hr, hshed, -⟩ := shedChoice_eq_some_iff.mp hi
  simp [Allotment.sheddable, h i r hr] at hshed

/-- Without a record chosen the shed judgement counts alone (R33, R34). -/
theorem shedJudgement_of_none_chosen (h : s.shedChoice = none) : s.shedJudgement p = s.onAlt fun a => { a with
    lowCount := if p.state = .regulating then (if p.low then min 255 (a.lowCount + 1) else 0) else 0 } := by
  have hnone : ∀ f : Alt → Nat, (s.onAlt fun a => { a with lowCount := f a }).shedChoice = none := fun _ => h
  unfold State.shedJudgement
  by_cases hst : p.state = .regulating
  · simp only [hst, if_true, hnone, ite_self]
  · simp only [hst, if_false]

/-- An admission pass without a strict slot and without candidates does nothing. -/
theorem admissionPass_of_none (hstrict : s.alt.strict = none) (h : ∀ i, s.isCandidate i = false) : s.admissionPass = s := by
  have hnil : s.candidates = [] := List.eq_nil_iff_forall_not_mem.mpr fun i hi => by
    rw [mem_candidates_iff, h i] at hi
    cases hi
  simp only [State.admissionPass, hstrict, State.starved, hnil, List.find?_nil, State.firstFit]

/-- A publication at an allotter without switched or waiting records moves its timers, its low count and its headroom. -/
theorem altPublication_of_rest (hstrict : s.alt.strict = none)
    (h : ∀ i r, s.record i = some r → r.state = .idle ∨ ∃ h, r.state = .held h) (p : Publication) :
    ∃ a, s.altPublication p = { s with alt := a } ∧ a.slots = s.alt.slots ∧ a.strict = none := by
  have hlive : ∀ i r, s.record i = some r → r.state ≠ .live := fun i r hr => by
    rcases h i r hr with hi | ⟨d, hh⟩ <;> simp [*]
  have hcand : ∀ i, s.isCandidate i = false := fun i => by
    rcases hr : s.record i with _ | r
    · simp only [State.isCandidate, hr]
    · rcases h i r hr with hi | ⟨d, hh⟩ <;> exact isCandidate_eq_false hr (by simp [*]) (by simp [*]) (by simp [*])
  have hfield : ∀ a : Alt, a.slots = s.alt.slots → (∀ i r, ({ s with alt := a } : State).record i = some r → r.state ≠ .live) ∧
      ∀ i, ({ s with alt := a } : State).isCandidate i = false := fun a ha => by
    have hrec : ∀ i, ({ s with alt := a } : State).record i = s.record i := fun i => congrArg (fun x => Vector.get x i) ha
    refine ⟨fun i r hr => hlive i r ((hrec i).symm.trans hr), fun i => ?_⟩
    have hi := hcand i
    simp only [State.isCandidate, hrec] at hi ⊢
    exact hi
  obtain ⟨a, ha, hslots, hnone⟩ : ∃ a, s.countTimers p = { s with alt := a } ∧ a.slots = s.alt.slots ∧ a.strict = none := by
    unfold State.countTimers
    split
    · exact ⟨_, rfl, rfl, hstrict⟩
    · exact ⟨s.alt, rfl, rfl, hstrict⟩
  have hone := (hfield a hslots).1
  simp only [State.altPublication, ha, accrual_of_none_live hone, shedJudgement_of_none_chosen (shedChoice_of_none_live hone)]
  refine ⟨_, (ite_eq_right_iff.mpr fun _ => admissionPass_of_none ?_ ?_).trans rfl, ?_, ?_⟩
  · exact hnone
  · exact (hfield _ (by exact hslots)).2
  · exact hslots
  · exact hnone

/-- A saw fault leaves the governor when the allotter has no switched or waiting record. -/
theorem sawFault_gov_of_rest (hstrict : s.alt.strict = none)
    (h : ∀ i r, s.record i = some r → r.state = .idle ∨ ∃ h, r.state = .held h) (cause : FaultCause) :
    (s.sawFault cause).gov = s.gov := by
  by_cases hst : s.saw.st = .fault
  · rw [sawFault_of_fault hst]
  rcases hi : s.sawSlot with _ | i
  · exact (sawFault_recordless hstrict hi).2.1
  · obtain ⟨r, hr, -⟩ := sawSlot_some hi
    exact (sawFault_resting hst hstrict hi hr ((h i r hr).imp_right .inr) cause).2.1

/-- A publication leaves the governor when the allotter has no switched or waiting record. -/
theorem publish_gov_of_rest (hstrict : s.alt.strict = none)
    (h : ∀ i r, s.record i = some r → r.state = .idle ∨ ∃ h, r.state = .held h) (p : Publication) :
    (s.publish p).gov = s.gov := by
  obtain ⟨a, ha, hslots, hnone⟩ := altPublication_of_rest hstrict h p
  obtain ⟨w, hw⟩ : ∃ w, (s.publish p = { s with alt := a, saw := w }) ∨
      s.publish p = ({ s with alt := a, saw := w } : State).sawFault .stall := by
    simp only [State.publish, ha, State.sawPublication]
    repeat' split
    all_goals first | exact ⟨_, .inl rfl⟩ | exact ⟨_, .inr rfl⟩
  rcases hw with hw | hw
  · rw [hw]
  · rw [hw]
    exact sawFault_gov_of_rest (s := { s with alt := a, saw := w }) hnone
      (fun i r hr => h i r ((congrArg (fun x => Vector.get x i) hslots).symm.trans hr)) .stall

end

/-! ## The control interval (R72 to R75, R79) -/

section
variable {s c : State} {handed f : Nat}

/-- A publication moves at most the ballast of the governor. -/
theorem publish_gov (s : State) (p : Publication) : s.gov.SameButBallast (s.publish p).gov := (Works.refl.publish).gov

/-- A shed-all moves at most the ballast of the governor. -/
theorem shedAll_gov_same (s : State) (reason : Reason) : s.gov.SameButBallast (s.shedAll reason).gov := by
  obtain ⟨w, hworks, hall⟩ := shedAll_works s reason
  rw [hall]
  exact hworks.gov

/-- Out of REGULATING and HOLD a publication leaves the governor. -/
theorem publish_gov_idle (hr : s.gov.st ≠ .regulating) (hh : s.gov.st ≠ .hold) (p : Publication) : (s.publish p).gov = s.gov :=
  (Works.refl.publish).gov_idle hr hh

/-- The state of an interval after its overspeed count (R72 to R74, R86). -/
def State.counted (s : State) (f : Nat) : State :=
  let s := (s.onGov fun g => { g with fMeas := f }).holdReturn
  s.onGov fun g => g.countOverspeed s.params

theorem holdReturn_params (s : State) : s.holdReturn.params = s.params := by
  unfold State.holdReturn
  split
  · exact govReport_params _
  · rfl

theorem holdReturn_inu (s : State) : s.holdReturn.inu = s.inu := by
  unfold State.holdReturn
  split
  · exact govReport_inu _
  · rfl

/-- An interval trips at an overspeed count of 3 and goes on with the later stages without it (R72, R74). -/
theorem interval_eq (hf : f = freqOf (clampPeriod handed)) : s.interval handed =
    if (s.counted f).gov.overspeed = 3 ∧ ((s.counted f).gov.st = .runUp ∨ (s.counted f).gov.st = .regulating) then
      ((s.counted f).trip .overspeed).publish (((s.counted f).trip .overspeed).publication (clampPeriod handed))
    else (s.counted f).laterStages (clampPeriod handed) := by
  subst hf
  rfl

/-- In STOPPED, STOPPING and TRIPPED an interval counts nothing. -/
theorem counted_idle (h : s.gov.st = .stopped ∨ s.gov.st = .stopping ∨ s.gov.st = .tripped) :
    s.counted f = { s with gov := { s.gov with fMeas := f } } := by
  rcases h with h | h | h <;> simp [State.counted, State.holdReturn, State.onGov, Gov.countOverspeed, h]

/-- In RUN_UP and REGULATING an interval counts overspeed (R74). -/
theorem counted_running (h : s.gov.st = .runUp ∨ s.gov.st = .regulating) : s.counted f = { s with gov := { s.gov with
    fMeas := f, overspeed := if s.param .fTrip ≤ f then s.gov.overspeed + 1 else 0 } } := by
  rcases h with h | h <;> simp [State.counted, State.holdReturn, State.onGov, Gov.countOverspeed, h, State.param] <;> rfl

/-- In HOLD an interval returns to REGULATING and counts overspeed (R74, R86, R102). -/
theorem counted_hold (h : s.gov.st = .hold) : (s.counted f).gov = { s.gov with
    st := .regulating, fMeas := f, fPrev := some f, collapse := 0, holdTimer := none
    trimTimer := some (s.param .trimPeriod * 1000000)
    overspeed := if s.param .fTrip ≤ f then s.gov.overspeed + 1 else 0 } := by
  simp [State.counted, State.holdReturn, State.onGov, Gov.countOverspeed, h, State.param, secTimer] <;> rfl

theorem counted_param (p : Param) : (s.counted f).param p = s.param p := by
  have h := holdReturn_params (s.onGov fun g => { g with fMeas := f })
  exact congrArg (fun params : Params => params.get p) h

/-- The trip of an interval (R74, R88). -/
theorem interval_trips (hf : f = freqOf (clampPeriod handed)) (hc : s.counted f = c) (hcount : c.gov.overspeed = 3)
    (hst : c.gov.st = .runUp ∨ c.gov.st = .regulating) : (s.interval handed).gov = Gov.tripped c .overspeed := by
  subst hc
  rw [interval_eq hf, if_pos ⟨hcount, hst⟩, publish_gov_idle (by rw [trip_gov]; nofun) (by rw [trip_gov]; nofun), trip_gov]

/-- An interval that does not trip. -/
theorem interval_goes_on (hf : f = freqOf (clampPeriod handed)) (hc : s.counted f = c) (hcount : c.gov.overspeed ≠ 3) :
    s.interval handed = c.laterStages (clampPeriod handed) := by
  subst hc
  rw [interval_eq hf, if_neg fun h => hcount h.1]

/-- A regulating interval's stages 5 to 7 leave the governor but for the previous frequency, the collapse count and the
ballast (R76 to R79). -/
theorem regulatingStages_gov (hst : s.gov.st = .regulating) (period : Nat) : ∃ b d w,
    (s.regulatingStages period).gov = { s.gov with
      fPrev := some s.gov.fMeas
      collapse := if s.param .fFloor < s.gov.fMeas ∨ s.gov.collapse = 4 then 0 else s.gov.collapse + 1
      bAcc := b, duty := d, spare := w } := by
  obtain ⟨b, hb⟩ : ∃ b, (s.gov.regulate s.params).countCollapse s.params = { s.gov with
      fPrev := some s.gov.fMeas, bAcc := b, duty := dutyOf b (s.param .bCap), spare := spareOf b (s.param .reserve)
      collapse := if s.gov.fMeas ≤ s.param .fFloor then s.gov.collapse + 1 else 0 } := by
    simp only [Gov.countCollapse, Gov.regulate, setBallast_regulating hst]
    exact ⟨_, rfl⟩
  obtain ⟨v, hv⟩ : ∃ v : State, v = s.onGov fun g => (g.regulate s.params).countCollapse s.params := ⟨_, rfl⟩
  have hgov : v.gov = { s.gov with
      fPrev := some s.gov.fMeas, bAcc := b, duty := dutyOf b (s.param .bCap), spare := spareOf b (s.param .reserve)
      collapse := if s.gov.fMeas ≤ s.param .fFloor then s.gov.collapse + 1 else 0 } := by
    rw [hv]
    exact hb
  have hstages : s.regulatingStages period = if v.gov.collapse = collapseLimit then
      ((v.onGov fun g => { g with collapse := 0 }).shedAll .shed).publish (v.publication period)
      else v.publish (v.publication period) := by
    rw [hv]
    rfl
  rw [hstages]
  by_cases hfloor : s.param .fFloor < s.gov.fMeas
  · have hzero : v.gov.collapse = 0 := by rw [hgov]; exact if_neg (Nat.not_le.mpr hfloor)
    rw [if_neg (by rw [hzero]; nofun), if_pos (.inl hfloor)]
    obtain ⟨b', d', w', hpub⟩ := publish_gov v (v.publication period)
    refine ⟨b', d', w', hpub.trans ?_⟩
    rw [hgov, if_neg (Nat.not_le.mpr hfloor)]
  · have hcount : v.gov.collapse = s.gov.collapse + 1 := by rw [hgov]; exact if_pos (Nat.not_lt.mp hfloor)
    by_cases hfour : s.gov.collapse = 4
    · rw [if_pos (hcount.trans (by rw [hfour]; rfl)), if_pos (.inr hfour)]
      obtain ⟨b', d', w', hpub⟩ := (shedAll_gov_same (v.onGov fun g => { g with collapse := 0 }) .shed).trans
        (publish_gov _ (v.publication period))
      refine ⟨b', d', w', hpub.trans ?_⟩
      simp only [State.onGov, hgov]
    · have hne : v.gov.collapse ≠ collapseLimit := by
        rw [hcount]
        simp only [collapseLimit]
        omega
      rw [if_neg hne, if_neg (by simp [hfloor, hfour])]
      obtain ⟨b', d', w', hpub⟩ := publish_gov v (v.publication period)
      refine ⟨b', d', w', hpub.trans ?_⟩
      rw [hgov, if_pos (Nat.not_lt.mp hfloor)]

end

end Sys2Proof.Machine
end

section
/-! SUPPORT. What an interval makes of the governor (R72 to R75, R79, R86), and the tach edge (R58, R73). -/

namespace Sys2Proof.Machine

-- each theorem's proof is checked before the next begins, so that few threads are needed
set_option Elab.async false

section
variable {s c : State} {handed f count period : Nat}

/-- The frequency and the overspeed count of an interval are kept by the end of a run-up move. -/
theorem endRunupMove_measured (g : Gov) (f n : Nat) :
    ({ g with fMeas := f, overspeed := n }).endRunupMove = { g.endRunupMove with fMeas := f, overspeed := n } := by
  unfold Gov.endRunupMove
  simp only
  split
  · split <;> rfl
  · rfl

/-- Entry into REGULATING: the ballast full, the timers of the run-up exchanged for the trim timer (R75, R78, R101). -/
theorem enterRegulating_eq (s : State) : s.enterRegulating = ({ s with gov := { s.gov.endRunupMove with
    st := .regulating, fPrev := none, collapse := 0, runupTimer := none
    trimTimer := some (s.param .trimPeriod * 1000000), bAcc := 16 * s.param .bCap
    duty := if s.param .bCap = 0 then 0 else 1023, spare := s.param .bCap - s.param .reserve } } : State).raise .govState := by
  have hduty : dutyOf (16 * s.param .bCap) (s.params.get .bCap) = if s.param .bCap = 0 then 0 else 1023 := by
    unfold dutyOf
    split
    · next h => rw [if_pos (by exact h)]
    · next h =>
      rw [if_neg (by exact h)]
      have hpos : 0 < s.params.get .bCap := Nat.pos_of_ne_zero h
      simp only [State.param]
      rw [show 16 * s.params.get .bCap * 1023 + 8 * s.params.get .bCap = 8 * s.params.get .bCap + 16 * s.params.get .bCap * 1023
        from Nat.add_comm .., Nat.add_mul_div_left _ _ (by omega), Nat.div_eq_of_lt (by omega)]
  have hspare : spareOf (16 * s.param .bCap) (s.params.get .reserve) = s.param .bCap - s.param .reserve := by
    simp only [spareOf, State.param, Nat.mul_div_cancel_left _ (show 0 < 16 by decide)]
  unfold State.enterRegulating
  rw [govReport_regulating]
  · simp only [State.onGov]
    rw [setBallast_regulating (g := { s.gov.endRunupMove with
      st := .regulating, fPrev := none, collapse := 0, runupTimer := none
      trimTimer := secTimer (s.param .trimPeriod) }) rfl, hduty, hspare]
    rfl
  · simp only [State.onGov]
    rw [setBallast_regulating (g := { s.gov.endRunupMove with
      st := .regulating, fPrev := none, collapse := 0, runupTimer := none
      trimTimer := secTimer (s.param .trimPeriod) }) rfl]

/-- A run-up below its threshold publishes alone (R75). -/
theorem laterStages_runUp_below (hst : s.gov.st = .runUp) (h : s.gov.fMeas < s.param .fSet - 50) :
    (s.laterStages period).gov = s.gov := by
  simp only [State.laterStages, hst, if_neg (Nat.not_le.mpr h)]
  exact publish_gov_idle (by simp [hst]) (by simp [hst]) _

/-- A run-up that has reached its threshold enters REGULATING and publishes (R75). -/
theorem laterStages_runUp_reached (hst : s.gov.st = .runUp) (h : s.param .fSet - 50 ≤ s.gov.fMeas) :
    s.laterStages period = s.enterRegulating.publish (s.enterRegulating.publication period) := by
  simp only [State.laterStages, hst, if_pos h]

/-- In STOPPED, STOPPING and TRIPPED an interval takes the frequency alone. -/
theorem interval_idle (hf : f = freqOf (clampPeriod handed))
    (h : s.gov.st = .stopped ∨ s.gov.st = .stopping ∨ s.gov.st = .tripped) :
    (s.interval handed).gov = { s.gov with fMeas := f } := by
  have hst : s.gov.st ≠ .regulating ∧ s.gov.st ≠ .hold ∧ s.gov.st ≠ .runUp := by
    rcases h with h | h | h <;> simp [h]
  obtain ⟨hr, hh, hu⟩ := hst
  have hsplit : ¬ ((s.counted f).gov.overspeed = 3 ∧ ((s.counted f).gov.st = .runUp ∨ (s.counted f).gov.st = .regulating)) := by
    rw [counted_idle h]
    exact fun hx => hx.2.elim hu hr
  obtain ⟨c, hc⟩ : ∃ c, s.counted f = c := ⟨_, rfl⟩
  have hgov : c.gov = { s.gov with fMeas := f } := by rw [← hc, counted_idle h]
  have hpub : ∀ p, (c.publish p).gov = c.gov := publish_gov_idle (by rw [hgov]; exact hr) (by rw [hgov]; exact hh)
  have hlater : (c.laterStages (clampPeriod handed)).gov = c.gov := by
    have hcst : c.gov.st = s.gov.st := by rw [hgov]
    rcases h with h | h | h <;> simp only [State.laterStages, hcst, h, hpub]
  rw [interval_eq hf, if_neg hsplit, hc, hlater, hgov]

/-- In RUN_UP below the threshold an interval measures and counts. -/
theorem interval_runUp_below (hf : f = freqOf (clampPeriod handed)) (hst : s.gov.st = .runUp)
    (hcount : count = if s.param .fTrip ≤ f then s.gov.overspeed + 1 else 0) (hne : count ≠ 3) (h : f < s.param .fSet - 50) :
    (s.interval handed).gov = { s.gov with fMeas := f, overspeed := count } := by
  subst hcount
  rw [interval_goes_on hf (counted_running (.inl hst)) hne]
  exact laterStages_runUp_below (s := { s with gov := { s.gov with fMeas := f, overspeed := _ } }) hst h

/-- In RUN_UP at the threshold an interval enters REGULATING and publishes. -/
theorem interval_runUp_reached (hf : f = freqOf (clampPeriod handed)) (hst : s.gov.st = .runUp)
    (hcount : count = if s.param .fTrip ≤ f then s.gov.overspeed + 1 else 0) (hne : count ≠ 3) (h : s.param .fSet - 50 ≤ f) :
    ∃ v : State, s.interval handed = v.publish (v.publication (clampPeriod handed)) ∧ v.alt = s.alt ∧ v.gov = { s.gov.endRunupMove with
      st := .regulating, fMeas := f, fPrev := none, overspeed := count, collapse := 0, runupTimer := none
      trimTimer := some (s.param .trimPeriod * 1000000), bAcc := 16 * s.param .bCap
      duty := if s.param .bCap = 0 then 0 else 1023, spare := s.param .bCap - s.param .reserve } := by
  subst hcount
  rw [interval_goes_on hf (counted_running (.inl hst)) hne,
    laterStages_runUp_reached (s := { s with gov := { s.gov with fMeas := f, overspeed := _ } }) hst h]
  refine ⟨_, rfl, ?_⟩
  rw [enterRegulating_eq]
  refine ⟨rfl, ?_⟩
  simp only [endRunupMove_measured]
  rfl

/-- In REGULATING an interval measures, counts and moves the ballast. -/
theorem interval_regulating (hf : f = freqOf (clampPeriod handed)) (hst : s.gov.st = .regulating)
    (hcount : count = if s.param .fTrip ≤ f then s.gov.overspeed + 1 else 0) (hne : count ≠ 3) : ∃ b d w,
    (s.interval handed).gov = { s.gov with
      fMeas := f, fPrev := some f, overspeed := count
      collapse := if s.param .fFloor < f ∨ s.gov.collapse = 4 then 0 else s.gov.collapse + 1
      bAcc := b, duty := d, spare := w } := by
  subst hcount
  have hgov : (s.counted f).gov = _ := congrArg State.gov (counted_running (.inr hst))
  have hreg : (s.counted f).gov.st = .regulating := by rw [hgov]; exact hst
  rw [interval_goes_on hf rfl (by rw [hgov]; exact hne)]
  obtain ⟨b, d, w, hx⟩ := regulatingStages_gov hreg (clampPeriod handed)
  simp only [State.laterStages, hreg]
  refine ⟨b, d, w, hx.trans ?_⟩
  rw [hgov, counted_param]

/-- In HOLD an interval returns to REGULATING and goes through its stages. -/
theorem interval_hold (hf : f = freqOf (clampPeriod handed)) (hst : s.gov.st = .hold)
    (hcount : count = if s.param .fTrip ≤ f then s.gov.overspeed + 1 else 0) (hne : count ≠ 3) : ∃ b d w,
    (s.interval handed).gov = { s.gov with
      st := .regulating, fMeas := f, fPrev := some f, overspeed := count
      collapse := if s.param .fFloor < f then 0 else 1
      holdTimer := none, trimTimer := some (s.param .trimPeriod * 1000000), bAcc := b, duty := d, spare := w } := by
  subst hcount
  have hgov := counted_hold (f := f) hst
  rw [interval_goes_on hf rfl (by rw [hgov]; exact hne)]
  have hreg : (s.counted f).gov.st = .regulating := by rw [hgov]
  obtain ⟨b, d, w, hx⟩ := regulatingStages_gov hreg (clampPeriod handed)
  simp only [State.laterStages, hreg]
  refine ⟨b, d, w, hx.trans ?_⟩
  rw [hgov, counted_param]
  simp

/-- The third overspeed interval in a row trips (R74). -/
theorem interval_third (hf : f = freqOf (clampPeriod handed))
    (hst : s.gov.st = .runUp ∨ s.gov.st = .regulating ∨ s.gov.st = .hold)
    (hcount : 3 = if s.param .fTrip ≤ f then s.gov.overspeed + 1 else 0) :
    ∃ c : State, c.gov.fMeas = f ∧ (s.interval handed).gov = Gov.tripped c .overspeed := by
  have hrun : s.gov.st = .runUp ∨ s.gov.st = .regulating →
      ∃ c : State, c.gov.fMeas = f ∧ (s.interval handed).gov = Gov.tripped c .overspeed := fun h =>
    ⟨_, by rfl, interval_trips hf (counted_running h) (by exact hcount.symm) (by exact h)⟩
  rcases hst with h | h | h
  · exact hrun (.inl h)
  · exact hrun (.inr h)
  · have hgov := counted_hold (f := f) h
    exact ⟨s.counted f, by rw [hgov], interval_trips hf rfl (by rw [hgov]; exact hcount.symm) (.inr (by rw [hgov]))⟩

/-- An interval measures the frequency of its clamped period (R73). -/
theorem interval_fMeas (s : State) (handed : Nat) : (s.interval handed).gov.fMeas = freqOf (clampPeriod handed) := by
  obtain ⟨f, hf⟩ : ∃ f, f = freqOf (clampPeriod handed) := ⟨_, rfl⟩
  rw [← hf]
  by_cases hthird : 3 = if s.param .fTrip ≤ f then s.gov.overspeed + 1 else 0
  · cases hst : s.gov.st
    case stopped => rw [interval_idle hf (.inl hst)]
    case stopping => rw [interval_idle hf (.inr (.inl hst))]
    case tripped => rw [interval_idle hf (.inr (.inr hst))]
    all_goals
      obtain ⟨c, hc, hx⟩ := interval_third hf (by simp [hst]) hthird
      rw [hx]
      exact hc
  · cases hst : s.gov.st
    case stopped => rw [interval_idle hf (.inl hst)]
    case stopping => rw [interval_idle hf (.inr (.inl hst))]
    case tripped => rw [interval_idle hf (.inr (.inr hst))]
    case runUp =>
      by_cases h : f < s.param .fSet - 50
      · rw [interval_runUp_below hf hst rfl (Ne.symm hthird) h]
      · obtain ⟨v, hx, -, hv⟩ := interval_runUp_reached hf hst rfl (Ne.symm hthird) (Nat.not_lt.mp h)
        obtain ⟨b, d, w, hp⟩ := publish_gov v (v.publication (clampPeriod handed))
        rw [hx, hp, hv]
    case regulating =>
      obtain ⟨b, d, w, hx⟩ := interval_regulating hf hst rfl (Ne.symm hthird)
      rw [hx]
    case hold =>
      obtain ⟨b, d, w, hx⟩ := interval_hold hf hst rfl (Ne.symm hthird)
      rw [hx]

/-- An interval leaves the inputs. -/
theorem interval_inu (s : State) (handed : Nat) : (s.interval handed).inu = s.inu := by
  have hpub : ∀ (v : State) (p : Publication), (v.publish p).inu = v.inu := fun v p => (Works.refl.publish).inu
  have hcounted : (s.counted (freqOf (clampPeriod handed))).inu = s.inu := holdReturn_inu _
  rw [interval_eq rfl, ← hcounted]
  generalize s.counted (freqOf (clampPeriod handed)) = c
  split
  · rw [hpub, trip_inu]
  · unfold State.laterStages
    split
    · rw [hpub]
      split
      · rw [enterRegulating_eq]
        rfl
      · rfl
    · unfold State.regulatingStages
      simp only
      split
      · rw [hpub, shedAll_inu]
        rfl
      · rw [hpub]
        rfl
    all_goals exact hpub c _

/-- The frequency of a clamped period lies between 20 and 80 Hz (R73). -/
theorem freqOf_bounds (handed : Nat) : 2000 ≤ freqOf (clampPeriod handed) ∧ freqOf (clampPeriod handed) ≤ 8000 := by
  have hlow : 12500 ≤ clampPeriod handed := Nat.le_max_left _ _
  have hhigh : clampPeriod handed ≤ 50000 := by
    unfold clampPeriod
    omega
  constructor
  · exact (Nat.le_div_iff_mul_le (by omega)).mpr (by omega)
  · exact Nat.div_le_of_le_mul (by omega)

end

/-- Settles O28: the tach edge; the entry into REGULATING; an interval by the governor's state. -/
theorem tachEdgeGivesAnInterval : Obligations.TachEdgeGivesAnInterval := by
  refine ⟨fun s began hrun hcand => ?_, fun s t handed f g hf ht hg => ?_, fun s handed f count hf hcount => ⟨interval_idle hf,
    fun hst hne hlow => interval_runUp_below hf hst hcount hne hlow, fun hst hne hhigh => ?_,
    fun hst hne => interval_regulating hf hst hcount hne, fun hst hne => interval_hold hf hst hcount hne, fun hst hthree => ?_⟩⟩
  · have hx : (s.chan .tach).candidate ≠ none := by rw [hcand]; nofun
    cases hraw : (s.chan .tach).raw
    · refine ⟨_, exec_debounceAccept_inactive hrun hx hraw (deliver_of_quiet (.inr ⟨nofun, rfl⟩)), ?_, ?_,
        fun _ => ⟨rfl, rfl, rfl, rfl⟩, nofun⟩
      · exact (congrArg Chan.level (vector_get_set_self ..)).trans hraw
      · exact congrArg Chan.candidate (vector_get_set_self ..)
    · rcases hstamp : s.inu.lastStamp with _ | stamp
      · have hedge : (s.accepted .tach).deliver .tach true = (s.accepted .tach).onInu fun u =>
            { u with lastStamp := some (BitVec.ofNat 32 s.now), lossTimer := some 60000 } := by
          have hnone : (s.accepted .tach).inu.lastStamp = none := hstamp
          simp only [State.deliver, State.tachEdge, hnone, if_true]
          rfl
        refine ⟨_, exec_debounceAccept_active hrun hx hraw hedge, ?_, ?_, nofun, fun _ => ⟨rfl, rfl, fun _ => ⟨rfl, rfl, rfl, rfl⟩, nofun⟩⟩
        · exact (congrArg Chan.level (vector_get_set_self ..)).trans hraw
        · exact congrArg Chan.candidate (vector_get_set_self ..)
      · obtain ⟨v, hv⟩ : ∃ v, v = (s.accepted .tach).onInu fun u => { u with
            lastStamp := some (BitVec.ofNat 32 s.now), lossTimer := some 60000
            lastPeriod := BitVec.ofNat 32 s.now - stamp } := ⟨_, rfl⟩
        have hedge : (s.accepted .tach).deliver .tach true = v.interval (BitVec.ofNat 32 s.now - stamp).toNat := by
          have hsome : (s.accepted .tach).inu.lastStamp = some stamp := hstamp
          simp only [State.deliver, State.tachEdge, hsome, if_true]
          rw [hv]
          rfl
        have hinu : (v.interval (BitVec.ofNat 32 s.now - stamp).toNat).arbitrate.inu = v.inu := interval_inu v _
        have hchan : (v.interval (BitVec.ofNat 32 s.now - stamp).toNat).arbitrate.chan .tach = v.chan .tach :=
          congrArg (fun u : Inu => u.chans.get (channelNumber .tach)) hinu
        have hself : v.chan .tach = { s.chan .tach with level := (s.chan .tach).raw, candidate := none } := by
          rw [hv]
          exact vector_get_set_self ..
        have hmeas : (v.interval (BitVec.ofNat 32 s.now - stamp).toNat).arbitrate.gov.fMeas =
            freqOf (clampPeriod (BitVec.ofNat 32 s.now - stamp).toNat) := interval_fMeas v _
        obtain ⟨hlow, hhigh⟩ := freqOf_bounds (BitVec.ofNat 32 s.now - stamp).toNat
        refine ⟨_, exec_debounceAccept_active hrun hx hraw hedge, ?_, ?_, nofun,
          fun _ => ⟨?_, ?_, nofun, fun stamp' hstamp' => ?_⟩⟩
        · rw [hchan, hself, hraw]
        · rw [hchan, hself]
        · rw [hinu, hv]
          rfl
        · rw [hinu, hv]
          rfl
        · obtain rfl := Option.some.inj hstamp'
          rw [hmeas, hinu, hv]
          exact ⟨rfl, rfl, hlow, hhigh⟩
  · subst ht hg
    refine ⟨?_, ?_, ?_, fun hst hlow hhigh hstrict hrest => ?_⟩
    iterate 3 rw [enterRegulating_eq]; rfl
    have hcount : (0 : Nat) = if s.param .fTrip ≤ f then s.gov.overspeed + 1 else 0 := (if_neg (Nat.not_le.mpr hlow)).symm
    obtain ⟨v, hx, halt, hv⟩ := interval_runUp_reached hf hst hcount (by decide) hhigh
    rw [hx, publish_gov_of_rest (by rw [halt]; exact hstrict), hv]
    intro i r hr
    exact hrest i r ((congrArg (fun a : Alt => a.slots.get i) halt).symm.trans hr)
  · obtain ⟨v, hx, -, hv⟩ := interval_runUp_reached hf hst hcount hne hhigh
    obtain ⟨b, d, w, hp⟩ := publish_gov v (v.publication (clampPeriod handed))
    refine ⟨b, d, w, ?_⟩
    rw [hx, hp, hv]
  · obtain ⟨c, hmeas, hx⟩ := interval_third hf hst (hthree.symm.trans hcount)
    rw [hx]
    exact ⟨rfl, rfl, hmeas, rfl, rfl⟩

end Sys2Proof.Machine
end

section
/-! SUPPORT. The replies of a visit's function blocks (Sections 7.4 and 8.5, R121 to R125, R146). -/

namespace Sys2Proof.Machine

-- each theorem's proof is checked before the next begins, so that few threads are needed
set_option Elab.async false

section
variable {s t : State} {v : Visit} {e : UnitEntry} {reply : List Byte}

/-- A reply of the length of its block is read as it is. -/
theorem asRead_of_length {n : Nat} (h : reply.length = n) : asRead n reply = reply := List.take_left' h

/-- A line in use stays in use (R145). -/
theorem arbitrate_of_visit (h : s.flc.tx = some (.visit v)) : s.arbitrate = s := by
  have hbusy : s.flc.arbitrate = s.flc := arbitrate_of_busy (by rw [h]; nofun)
  exact congrArg (fun f => { s with flc := f }) hbusy

/-- The visit in flight changed. -/
theorem onVisit_of (h : s.flc.tx = some (.visit v)) (g : Visit → Visit) :
    s.onVisit g = { s with flc := { s.flc with tx := some (.visit (g v)) } } := by
  simp only [State.onVisit, State.onFlc, Flc.visit, h]

/-- The next block of the visit in flight (R117). -/
theorem nextBlock_of (h : s.flc.tx = some (.visit v)) (b : Block) : s.nextBlock b = { s with
    flc := { s.flc with tx := some (.visit { v with block := b, begun := true, phase := ⟨.blocks, none⟩ }) } } :=
  onVisit_of h _

/-- ACK_DEMAND follows when the unit asked or rebooted, else the visit ends (R146). -/
theorem ackOrEnd_of (h : s.flc.tx = some (.visit v)) : s.ackOrEnd = if v.asked then { s with
    flc := { s.flc with tx := some (.visit { v with block := .ackDemand, begun := true, phase := ⟨.blocks, none⟩ }) } }
    else s.visitEnd v true := by
  rw [← nextBlock_of h]
  simp only [State.ackOrEnd, Flc.visit, h]

/-- The entry under visit updated. -/
theorem onEntry_of (hd : v.dropped = false) (he : s.flc.units.get v.unit = some e) (g : UnitEntry → UnitEntry) :
    s.onEntry v g = { s with flc := { s.flc with units := s.flc.units.set v.unit (some (g e)) } } := by
  simp only [State.onEntry, Visit.entry, hd, he, Bool.false_eq_true, if_false]
  rfl

/-! ## The events -/

section
variable (hrun : s.inReset = false) (htx : s.flc.tx = some (.visit v))
include hrun htx

theorem exec_readStatusReply_of (hb : v.block = .readStatus) :
    exec (.readStatusReply reply) s = .next (s.statusReply v reply).arbitrate := by
  show execReadStatusReply reply s = _
  simp only [execReadStatusReply, event_of_running hrun, Flc.visit, htx, hb]

theorem exec_setOutletsReply_of {sent : BitVec 4} (hb : v.block = .setOutlets sent) :
    exec (.setOutletsReply reply) s = .next (s.appliedReply v sent reply).arbitrate := by
  show execSetOutletsReply reply s = _
  simp only [execSetOutletsReply, event_of_running hrun, Flc.visit, htx, hb]

theorem exec_ackDemandReply_of (hb : v.block = .ackDemand) :
    exec (.ackDemandReply reply) s = .next (s.ackReply v reply).arbitrate := by
  show execAckDemandReply reply s = _
  simp only [execAckDemandReply, event_of_running hrun, Flc.visit, htx, hb]

theorem exec_readPlateReply_of (hb : v.block = .readPlate) :
    exec (.readPlateReply reply) s = .next (s.plateReply v reply).arbitrate := by
  show execReadPlateReply reply s = _
  simp only [execReadPlateReply, event_of_running hrun, Flc.visit, htx, hb]

end

/-! ## The blocks -/

/-- A status that fails its check fails the visit (R121). -/
theorem statusReply_bad (hlen : reply.length = 11) (h : checksGood reply = false) :
    s.statusReply v reply = s.visitEnd v false := by
  simp only [State.statusReply, asRead_of_length hlen, h, Bool.false_eq_true, if_false]

/-- A good status is stored, handed to ALT and acted upon (R109, R122). -/
theorem statusReply_good (hlen : reply.length = 11) (h : checksGood reply = true) (hd : v.dropped = false)
    (he : s.flc.units.get v.unit = some e) {k : StatusReport} (hk : k = statusReport reply)
    (ht : t = ({ s with flc := { s.flc with units := s.flc.units.set v.unit (some
      { e with reported := some k.closed, unitFault := k.fault }) } } : State).altStatus v.unit v.outlets k) :
    s.statusReply v reply = t.afterStatus v k := by
  subst hk ht
  simp only [State.statusReply, asRead_of_length hlen, h, if_true, hd, Bool.false_eq_true, if_false, onEntry_of hd he]

/-- After a good status: SET_OUTLETS when the desired vector differs, else the demand's acknowledgement or the visit's end
(R146, R147). -/
theorem afterStatus_of {v' : Visit} {k : StatusReport} (hd : v.dropped = false) (htx : t.flc.tx = some (.visit v')) :
    t.afterStatus v k =
      if t.desired v.unit v.outlets &&& outletMask v.outlets = k.closed &&& outletMask v.outlets then
        ({ t with flc := { t.flc with tx := some (.visit { v' with
          asked := k.asking || k.rebooted, cut := true, begun := true, phase := ⟨.blocks, none⟩ }) } } : State).ackOrEnd
      else { t with flc := { t.flc with tx := some (.visit { v' with
        asked := k.asking || k.rebooted, cut := true, begun := true, phase := ⟨.blocks, none⟩
        block := .setOutlets (t.desired v.unit v.outlets) }) } } := by
  simp only [State.afterStatus, hd, Bool.false_eq_true, if_false, onVisit_of htx]
  split
  · rfl
  · refine (nextBlock_of (v := { v' with
      asked := k.asking || k.rebooted, cut := true, begun := true, phase := ⟨.blocks, none⟩ }) ?_ _).trans rfl
    rfl

/-- A SET_OUTLETS reply that fails its check fails the visit (R121). -/
theorem appliedReply_bad {sent : BitVec 4} (hlen : reply.length = 2) (h : checksGood reply = false) :
    s.appliedReply v sent reply = s.visitEnd v false := by
  simp only [State.appliedReply, asRead_of_length hlen, h, Bool.false_eq_true, if_false]

/-- A good SET_OUTLETS reply is stored and handed to ALT (R123, R150). -/
theorem appliedReply_good {sent : BitVec 4} (hlen : reply.length = 2) (h : checksGood reply = true) (hd : v.dropped = false)
    (he : s.flc.units.get v.unit = some e)
    (ht : t = ({ s with flc := { s.flc with units := s.flc.units.set v.unit (some
      { e with reported := some ((byteAt reply 0).extractLsb' 0 4) }) } } : State).altApplied v.unit v.outlets sent
        ((byteAt reply 0).extractLsb' 0 4)) :
    s.appliedReply v sent reply = t.ackOrEnd := by
  subst ht
  simp only [State.appliedReply, asRead_of_length hlen, h, if_true, hd, Bool.false_eq_true, if_false, onEntry_of hd he]

/-- The tests of a plate reply (R125). -/
theorem plateGood_iff {x : Identity} : plateGood x reply = true ↔ byteAt reply 0 = 0x42 ∧ byteAt reply 1 = 0x4B ∧
    byteAt reply 2 = 1 ∧ byteAt reply 4 = x.extractLsb' 32 8 ∧ (1 ≤ (byteAt reply 5).toNat ∧ (byteAt reply 5).toNat ≤ 4) ∧
    byteAt reply 14 = 16 := by
  simp only [plateGood, kindCode, Bool.and_eq_true, beq_iff_eq, decide_eq_true_eq, and_assoc]

/-- A plate reply that fails its check or a test fails the visit (R121, R125). -/
theorem plateReply_bad (hlen : reply.length = 16) (h : checksGood reply = false ∨ plateGood v.identity reply = false) :
    s.plateReply v reply = s.visitEnd v false := by
  have hbad : (checksGood reply && plateGood v.identity reply) = false := by
    rcases h with h | h <;> simp [h]
  simp only [State.plateReply, asRead_of_length hlen, hbad, Bool.false_eq_true, if_false]

/-- A good plate is stored and READ_STATUS follows (R125, R146). -/
theorem plateReply_good (hlen : reply.length = 16) (h : checksGood reply = true) (hp : plateGood v.identity reply = true)
    (hd : v.dropped = false) (he : s.flc.units.get v.unit = some e) (htx : s.flc.tx = some (.visit v)) :
    s.plateReply v reply = { s with flc := { s.flc with
      units := s.flc.units.set v.unit (some { e with plate := some (plateOf reply), plateOwed := false })
      tx := some (.visit { v with
        outlets := (byteAt reply 5).toNat, block := .readStatus, begun := true, phase := ⟨.blocks, none⟩ }) } } := by
  simp only [State.plateReply, asRead_of_length hlen, h, hp, Bool.and_self, if_true, onEntry_of hd he]
  rw [onVisit_of (by exact htx)]
  refine (nextBlock_of (v := { v with outlets := (plateOf reply).outlets }) ?_ _).trans rfl
  rfl

end

/-- Settles O44: the four blocks, each for a reply that fails and for a good one. -/
theorem blocksFollowTheirReplies : Obligations.BlocksFollowTheirReplies := by
  intro s v e reply hrun htx hd he
  refine ⟨fun hlen hb => ⟨fun hbad => ?_, fun k t v' hgood hk ht htx' => ?_⟩,
    fun sent hlen hb => ⟨fun hbad => ?_, fun t v' hgood ht htx' => ?_⟩, fun hlen hb => ?_,
    fun hlen hb => ⟨fun hbad => ?_, fun htest => ?_, fun hgood h0 h1 h2 h4 h5 h5' h14 => ?_⟩⟩
  · rw [exec_readStatusReply_of hrun htx hb, statusReply_bad hlen hbad]
  · rw [exec_readStatusReply_of hrun htx hb, statusReply_good hlen hgood hd he hk ht, afterStatus_of hd htx']
    refine ⟨fun hne => ?_, fun heq hasked => ?_, fun heq hasked => ?_⟩
    · rw [if_neg hne, arbitrate_of_visit rfl]
    · rw [if_pos heq, ackOrEnd_of rfl, if_pos hasked, arbitrate_of_visit rfl, hasked]
    · rw [if_pos heq, ackOrEnd_of rfl, if_neg (by rw [hasked]; nofun), hasked]
  · rw [exec_setOutletsReply_of hrun htx hb, appliedReply_bad hlen hbad]
  · rw [exec_setOutletsReply_of hrun htx hb, appliedReply_good hlen hgood hd he ht, ackOrEnd_of htx']
    split
    · rw [arbitrate_of_visit rfl]
    · rfl
  · rw [exec_ackDemandReply_of hrun htx hb, State.ackReply, asRead_of_length hlen]
  · rw [exec_readPlateReply_of hrun htx hb, plateReply_bad hlen (.inl hbad)]
  · have hbad : plateGood v.identity reply = false := Bool.eq_false_iff.mpr fun hp => by
      obtain ⟨h0, h1, h2, h4, ⟨h5, h5'⟩, h14⟩ := plateGood_iff.mp hp
      rcases htest with h | h | h | h | h | h | h
      · exact h h0
      · exact h h1
      · exact h h2
      · exact h h4
      · omega
      · omega
      · exact h h14
    rw [exec_readPlateReply_of hrun htx hb, plateReply_bad hlen (.inr hbad)]
  · rw [exec_readPlateReply_of hrun htx hb,
      plateReply_good hlen hgood (plateGood_iff.mpr ⟨h0, h1, h2, h4, ⟨h5, h5'⟩, h14⟩) hd he htx, arbitrate_of_visit rfl]
    rfl

end Sys2Proof.Machine
end

section
/-! SUPPORT. Power-on and pin reset, and the reset's end (Section 10.5). -/

namespace Sys2Proof.Machine

-- each theorem's proof is checked before the next begins, so that few threads are needed
set_option Elab.async false

section
variable (s : State)

/-- In a reset the port takes no request (R190). -/
theorem exec_request_in_reset {s : State} {c : Instr} (hres : s.inReset = true) (hc : isRequest c = true) :
    exec c s = .next s := by
  obtain ⟨act, hact⟩ := exec_eq_request hc
  rw [hact, State.request, if_pos hres]

/-- A reset leaves every slot VACANT (R1). -/
theorem hardReset_record (i : Slot) : s.hardReset.record i = none := by
  simp [State.hardReset, State.record, State.reset, Alt.reset, Vector.get_eq_getElem]

/-- A reset empties the change set (R30). -/
theorem hardReset_changed (i : Slot) : s.hardReset.alt.changed.get i = false := by
  simp [State.hardReset, State.reset, Alt.reset, Vector.get_eq_getElem]

/-- A reset opens every relay (R1). -/
theorem hardReset_relays (n : Fin Config.relays) : s.hardReset.alt.relays.get n = false := by
  simp [State.hardReset, State.reset, Alt.reset, Vector.get_eq_getElem]

/-- A reset removes every unit (R135). -/
theorem hardReset_units (u : UnitIx) : s.hardReset.flc.units.get u = none := by
  simp [State.hardReset, State.reset, Flc.reset, Vector.get_eq_getElem]

/-- A channel through a reset: its pin stays, all else takes its power-on value (R51). -/
theorem hardReset_chan (c : Channel) :
    s.hardReset.chan c = Chan.reset (s.chan c).pin (if c = .tach then 1 else 2) := by
  have hget : s.hardReset.chan c =
      Chan.reset (s.chan c).pin (if (channelNumber c).val = 0 then 1 else 2) := by
    simp [State.hardReset, State.chan, Inu.hardReset, Vector.get_eq_getElem]
  rw [hget]
  cases c <;> rfl

/-- The attention line stands off through a reset (R190). -/
theorem attention_in_reset {s : State} (hres : s.inReset = true) : s.attention = false := by
  simp [State.attention, hres]

/-- A channel at the end of a reset is checked against its pin (R51, R53). -/
theorem resetEnds_chan (portSel addr0 : Bool) (c : Channel) :
    (s.resetEnds portSel addr0).chan c = (s.chan c).recheck s.now := by
  simp [State.resetEnds, State.chan, Inu.resetEnds, Vector.get_eq_getElem]

end

/-- Settles O7: the reset's own values block by block; the port in it; its end. -/
theorem hardResetRestoresEveryBlock : Obligations.HardResetRestoresEveryBlock := by
  refine ⟨fun s => ⟨rfl, s.hardReset, rfl, rfl, rfl, rfl, fun i => ⟨hardReset_record s i, hardReset_changed s i⟩, rfl, rfl,
    hardReset_relays s, rfl, rfl, rfl, rfl, rfl, rfl, rfl, fun c => ?_, rfl, rfl, rfl, rfl, rfl, rfl, rfl, rfl, rfl, rfl, rfl,
    hardReset_units s, rfl, rfl, rfl, rfl, rfl, rfl, rfl, rfl, rfl, rfl, rfl, rfl, rfl, rfl, rfl, rfl, attention_in_reset rfl⟩,
    fun c s hres hc => exec_request_in_reset hres hc, fun s hres => ⟨fun n => ?_, fun host => ?_, fun b => ?_⟩,
    fun s portSel addr0 hres => ⟨s.resetEnds portSel addr0, ?_, rfl, rfl, rfl, rfl, rfl, fun c hlevel hcand => ?_, ⟨rfl, rfl⟩,
      rfl, rfl, rfl, rfl, rfl⟩⟩
  · rw [hardReset_chan]
    exact ⟨rfl, rfl, rfl, rfl⟩
  · exact if_pos hres
  · simp [State.spiOut, State.listens, hres]
  · simp [State.answers, State.listens, hres]
  · exact congrArg Host.Outcome.next (if_pos hres)
  · rw [resetEnds_chan]
    cases hraw : (s.chan c).raw <;> simp [Chan.recheck, hraw, hlevel, hcand]

end Sys2Proof.Machine
end

section
/-! SUPPORT. The layouts of the status payloads (Tables 11-6 and 11-7) and the bytes the port returns (Section 11.1). -/

namespace Sys2Proof.Machine

-- each theorem's proof is checked before the next begins, so that few threads are needed
set_option Elab.async false

/-! ## Bytes at their places -/

section
variable {l m : List Byte} {n : Nat}

theorem byteAt_append_left (h : n < l.length) : byteAt (l ++ m) n = byteAt l n := List.getD_append _ _ _ _ h

theorem byteAt_append_right (n : Nat) : byteAt (l ++ m) (l.length + n) = byteAt m n := by
  rw [byteAt, List.getD_append_right _ _ _ _ (Nat.le_add_right _ _), Nat.add_sub_cancel_left]
  rfl

/-- A two-byte quantity stands behind a run of bytes. -/
theorem halfAt_append_right (n : Nat) : halfAt (l ++ m) (l.length + n) = halfAt m n := by
  rw [halfAt, Nat.add_assoc, byteAt_append_right, byteAt_append_right]
  rfl

/-- In a run of blocks of one length a block's bytes stand at its place. -/
theorem byteAt_flatMap {α : Type} {f : α → List Byte} {k : Nat} (hk : ∀ x, (f x).length = k) {j : Nat} (hj : j < k) :
    ∀ {xs : List α} {n : Nat} {x : α}, xs[n]? = some x → byteAt (xs.flatMap f ++ m) (k * n + j) = byteAt (f x) j := by
  intro xs
  induction xs with
  | nil => exact fun h => absurd h (by simp)
  | cons y ys ih =>
    intro n x hx
    rw [List.flatMap_cons, List.append_assoc]
    cases n with
    | zero =>
      obtain rfl := Option.some.inj hx
      rw [Nat.mul_zero, Nat.zero_add, byteAt_append_left (by rw [hk]; exact hj)]
    | succ n =>
      rw [Nat.mul_succ, show k * n + k + j = (f y).length + (k * n + j) by rw [hk]; omega, byteAt_append_right]
      exact ih (by simpa using hx)

/-- A run of blocks of one length. -/
theorem length_flatMap_of {α : Type} {f : α → List Byte} {k : Nat} (hk : ∀ x, (f x).length = k) (xs : List α) :
    (xs.flatMap f).length = k * xs.length := by
  induction xs with
  | nil => rfl
  | cons y ys ih => rw [List.flatMap_cons, List.length_append, ih, hk, List.length_cons, Nat.mul_succ, Nat.add_comm]

end

/-! ## Flags and quantities -/

/-- A flag stands in its bit. -/
theorem flagsByte_getLsbD (bs : List Bool) {n : Nat} (hn : n < 8) : (flagsByte bs).getLsbD n = bs.getD n false := by
  induction bs generalizing n with
  | nil => simp [flagsByte]
  | cons b bs ih =>
    cases n with
    | zero => cases b <;> simp [flagsByte, boolByte]
    | succ n =>
      have hbit : (boolByte b).getLsbD (n + 1) = false := by cases b <;> simp [boolByte]
      rw [flagsByte, BitVec.getLsbD_or, BitVec.getLsbD_shiftLeft, hbit, Nat.add_sub_cancel, ih (Nat.lt_of_succ_lt hn)]
      simp [hn]

/-- The bits above the flags are 0. -/
theorem flagsByte_lt (bs : List Bool) : (flagsByte bs).toNat < 2 ^ bs.length := by
  induction bs with
  | nil => simp [flagsByte]
  | cons b bs ih =>
    have hshift : (flagsByte bs <<< 1).toNat < 2 ^ (bs.length + 1) := by
      rw [BitVec.toNat_shiftLeft, Nat.shiftLeft_eq, pow_succ]
      exact Nat.lt_of_le_of_lt (Nat.mod_le _ _) (by omega)
    have hbit : (boolByte b).toNat < 2 ^ (bs.length + 1) :=
      Nat.lt_of_lt_of_le (m := 2) (by cases b <;> decide) (by rw [pow_succ]; have := Nat.one_le_two_pow (n := bs.length); omega)
    rw [flagsByte, BitVec.toNat_or, List.length_cons]
    exact Nat.or_lt_two_pow hshift hbit

/-- A 16-bit quantity is its two bytes. -/
theorem half_bytes (x : Half) : (BitVec.ofNat 8 (x.toNat / 256) ++ BitVec.ofNat 8 x.toNat : Half) = x :=
  BitVec.eq_of_toNat_eq (by rw [two_bytes_mod]; exact Nat.mod_eq_of_lt x.isLt)

/-- A 32-bit quantity is its four bytes. -/
theorem word_bytes (x : BitVec 32) : ((BitVec.ofNat 8 (x.toNat / 16777216) ++ BitVec.ofNat 8 (x.toNat / 65536) : Half) ++
    (BitVec.ofNat 8 (x.toNat / 256) ++ BitVec.ofNat 8 x.toNat : Half) : BitVec 32) = x := by
  refine BitVec.eq_of_toNat_eq ?_
  rw [BitVec.toNat_append, Nat.shiftLeft_eq, Nat.mul_comm, ← Nat.two_pow_add_eq_or_of_lt (BitVec.isLt _)]
  have h := four_bytes x.isLt
  omega

/-- The five bytes of an identity, read as one number. -/
theorem identity_bytes (x : Identity) : (identityBytes x).foldl (fun n b => n * 256 + b.toNat) 0 = x.toNat := by
  have hx := x.isLt
  simp only [identityBytes, List.foldl_cons, List.foldl_nil, BitVec.extractLsb'_toNat, Nat.shiftRight_eq_div_pow]
  omega

/-- The elements of a vector of four. -/
theorem toList_four {α : Type} (v : Vector α 4) : v.toList = [v.get 0, v.get 1, v.get 2, v.get 3] := by
  refine List.ext_getElem (by simp) fun n h _ => ?_
  rw [Vector.length_toList] at h
  match n, h with
  | 0, _ => rfl
  | 1, _ => rfl
  | 2, _ => rfl
  | 3, _ => rfl

/-- Six flags of an input's byte, of which two are a filter code. -/
theorem flagsByte_filter : ∀ a b c d e f : Bool,
    (flagsByte [a, b, c, d, e, f]).toNat / 8 % 4 = d.toNat + 2 * e.toNat := by decide

/-- The stroke record of a payload: eight bytes, zeros without one (Tables 11-2, 11-7). -/
def strokeBytes : Option StrokeRec → List Byte
  | some k => beBytes 4 k.done ++ beBytes 4 k.steps
  | none => List.replicate 8 0

theorem length_strokeBytes (k : Option StrokeRec) : (strokeBytes k).length = 8 := by
  cases k <;> simp [strokeBytes, beBytes_four]

/-- The steps done and the steps of a stroke stand in its eight bytes. -/
theorem halfAt_strokeBytes {k : StrokeRec} (hdone : k.done < 4294967296) (hsteps : k.steps < 4294967296) :
    (halfAt (strokeBytes (some k)) 0).toNat * 65536 + (halfAt (strokeBytes (some k)) 2).toNat = k.done ∧
    (halfAt (strokeBytes (some k)) 4).toNat * 65536 + (halfAt (strokeBytes (some k)) 6).toNat = k.steps := by
  simp only [strokeBytes, beBytes_four]
  exact ⟨four_bytes hdone, four_bytes hsteps⟩

end Sys2Proof.Machine
end

section
/-! SUPPORT. The reading requests (Sections 4.7, 3.7, 9.2, 9.9, 10 and 8.1) and the read frame (Section 11.1). -/

namespace Sys2Proof.Machine

-- each theorem's proof is checked before the next begins, so that few threads are needed
set_option Elab.async false

/-! ## The governor's status (Table 11-7) -/

/-- The bytes of the governor's status, each at its place. -/
theorem govStatusBytes_eq (g : Gov) (a : Alt) : govStatusBytes g a =
    [g.st.code, g.cause.code, BitVec.ofNat 8 (g.fMeas / 256), BitVec.ofNat 8 g.fMeas, BitVec.ofNat 8 (g.bAcc / 16 / 256),
      BitVec.ofNat 8 (g.bAcc / 16), BitVec.ofNat 8 (g.duty / 256), BitVec.ofNat 8 g.duty, BitVec.ofNat 8 (g.spare / 256),
      BitVec.ofNat 8 g.spare, BitVec.ofNat 8 (a.gOut / 16777216), BitVec.ofNat 8 (a.gOut / 65536),
      BitVec.ofNat 8 (a.gOut / 256), BitVec.ofNat 8 a.gOut, BitVec.ofNat 8 (a.headroom / 256), BitVec.ofNat 8 a.headroom,
      BitVec.ofNat 8 (g.gatePos / 256), BitVec.ofNat 8 g.gatePos, boolByte g.gateValid] := by
  simp only [govStatusBytes, beBytes_two, beBytes_four]
  rfl

/-- A quantity below 2^16 is read back from its place. -/
theorem half_of_two {n : Nat} (h : n < 65536) : (BitVec.ofNat 8 (n / 256) ++ BitVec.ofNat 8 n : Half).toNat = n := by
  rw [two_bytes_mod, Nat.mod_eq_of_lt h]

/-! ## The input status (Table 11-7) -/

/-- The input status: ten channel bytes, then the flags, the period and the count. -/
theorem inputStatusBytes_eq (u : Inu) : inputStatusBytes u = u.chans.toList.map chanByte ++
    ([flagsByte [u.estopLatch, u.guardLatch, u.lastStamp.isSome, u.homed],
      BitVec.ofNat 8 (u.lastPeriod.toNat / 16777216), BitVec.ofNat 8 (u.lastPeriod.toNat / 65536),
      BitVec.ofNat 8 (u.lastPeriod.toNat / 256), BitVec.ofNat 8 u.lastPeriod.toNat,
      BitVec.ofNat 8 (u.count.toNat / 16777216), BitVec.ofNat 8 (u.count.toNat / 65536),
      BitVec.ofNat 8 (u.count.toNat / 256), BitVec.ofNat 8 u.count.toNat] : List Byte) := by
  simp only [inputStatusBytes, beBytes_four, List.append_assoc] <;> rfl

theorem length_chanBytes (u : Inu) : (u.chans.toList.map chanByte).length = 10 := by
  rw [List.length_map, Vector.length_toList]

/-- A channel's byte stands at its number. -/
theorem byteAt_chan (u : Inu) (n : Fin 10) : byteAt (inputStatusBytes u) n = chanByte (u.chans.get n) := by
  rw [inputStatusBytes_eq, byteAt_append_left (by rw [length_chanBytes]; exact n.isLt), byteAt, List.getD_eq_getElem _ _
    (by rw [length_chanBytes]; exact n.isLt), List.getElem_map]
  rfl

/-- The flags of a channel's byte. -/
theorem chanByte_flags (c : Chan) : (chanByte c).toNat < 64 ∧ (chanByte c).getLsbD 0 = (c.pin != c.activeLow) ∧
    (chanByte c).getLsbD 1 = c.level ∧ (chanByte c).getLsbD 2 = c.activeLow ∧
    (c.filter < 4 → (chanByte c).toNat / 8 % 4 = c.filter) ∧ (chanByte c).getLsbD 5 = c.candidate.isSome := by
  refine ⟨flagsByte_lt _, flagsByte_getLsbD _ (by decide), flagsByte_getLsbD _ (by decide), flagsByte_getLsbD _ (by decide),
    fun hf => ?_, flagsByte_getLsbD _ (by decide)⟩
  rw [chanByte, flagsByte_filter]
  generalize c.filter = f at hf
  interval_cases f <;> rfl

/-! ## The saw's status (Table 11-7) -/

/-- The feed step rate as the saw's status gives it. -/
def Saw.shownRate (w : Saw) : Nat :=
  match w.st with
  | .feeding | .returning => w.feedRate
  | .idle | .claiming | .spinup | .setting | .feedWait | .halted | .releasing | .fault => 0

theorem Saw.shownRate_eq (w : Saw) : w.shownRate = if w.st = .feeding ∨ w.st = .returning then w.feedRate else 0 := by
  unfold Saw.shownRate
  cases w.st <;> rfl

/-- The number of the head order, 0 without one. -/
def Saw.headByte (w : Saw) : Byte := match w.cuts with | o :: _ => BitVec.ofNat 8 o.number | [] => 0

/-- The saw's status: fourteen bytes, then the stroke record. -/
theorem sawStatusBytes_eq (w : Saw) (u : Inu) (perMm : Nat) : ∃ x : BitVec 32, x = BitVec.ofInt 32 (u.count.toInt.tdiv perMm) ∧
    sawStatusBytes w u perMm =
      [w.st.code, w.cause.code, w.headByte, BitVec.ofNat 8 w.cuts.length,
        BitVec.ofNat 8 (x.toNat / 16777216), BitVec.ofNat 8 (x.toNat / 65536), BitVec.ofNat 8 (x.toNat / 256),
        BitVec.ofNat 8 x.toNat, BitVec.ofNat 8 (w.scale / 256), BitVec.ofNat 8 w.scale,
        BitVec.ofNat 8 (w.shownRate / 256), BitVec.ofNat 8 w.shownRate,
        flagsByte [u.homed, w.stopFlag, w.cutWanted, !w.cuts.isEmpty], phaseCode w.remembered] ++ strokeBytes w.stroke := by
  refine ⟨_, rfl, ?_⟩
  have hparts : sawStatusBytes w u perMm = [w.st.code, w.cause.code, w.headByte, BitVec.ofNat 8 w.cuts.length] ++
      signedBytes (u.count.toInt.tdiv perMm) ++ beBytes 2 w.scale ++ beBytes 2 w.shownRate ++
      [flagsByte [u.homed, w.stopFlag, w.cutWanted, !w.cuts.isEmpty], phaseCode w.remembered] ++ strokeBytes w.stroke := rfl
  rw [hparts, signedBytes, beBytes_four, beBytes_two, beBytes_two]
  rfl

/-! ## The cut list (Table 11-2) -/

/-- The cut list: the number of orders, the orders, then the stroke record. -/
theorem cutListBytes_eq (w : Saw) : cutListBytes w =
    [BitVec.ofNat 8 w.cuts.length] ++ (w.cuts.flatMap orderBytes ++ strokeBytes w.stroke) := rfl

/-- An order is seven bytes. -/
theorem length_orderBytes (o : CutOrder) : (orderBytes o).length = 7 := by
  rw [orderBytes_eq]
  rfl

/-- A byte of an order in the cut list. -/
theorem byteAt_order (w : Saw) {n : Nat} {o : CutOrder} (ho : w.cuts[n]? = some o) {j : Nat} (hj : j < 7) :
    byteAt (cutListBytes w) (1 + j + 7 * n) = byteAt (orderBytes o) j := by
  rw [cutListBytes_eq, show 1 + j + 7 * n = ([BitVec.ofNat 8 w.cuts.length] : List Byte).length + (7 * n + j) by
    rw [List.length_singleton]; omega, byteAt_append_right]
  exact byteAt_flatMap length_orderBytes hj ho

/-! ## A unit's entry (Table 11-6) -/

/-- The plate of an entry: validity, maker, outlets and the four ratings; zeros without one. -/
def plateBytes : Option Plate → List Byte
  | some p => [1, p.maker, BitVec.ofNat 8 p.outlets, BitVec.ofNat 8 ((p.ratings.get 0).toNat / 256),
      BitVec.ofNat 8 (p.ratings.get 0).toNat, BitVec.ofNat 8 ((p.ratings.get 1).toNat / 256),
      BitVec.ofNat 8 (p.ratings.get 1).toNat, BitVec.ofNat 8 ((p.ratings.get 2).toNat / 256),
      BitVec.ofNat 8 (p.ratings.get 2).toNat, BitVec.ofNat 8 ((p.ratings.get 3).toNat / 256),
      BitVec.ofNat 8 (p.ratings.get 3).toNat]
  | none => List.replicate 11 0

theorem length_plateBytes (p : Option Plate) : (plateBytes p).length = 11 := by cases p <;> rfl

/-- A meter count as it is returned: 0 while it is not valid (log 15). -/
def UnitEntry.shownMeter (e : UnitEntry) (o : Outlet) : Half := (e.meters.get o).getD 0

/-- The items of an entry behind its plate. -/
def UnitEntry.tailBytes (e : UnitEntry) (visiting : Bool) : List Byte :=
  [e.reach.code, BitVec.ofNat 8 e.failures,
    BitVec.ofNat 8 ((e.shownMeter 0).toNat / 256), BitVec.ofNat 8 (e.shownMeter 0).toNat,
    BitVec.ofNat 8 ((e.shownMeter 1).toNat / 256), BitVec.ofNat 8 (e.shownMeter 1).toNat,
    BitVec.ofNat 8 ((e.shownMeter 2).toNat / 256), BitVec.ofNat 8 (e.shownMeter 2).toNat,
    BitVec.ofNat 8 ((e.shownMeter 3).toNat / 256), BitVec.ofNat 8 (e.shownMeter 3).toNat,
    flagsByte [(e.meters.get 0).isSome, (e.meters.get 1).isSome, (e.meters.get 2).isSome, (e.meters.get 3).isSome],
    flagsByte [(e.reported.getD 0).getLsbD 0, (e.reported.getD 0).getLsbD 1, (e.reported.getD 0).getLsbD 2,
      (e.reported.getD 0).getLsbD 3, e.reported.isSome],
    flagsByte [e.unitFault, visiting], classCode (e.mark.map Mark.cls), classCode e.owed]

/-- A unit's entry: position and identity, the plate, then the rest. -/
theorem unitBytes_eq (u : UnitIx) (e : UnitEntry) (visiting : Bool) : unitBytes u e visiting =
    (BitVec.ofNat 8 u.val :: identityBytes e.identity) ++ (plateBytes e.plate ++ e.tailBytes visiting) := by
  cases hp : e.plate <;>
    simp only [unitBytes, hp, toList_four, plateBytes, UnitEntry.tailBytes, UnitEntry.shownMeter, List.flatMap_cons,
      List.flatMap_nil, beBytes_two, List.map_cons, List.map_nil] <;> rfl

/-- An item behind the plate stands at its place. -/
theorem byteAt_unit_tail (u : UnitIx) (e : UnitEntry) (visiting : Bool) (n : Nat) :
    byteAt (unitBytes u e visiting) (17 + n) = byteAt (e.tailBytes visiting) n := by
  have hlen : (BitVec.ofNat 8 u.val :: identityBytes e.identity ++ plateBytes e.plate).length = 17 := by
    rw [List.length_append, length_plateBytes]
    rfl
  rw [unitBytes_eq, ← List.append_assoc, ← hlen, byteAt_append_right]

/-! ## The read frame (R179, R180) -/

section
variable {s : State}

/-- What a read returns: the state byte, the stored result, then zeros. -/
theorem readFrame_eq (hrun : s.inReset = false) (n : Nat) : s.readFrame n = (([s.stateByte, s.rqp.stored.code.code,
    BitVec.ofNat 8 s.rqp.stored.payload.length] ++ s.rqp.stored.payload) ++ List.replicate n 0).take n := by
  simp only [State.readFrame, hrun, Bool.false_eq_true, if_false]
  rfl

theorem length_result (b c n : Byte) (p : List Byte) : ([b, c, n] ++ p).length = 3 + p.length := by
  rw [List.length_append]
  rfl

end

/-! ## The layouts, item by item -/

/-- The items of the governor's status. -/
theorem govStatus_layout (g : Gov) (a : Alt) (p : List Byte) (hp : p = govStatusBytes g a) :
    p.length = 19 ∧ byteAt p 0 = g.st.code ∧ byteAt p 1 = g.cause.code ∧
    (∀ place value, (place, value) ∈ [(2, g.fMeas), (4, g.bAcc / 16), (6, g.duty), (8, g.spare), (14, a.headroom),
      (16, g.gatePos)] → value < 65536 → (halfAt p place).toNat = value) ∧
    (a.gOut < 4294967296 → (halfAt p 10).toNat * 65536 + (halfAt p 12).toNat = a.gOut) ∧
    byteAt p 18 = if g.gateValid then 1 else 0 := by
  rw [govStatusBytes_eq] at hp
  subst hp
  refine ⟨rfl, rfl, rfl, fun place value hplace hvalue => ?_, fun h => four_bytes h, rfl⟩
  simp only [List.mem_cons, Prod.mk.injEq, List.not_mem_nil, or_false] at hplace
  rcases hplace with ⟨rfl, rfl⟩ | ⟨rfl, rfl⟩ | ⟨rfl, rfl⟩ | ⟨rfl, rfl⟩ | ⟨rfl, rfl⟩ | ⟨rfl, rfl⟩ <;> exact half_of_two hvalue

/-- The items of the input status behind the channels. -/
theorem inputStatus_tail (u : Inu) :
    ((byteAt (inputStatusBytes u) 10).toNat < 16 ∧ (byteAt (inputStatusBytes u) 10).getLsbD 0 = u.estopLatch ∧
      (byteAt (inputStatusBytes u) 10).getLsbD 1 = u.guardLatch ∧
      (byteAt (inputStatusBytes u) 10).getLsbD 2 = u.lastStamp.isSome ∧
      (byteAt (inputStatusBytes u) 10).getLsbD 3 = u.homed) ∧
    (halfAt (inputStatusBytes u) 11).toNat * 65536 + (halfAt (inputStatusBytes u) 13).toNat = u.lastPeriod.toNat ∧
    (halfAt (inputStatusBytes u) 15).toNat * 65536 + (halfAt (inputStatusBytes u) 17).toNat = u.count.toNat := by
  have hlen := length_chanBytes u
  rw [inputStatusBytes_eq]
  refine ⟨?_, ?_, ?_⟩
  · rw [show 10 = (u.chans.toList.map chanByte).length + 0 from hlen.symm, byteAt_append_right]
    exact ⟨flagsByte_lt _, flagsByte_getLsbD _ (by decide), flagsByte_getLsbD _ (by decide), flagsByte_getLsbD _ (by decide),
      flagsByte_getLsbD _ (by decide)⟩
  · rw [show 11 = (u.chans.toList.map chanByte).length + 1 by rw [hlen],
      show 13 = (u.chans.toList.map chanByte).length + 3 by rw [hlen], halfAt_append_right, halfAt_append_right]
    exact four_bytes u.lastPeriod.isLt
  · rw [show 15 = (u.chans.toList.map chanByte).length + 5 by rw [hlen],
      show 17 = (u.chans.toList.map chanByte).length + 7 by rw [hlen], halfAt_append_right, halfAt_append_right]
    exact four_bytes u.count.isLt

end Sys2Proof.Machine
end

section
/-! SUPPORT. The reading requests change nothing (Sections 3.7, 4.7, 8.1, 9.2, 9.9, 10 and 11.1). -/

namespace Sys2Proof.Machine

-- each theorem's proof is checked before the next begins, so that few threads are needed
set_option Elab.async false

/-- A request that only reads answers DONE and changes nothing (R181). -/
theorem request_reads {s : State} (h : s.Ready) {payload : State → List Byte} (hp : payload s.cleared = payload s) :
    s.request (fun s => done s (payload s)) = .next (s.answered .done (payload s)) := by
  refine request_answers h ?_
  rw [← hp]
  rfl

/-- The number of a parameter fits a byte. -/
theorem param_number_lt : ∀ p : Param, p.number < 256 := by
  intro p
  cases p <;> decide

/-- The items of the saw's status. -/
theorem sawStatus_layout (w : Saw) (u : Inu) (perMm : Nat) (p : List Byte) (hp : p = sawStatusBytes w u perMm) :
    p.length = 22 ∧ byteAt p 0 = w.st.code ∧ byteAt p 1 = w.cause.code ∧
    byteAt p 2 = w.headByte ∧ byteAt p 3 = BitVec.ofNat 8 w.cuts.length ∧
    halfAt p 4 ++ halfAt p 6 = BitVec.ofInt 32 (u.count.toInt.tdiv perMm) ∧
    (w.scale < 65536 → (halfAt p 8).toNat = w.scale) ∧
    (w.feedRate < 65536 → (halfAt p 10).toNat = if w.st = .feeding ∨ w.st = .returning then w.feedRate else 0) ∧
    ((byteAt p 12).toNat < 16 ∧ (byteAt p 12).getLsbD 0 = u.homed ∧ (byteAt p 12).getLsbD 1 = w.stopFlag ∧
      (byteAt p 12).getLsbD 2 = w.cutWanted ∧ ((byteAt p 12).getLsbD 3 = true ↔ w.cuts ≠ [])) ∧
    byteAt p 13 = phaseCode w.remembered ∧ p.drop 14 = strokeBytes w.stroke := by
  obtain ⟨x, hx, hbytes⟩ := sawStatusBytes_eq w u perMm
  rw [hbytes] at hp
  subst hp
  refine ⟨?_, rfl, rfl, rfl, rfl, ?_, fun h => half_of_two h, fun h => ?_, ⟨flagsByte_lt _, flagsByte_getLsbD _ (by decide),
    flagsByte_getLsbD _ (by decide), flagsByte_getLsbD _ (by decide), ?_⟩, rfl, rfl⟩
  · rw [List.length_append, length_strokeBytes]
    rfl
  · rw [← hx]
    exact word_bytes x
  · have hlt : w.shownRate < 65536 := by
      rw [w.shownRate_eq]
      split
      · exact h
      · decide
    exact (half_of_two hlt).trans w.shownRate_eq
  · have hbit := flagsByte_getLsbD [u.homed, w.stopFlag, w.cutWanted, !w.cuts.isEmpty] (n := 3) (by decide)
    refine (Iff.of_eq (congrArg (· = true) hbit)).trans ?_
    simp

/-- A half at a place is the half of the bytes that stand there. -/
theorem halfAt_drop (p : List Byte) (k n : Nat) : halfAt p (k + n) = halfAt (p.drop k) n := by
  simp only [halfAt, byteAt, List.getD_eq_getElem?_getD, List.getElem?_drop, Nat.add_assoc]

/-- The steps of a stroke stand where its record stands. -/
theorem stroke_places {p : List Byte} {n : Nat} {k : StrokeRec} (h : p.drop n = strokeBytes (some k))
    (hdone : k.done < 4294967296) (hsteps : k.steps < 4294967296) :
    (halfAt p n).toNat * 65536 + (halfAt p (n + 2)).toNat = k.done ∧
    (halfAt p (n + 4)).toNat * 65536 + (halfAt p (n + 6)).toNat = k.steps := by
  rw [show halfAt p n = halfAt p (n + 0) from rfl, halfAt_drop, halfAt_drop, halfAt_drop, halfAt_drop, h]
  exact halfAt_strokeBytes hdone hsteps

/-- The stroke record stands behind the orders of the cut list. -/
theorem cutList_drop (w : Saw) : (cutListBytes w).drop (1 + 7 * w.cuts.length) = strokeBytes w.stroke := by
  rw [cutListBytes_eq, ← List.append_assoc]
  refine List.drop_left' ?_
  rw [List.length_append, length_flatMap_of length_orderBytes]
  rfl

/-- The items of a unit's entry behind its plate. -/
theorem unit_tail_layout (u : UnitIx) (e : UnitEntry) (visiting : Bool) (p : List Byte) (hp : p = unitBytes u e visiting) :
    byteAt p 17 = e.reach.code ∧ byteAt p 18 = BitVec.ofNat 8 e.failures ∧
    (∀ o : Outlet, halfAt p (19 + 2 * o.val) = (e.meters.get o).getD 0 ∧
      (byteAt p 27).getLsbD o.val = (e.meters.get o).isSome ∧
      (byteAt p 28).getLsbD o.val = (e.reported.getD 0).getLsbD o.val) ∧
    (byteAt p 27).toNat < 16 ∧ (byteAt p 28).toNat < 32 ∧ (byteAt p 28).getLsbD 4 = e.reported.isSome ∧
    (byteAt p 29).toNat < 4 ∧ (byteAt p 29).getLsbD 0 = e.unitFault ∧ (byteAt p 29).getLsbD 1 = visiting ∧
    byteAt p 30 = classCode (e.mark.map Mark.cls) ∧ byteAt p 31 = classCode e.owed := by
  have hplace : ∀ n, byteAt p (17 + n) = byteAt (e.tailBytes visiting) n := fun n => hp ▸ byteAt_unit_tail u e visiting n
  have hhalf : ∀ n, halfAt p (17 + n) = halfAt (e.tailBytes visiting) n := fun n =>
    congrArg₂ (fun a b : Byte => (a ++ b : Half)) (hplace n) (hplace (n + 1))
  have h27 : byteAt p 27 = flagsByte [(e.meters.get 0).isSome, (e.meters.get 1).isSome, (e.meters.get 2).isSome,
    (e.meters.get 3).isSome] := hplace 10
  have h28 : byteAt p 28 = flagsByte [(e.reported.getD 0).getLsbD 0, (e.reported.getD 0).getLsbD 1,
    (e.reported.getD 0).getLsbD 2, (e.reported.getD 0).getLsbD 3, e.reported.isSome] := hplace 11
  have h29 : byteAt p 29 = flagsByte [e.unitFault, visiting] := hplace 12
  rw [h27, h28, h29]
  refine ⟨hplace 0, hplace 1, fun o => ⟨?_, ?_, ?_⟩, flagsByte_lt _, flagsByte_lt _, flagsByte_getLsbD _ (by decide),
    flagsByte_lt _, flagsByte_getLsbD _ (by decide), flagsByte_getLsbD _ (by decide), hplace 13, hplace 14⟩
  · rw [show 19 + 2 * o.val = 17 + (2 + 2 * o.val) by omega, hhalf]
    refine Eq.trans ?_ (half_bytes (e.shownMeter o))
    match o with
    | 0 => rfl
    | 1 => rfl
    | 2 => rfl
    | 3 => rfl
  all_goals
    rw [flagsByte_getLsbD _ (Nat.lt_trans o.isLt (by decide))]
    match o with
    | 0 => rfl
    | 1 => rfl
    | 2 => rfl
    | 3 => rfl

/-- The position, the identity and the plate of a unit's entry. -/
theorem unit_head_layout (u : UnitIx) (e : UnitEntry) (visiting : Bool) (p : List Byte) (hp : p = unitBytes u e visiting) :
    p.length = 32 ∧ (byteAt p 0).toNat = u.val ∧
    ((p.drop 1).take 5).foldl (fun n b => n * 256 + b.toNat) 0 = e.identity.toNat ∧
    (e.plate = none → (p.drop 6).take 11 = List.replicate 11 0) ∧
    ∀ k, e.plate = some k → byteAt p 6 = 1 ∧ byteAt p 7 = k.maker ∧
      (k.outlets < 256 → (byteAt p 8).toNat = k.outlets) ∧ ∀ o : Outlet, halfAt p (9 + 2 * o.val) = k.ratings.get o := by
  rw [unitBytes_eq] at hp
  subst hp
  refine ⟨?_, ?_, identity_bytes e.identity, fun hnone => ?_, fun k hk => ?_⟩
  · rw [List.length_append, List.length_append, length_plateBytes]
    rfl
  · exact Nat.mod_eq_of_lt (Nat.lt_trans u.isLt (by decide))
  · rw [hnone]
    rfl
  · rw [hk]
    refine ⟨rfl, rfl, fun h => Nat.mod_eq_of_lt h, fun o => ?_⟩
    refine Eq.trans ?_ (half_bytes (k.ratings.get o))
    match o with
    | 0 => rfl
    | 1 => rfl
    | 2 => rfl
    | 3 => rfl

/-- Settles O21: the requests, then the layouts of their payloads, then the read frame. -/
theorem readingRequestsChangeNothing : Obligations.ReadingRequestsChangeNothing := by
  refine ⟨fun s h => ⟨request_reads h rfl, request_reads h rfl, request_reads h rfl, request_reads h rfl, request_reads h rfl,
      ?_, fun number p hp => ?_, fun index u e hu he => ?_⟩,
    fun g a p hp => ?_, fun u p hp => ?_, fun w u perMm p hp => ?_, fun w p hp => ?_, fun u e visiting p hp => ?_,
    fun s n host b hrun => ?_⟩
  · refine (request_reads h rfl).trans ?_
    rw [identityPayload]
    cases s.rqp.form <;> rfl
  · have hnum : p.number = number.toNat := (param_ofNumber_iff _ _).mp hp
    refine request_answers h ?_
    simp only [hp, paramBytes_eq, hnum, BitVec.ofNat_toNat]
    rfl
  · exact request_answers h ((onUnit_of_entry (s := s.cleared) hu he _).trans rfl)
  · obtain ⟨hlen, hst, hcause, hrest⟩ := govStatus_layout g a p hp
    refine ⟨hlen, hst.trans ?_, hcause.trans ?_, hrest⟩
    · cases g.st <;> rfl
    · cases g.cause <;> rfl
  · subst hp
    refine ⟨?_, fun n => ?_, inputStatus_tail u⟩
    · rw [inputStatusBytes_eq, List.length_append, length_chanBytes]
      rfl
    · rw [byteAt_chan]
      exact chanByte_flags _
  · obtain ⟨hlen, hst, hcause, hhead, hcount, hpos, hscale, hrate, hflags, hphase, hstroke⟩ := sawStatus_layout w u perMm p hp
    refine ⟨hlen, hst.trans ?_, hcause.trans ?_, fun o rest hcuts hlt => ?_, fun hcuts => ?_, fun hlt => ?_, hpos, hscale, hrate,
      hflags, hphase.trans ?_, fun hnone => ?_, fun k hk hdone hsteps => ?_⟩
    · cases w.st <;> rfl
    · cases w.cause <;> rfl
    · rw [hhead, Saw.headByte, hcuts]
      exact Nat.mod_eq_of_lt hlt
    · rw [hhead, Saw.headByte, hcuts]
    · rw [hcount]
      exact Nat.mod_eq_of_lt hlt
    · rcases w.remembered with _ | _ | _ | _ <;> rfl
    · rw [hstroke, hnone]
      rfl
    · exact stroke_places (hstroke.trans (by rw [hk])) hdone hsteps
  · subst hp
    have hat : ∀ {n o}, w.cuts[n]? = some o → ∀ j, j < 6 →
        halfAt (cutListBytes w) (1 + j + 7 * n) = byteAt (orderBytes o) j ++ byteAt (orderBytes o) (j + 1) :=
      fun ho j hj => congrArg₂ (fun a b : Byte => (a ++ b : Half)) (byteAt_order w ho (by omega)) (by
        rw [← byteAt_order w ho (show j + 1 < 7 by omega)]
        exact congrArg _ (by omega))
    refine ⟨?_, fun hlt => Nat.mod_eq_of_lt hlt, fun n o ho => ?_, fun hnone => ?_, fun k n hk hn hdone hsteps => ?_⟩
    · rw [cutListBytes_eq, List.length_append, List.length_append, length_flatMap_of length_orderBytes, length_strokeBytes,
        List.length_singleton]
      omega
    · rw [show 1 + 7 * n = 1 + 0 + 7 * n by omega, show 2 + 7 * n = 1 + 1 + 7 * n by omega,
        show 4 + 7 * n = 1 + 3 + 7 * n by omega, show 6 + 7 * n = 1 + 5 + 7 * n by omega,
        byteAt_order w ho (by decide), hat ho 1 (by decide), hat ho 3 (by decide), hat ho 5 (by decide), orderBytes_eq]
      exact ⟨fun hlt => Nat.mod_eq_of_lt hlt, half_of_two, half_of_two, half_of_two⟩
    · rw [cutList_drop, hnone]
      rfl
    · rw [hn]
      exact stroke_places ((cutList_drop w).trans (by rw [hk])) hdone hsteps
  · obtain ⟨hlen, hix, hid, hnone, hplate⟩ := unit_head_layout u e visiting p hp
    obtain ⟨hreach, hfail, hmeters, h27, h28, hrep, h29, hfault, hvis, hmark, howed⟩ := unit_tail_layout u e visiting p hp
    refine ⟨hlen, hix, hid, hnone, hplate, hreach.trans ?_, fun hlt => ?_, hmeters, h27, h28, hrep, h29, hfault, hvis,
      fun place cls hplace => ?_⟩
    · cases e.reach <;> rfl
    · rw [hfail]
      exact Nat.mod_eq_of_lt hlt
    · have hcode : byteAt p place = classCode cls := by
        simp only [List.mem_cons, Prod.mk.injEq, List.not_mem_nil, or_false] at hplace
        rcases hplace with ⟨rfl, rfl⟩ | ⟨rfl, rfl⟩
        · exact hmark
        · exact howed
      rw [hcode]
      rcases cls with _ | _ | _ | _ | _ <;> rfl
  · have hlisten : ∀ form, s.listens form = (s.rqp.form == form) := fun form => by simp [State.listens, hrun]
    have hlen := length_result s.stateByte s.rqp.stored.code.code (BitVec.ofNat 8 s.rqp.stored.payload.length)
      s.rqp.stored.payload
    refine ⟨fun hn => ?_, ?_, ?_, fun hform hb => ?_, fun hform hb => ?_, fun hform => ?_⟩
    · rw [readFrame_eq hrun, List.take_append_of_le_length (by rw [hlen]; exact hn)]
    · rw [readFrame_eq hrun, ← hlen, List.take_length_add_append, List.take_replicate,
        Nat.min_eq_left (Nat.le_add_left _ _)]
    · refine ⟨flagsByte_lt _, ?_, flagsByte_getLsbD _ (by decide), flagsByte_getLsbD _ (by decide)⟩
      refine (Iff.of_eq (congrArg (· = true) (flagsByte_getLsbD _ (by decide)))).trans ?_
      exact Option.isNone_iff_eq_none
    · rw [State.spiOut, hlisten, hform]
      exact if_pos hb
    · rw [State.spiOut, hlisten, hform]
      exact if_neg hb
    · rw [State.spiOut, hlisten, hform]
      rfl

end Sys2Proof.Machine
end

section
/-! SUPPORT. The admission pass: first fit, the starved candidate and the strict slot (R43, R47, R48). -/

namespace Sys2Proof.Machine

-- each theorem's proof is checked before the next begins, so that few threads are needed
set_option Elab.async false

section
variable {s : State} {i : Slot} {r : Allotment} {pre post : List Slot}

/-! ## Candidates passed over (R43) -/

/-- A record passed over. -/
def Allotment.hungrier (r : Allotment) : Allotment := { r with starve := min 255 (r.starve + 1) }

/-- The state with the records of some slots passed over. -/
def State.starving (s : State) (l : List Slot) : State :=
  { s with alt := { s.alt with
    slots := Vector.ofFn fun j => if j ∈ l then (s.record j).map Allotment.hungrier else s.record j } }

theorem record_starving (l : List Slot) (j : Slot) :
    (s.starving l).record j = if j ∈ l then (s.record j).map Allotment.hungrier else s.record j := by
  simp [State.starving, State.record, Vector.get_eq_getElem]

theorem starving_headroom (s : State) (l : List Slot) : (s.starving l).alt.headroom = s.alt.headroom := by
  simp only [State.starving]

/-- States that differ in no record are one. -/
theorem slots_ext {v w : Vector (Option Allotment) Config.slots} (h : ∀ j : Slot, v.get j = w.get j) : v = w :=
  Vector.ext fun n hn => h ⟨n, hn⟩

theorem starving_nil (s : State) : s.starving [] = s := by
  have hslots : (s.starving []).alt.slots = s.alt.slots := slots_ext fun j => record_starving (s := s) [] j
  exact congrArg (fun v => { s with alt := { s.alt with slots := v } }) hslots

/-- A slot passed over before others. -/
theorem passOver_starving {j : Slot} {l : List Slot} (hj : j ∉ l) (hr : s.record j = some r) :
    (s.passOver j r).starving l = s.starving (j :: l) := by
  have hslots : ((s.passOver j r).starving l).alt.slots = (s.starving (j :: l)).alt.slots := slots_ext fun k => by
    refine (record_starving (s := s.passOver j r) l k).trans ((record_starving (s := s) (j :: l) k).trans ?_).symm
    by_cases hk : k = j
    · subst hk
      rw [if_pos List.mem_cons_self, if_neg hj, State.passOver, record_setRecord_self, hr]
      rfl
    · rw [State.passOver, record_setRecord_ne _ _ hk]
      simp only [List.mem_cons, hk, false_or]
  exact congrArg (fun v => { s with alt := { s.alt with slots := v } }) hslots

/-- First fit passes over the candidates that do not fit (R43). -/
theorem firstFit_passes (post : List Slot) : ∀ {l : List Slot} {s : State}, l.Nodup →
    (∀ j ∈ l, ∃ r, s.record j = some r ∧ s.alt.headroom < r.need) →
    s.firstFit (l ++ post) = (s.starving l).firstFit post := by
  intro l
  induction l with
  | nil =>
    intro s _ _
    rw [starving_nil, List.nil_append]
  | cons j l ih =>
    intro s hnodup h
    obtain ⟨hj, hl⟩ := List.nodup_cons.mp hnodup
    obtain ⟨r, hr, hneed⟩ := h j List.mem_cons_self
    have hstep : s.firstFit (j :: l ++ post) = (s.passOver j r).firstFit (l ++ post) := by
      simp only [List.cons_append, State.firstFit, hr, if_neg (Nat.not_le.mpr hneed)]
    rw [hstep, ih hl, passOver_starving hj hr]
    intro k hk
    have hne : k ≠ j := fun h => hj (h ▸ hk)
    obtain ⟨q, hq, hlt⟩ := h k (List.mem_cons_of_mem _ hk)
    exact ⟨q, by rw [State.passOver, record_setRecord_ne _ _ hne, hq], hlt⟩

/-- The record of a candidate. -/
theorem record_of_candidate (h : s.isCandidate i = true) : ∃ r, s.record i = some r := by
  rcases hr : s.record i with _ | r
  · simp only [State.isCandidate, hr] at h
    cases h
  · exact ⟨r, rfl⟩

/-- A candidate that is not SAW waits for its admission (R41). -/
theorem pending_or_shed_of_candidate (hr : s.record i = some r) (hk : r.kind ≠ .saw) (h : s.isCandidate i = true) :
    r.state = .pending ∨ r.state = .shed := by
  by_contra hst
  obtain ⟨hpending, hshed⟩ := not_or.mp hst
  rw [isCandidate_eq_false hr hpending hshed fun _ => hk] at h
  cases h

/-- Without a strict or starved candidate the pass is first fit (R43). -/
theorem admissionPass_of_firstFit (hstrict : s.alt.strict = none) (hstarved : s.starved = none) :
    s.admissionPass = s.firstFit s.candidates := by
  simp only [State.admissionPass, hstrict, hstarved]

/-- First fit serves the first candidate that fits, those before it passed over (R43). -/
theorem admissionPass_serves (hstrict : s.alt.strict = none) (hstarved : s.starved = none)
    (hcand : s.candidates = pre ++ i :: post) (hr : s.record i = some r) (hfit : r.need ≤ s.alt.headroom)
    (hpre : ∀ j ∈ pre, ∀ r', s.record j = some r' → s.alt.headroom < r'.need) :
    i ∉ pre ∧ s.admissionPass = (s.starving pre).serve i r := by
  have hnodup := candidates_nodup s
  rw [hcand] at hnodup
  obtain ⟨hpnodup, -, hdisj⟩ := List.nodup_append'.mp hnodup
  have hi : i ∉ pre := fun h => hdisj h List.mem_cons_self
  have hall : ∀ j ∈ pre, ∃ r, s.record j = some r ∧ s.alt.headroom < r.need := fun j hj => by
    have hmem : j ∈ s.candidates := by
      rw [hcand]
      exact List.mem_append_left _ hj
    obtain ⟨q, hq⟩ := record_of_candidate (mem_candidates_iff.mp hmem)
    exact ⟨q, hq, hpre j hj q hq⟩
  have hrec : (s.starving pre).record i = some r := by rw [record_starving, if_neg hi, hr]
  refine ⟨hi, ?_⟩
  have hserve : (s.starving pre).firstFit (i :: post) = (s.starving pre).serve i r := by
    simp only [State.firstFit, hrec, starving_headroom, hfit, if_true]
  calc s.admissionPass = s.firstFit s.candidates := admissionPass_of_firstFit hstrict hstarved
    _ = s.firstFit (pre ++ i :: post) := congrArg s.firstFit hcand
    _ = (s.starving pre).firstFit (i :: post) := firstFit_passes _ hpnodup hall
    _ = (s.starving pre).serve i r := hserve

/-- Where no candidate fits, each is passed over (R43). -/
theorem admissionPass_starves (hstrict : s.alt.strict = none) (hstarved : s.starved = none)
    (h : ∀ j r, s.isCandidate j = true → s.record j = some r → s.alt.headroom < r.need) :
    s.admissionPass = s.starving s.candidates := by
  have hall : ∀ j ∈ s.candidates, ∃ r, s.record j = some r ∧ s.alt.headroom < r.need := fun j hj => by
    have hj := mem_candidates_iff.mp hj
    obtain ⟨q, hq⟩ := record_of_candidate hj
    exact ⟨q, hq, h j q hj hq⟩
  have hpass := firstFit_passes [] (candidates_nodup s) hall
  rw [List.append_nil] at hpass
  rw [admissionPass_of_firstFit hstrict hstarved, hpass]
  rfl

/-! ## Strict passes (R47, R48) -/

/-- The first candidate that has reached the starve limit (R47). -/
theorem starved_of (hcand : s.candidates = pre ++ i :: post) (hr : s.record i = some r)
    (hlimit : s.param .starveLimit ≤ r.starve)
    (hpre : ∀ j ∈ pre, ∀ r', s.record j = some r' → r'.starve < s.param .starveLimit) : s.starved = some i := by
  have hnone : pre.find? (fun i => (s.record i).any fun r => decide (s.param .starveLimit ≤ r.starve)) = none :=
    List.find?_eq_none.mpr fun j hj => by
      rcases hq : s.record j with _ | q
      · exact Bool.false_ne_true
      · simpa using hpre j hj q hq
  rw [State.starved, hcand, List.find?_append, hnone, List.find?_cons_of_pos (by rw [hr]; exact decide_eq_true hlimit)]
  rfl

/-- The slot a strict pass examines: the strict slot, or the starved candidate that takes it (R47, R48). -/
def State.Examines (s : State) (i : Slot) (r : Allotment) : Prop :=
  s.alt.strict = some i ∨ (s.alt.strict = none ∧ ∃ pre post, s.candidates = pre ++ i :: post ∧
    s.param .starveLimit ≤ r.starve ∧ ∀ j ∈ pre, ∀ r', s.record j = some r' → r'.starve < s.param .starveLimit)

/-- A strict pass examines its slot alone (R48). -/
theorem admissionPass_strict (hr : s.record i = some r) (h : s.Examines i r) :
    s.admissionPass = (s.onAlt fun a => { a with strict := some i }).strictPass i := by
  rcases h with hstrict | ⟨hstrict, pre, post, hcand, hlimit, hpre⟩
  · have hself : (s.onAlt fun a => { a with strict := some i }) = s :=
      congrArg (fun o => { s with alt := { s.alt with strict := o } }) hstrict.symm
    simp only [State.admissionPass, hstrict, hself]
  · simp only [State.admissionPass, hstrict, starved_of hcand hr hlimit hpre]

end

end Sys2Proof.Machine
end

section
/-! SUPPORT. The service of a candidate: admission of a field record and of the saw record (R23, R25, R44), and the untrim
(R26, R45, R160, R161). -/

namespace Sys2Proof.Machine

-- each theorem's proof is checked before the next begins, so that few threads are needed
set_option Elab.async false

section
variable {s : State} {i : Slot} {r : Allotment}

/-! ## Admission (R44) -/

/-- A record admitted. -/
def Allotment.granted (r : Allotment) : Allotment :=
  { r with state := .granted, reason := some (if r.state = .shed then Reason.restored else Reason.admitted), starve := 0 }

/-- ALT with a record admitted, before its switch is ordered closed (R27, R32, R44). -/
def State.granting (s : State) (i : Slot) (r : Allotment) : State :=
  { s with alt := { s.alt with
    slots := s.alt.slots.set i (some r.granted), changed := s.alt.changed.set i true, gOut := s.alt.gOut + r.share
    headroom := s.alt.headroom - r.need, strict := if s.alt.strict = some i then none else s.alt.strict } }

/-- An admission puts the record down and orders its switch closed. -/
theorem grant_eq (s : State) (i : Slot) (r : Allotment) : s.grant i r = (s.granting i r).orderClosed i r.granted := rfl

/-- A field record admitted: its unit is marked CLOSE (R25). -/
theorem grant_field {u : UnitIx} {o : Outlet} (ht : r.target = .field u o) : s.grant i r = { s.granting i r with
    flc := s.flc.giveMark s.now .closing u } := by
  have htarget : r.granted.target = .field u o := ht
  rw [grant_eq]
  simp only [State.orderClosed, htarget]
  rfl

/-- The saw record admitted with CLUTCH_IN inactive: the clutch engages and waits (R23). -/
theorem grant_clutch_out (ht : r.target = .clutch) (hout : s.active .clutchIn = false) : s.grant i r =
    (s.granting i r).onAlt fun a => { a with clutch := true, wait := some (.engage (s.param .clutchTimeout * 1000)) } := by
  have htarget : r.granted.target = .clutch := ht
  rw [grant_eq]
  simp only [State.orderClosed, htarget]
  refine if_neg ?_
  exact ne_true_of_eq_false hout

/-- ALT with the saw record LIVE in the act of its admission (R23). -/
def State.clutched (s : State) (i : Slot) (r : Allotment) : State :=
  { s with
    alt := { s.alt with
      slots := s.alt.slots.set i (some { r with state := .live, reason := some .confirmed, starve := 0 })
      changed := s.alt.changed.set i true, headroom := s.alt.headroom - r.need
      strict := if s.alt.strict = some i then none else s.alt.strict, clutch := true, wait := none }
    gov := s.gov.ballastStep s.params .down r.idle }

/-- The saw record admitted with CLUTCH_IN active: LIVE at once (R23). -/
theorem grant_clutch_in (hi : s.sawSlot = some i) (hk : r.kind = .saw) (ht : r.target = .clutch)
    (hin : s.active .clutchIn = true) : s.grant i r = (s.clutched i r).noticeLive := by
  have htarget : r.granted.target = .clutch := ht
  obtain ⟨x, hx⟩ : ∃ x, x = (s.granting i r).onAlt fun a =>
    { a with clutch := true, wait := some (.engage (s.param .clutchTimeout * 1000)) } := ⟨_, rfl⟩
  have hslots : x.alt.slots = s.alt.slots.set i (some r.granted) := by rw [hx]; rfl
  have hslot : x.sawSlot = some i := sawSlot_of_set hi (r := r.granted) hk hslots
  have hrec : x.record i = some r.granted := by rw [record_of_slots hslots, if_pos rfl]
  have hgrant : s.grant i r = x.confirmClutch := by
    rw [grant_eq]
    simp only [State.orderClosed, htarget]
    refine (if_pos ?_).trans ?_
    · exact hin
    · rw [hx]
      rfl
  have hshare : r.granted.share = r.share := rfl
  rw [hgrant]
  simp only [State.confirmClutch, hslot, hrec, hshare]
  refine congrArg State.noticeLive ?_
  rw [hx]
  simp only [State.setRecord, State.noteChange, State.subGranted, State.ballastStep, State.onAlt, State.onGov, State.granting,
    State.clutched, Nat.add_sub_cancel, Vector.set_set, if_true]
  rfl

/-! ## The untrim (R26, R45, R160, R161) -/

/-- ALT with the saw record untrimmed (R26, R45). -/
def State.untrimmed (s : State) (i : Slot) (r : Allotment) : State :=
  { s with
    alt := { s.alt with
      slots := s.alt.slots.set i (some { r with trimmed := false, reason := some .untrimmed, starve := 0 })
      changed := s.alt.changed.set i true, headroom := s.alt.headroom - r.need
      strict := if s.alt.strict = some i then none else s.alt.strict }
    gov := s.gov.ballastStep s.params .down r.cutShare }

/-- A LIVE candidate is served by its untrim (R45). -/
theorem serve_of_live (hst : r.state = .live) : s.serve i r = (s.untrimmed i r).noticeUntrim := if_pos hst

/-- The stroke that FEEDING takes up: the one kept, or a new one of the head order (R161). -/
def State.nextStroke (s : State) (o : CutOrder) : StrokeRec :=
  s.saw.stroke.getD
    { steps := o.stroke * s.param .stepsPerMm, stepsPerMm := s.param .stepsPerMm, countsPerMm := s.param .encPerMm
      reference := s.inu.count, done := 0 }

/-- The feed step rate of a stroke of an order at the held scale (R162). -/
def State.orderRate (s : State) (o : CutOrder) (k : StrokeRec) : Nat :=
  min maxFeedRate (feedMmPerS o.ceiling s.saw.scale (s.param .feedMin) * k.stepsPerMm)

/-- SAW in FEEDING on a stroke. -/
def State.feedingOn (s : State) (k : StrokeRec) (rate : Nat) : State :=
  { s with
    saw := { s.saw with
      st := .feeding, cutWanted := false, stroke := some k, feedRate := rate
      feed := if rate = 0 then .idle else .stepping true rate (stepInterval rate) }
    rqp := { s.rqp with latched := s.rqp.latched ||| Cause.sawState.bit } }

/-- A feed rate taken by a feed that stands. -/
theorem setFeedRate_of_idle {w : Saw} (h : w.feed = .idle) (rate : Nat) : w.setFeedRate rate =
    { w with feedRate := rate, feed := if rate = 0 then .idle else .stepping true rate (stepInterval rate) } := by
  simp only [Saw.setFeedRate, h]

/-- FEEDING entered from FEED_WAIT with a standing feed, off FWD_LIMIT (R160, R161). -/
theorem enterFeeding_of_wait {o : CutOrder} {rest : List CutOrder} (hst : s.saw.st ≠ .feeding) (hfeed : s.saw.feed = .idle)
    (hfwd : s.active .fwdLimit = false) (hcuts : s.saw.cuts = o :: rest) (hstrict : s.alt.strict = none) :
    s.enterFeeding = s.feedingOn (s.nextStroke o) (s.orderRate o (s.nextStroke o)) := by
  obtain ⟨x, hx⟩ : ∃ x, x = (s.onSaw fun w => { w with cutWanted := false, st := .feeding, stroke := some (s.nextStroke o) }).raise
    .sawState := ⟨_, rfl⟩
  have henter : s.enterFeeding = if x.active .fwdLimit then x.sawFault .fwdLimit else x.onSaw fun w => w.setFeedRate x.strokeRate := by
    have hne : (s.onSaw fun w => { w with cutWanted := false }).saw.st ≠ .feeding := hst
    unfold State.enterFeeding
    rw [clearCutWanted_of_none hstrict, enterSaw_of_ne hne]
    rcases hk : s.saw.stroke with _ | k
    · have hnext : s.nextStroke o = { steps := s.saw.headStroke * s.param .stepsPerMm, stepsPerMm := s.param .stepsPerMm
                                      countsPerMm := s.param .encPerMm, reference := s.inu.count, done := 0 } := by
        simp only [State.nextStroke, hk, Option.getD_none, Saw.headStroke, hcuts]
      rw [hx, hnext]
      have hnone : (((s.onSaw fun w => { w with cutWanted := false }).onSaw fun w => { w with st := .feeding }).raise
        .sawState).saw.stroke = none := hk
      simp only [hnone] <;> rfl
    · have hnext : s.nextStroke o = k := by simp only [State.nextStroke, hk, Option.getD_some]
      have hsome : (((s.onSaw fun w => { w with cutWanted := false }).onSaw fun w => { w with st := .feeding }).raise
        .sawState) = x := by
        rw [hx, hnext]
        exact congrArg (fun o : Option StrokeRec => ({ s with
          saw := { s.saw with cutWanted := false, st := .feeding, stroke := o } } : State).raise .sawState) hk
      simp only [hsome]
      have hxk : x.saw.stroke = some k := by rw [hx, hnext]; rfl
      simp only [hxk]
  have hfwd' : ¬ x.active .fwdLimit = true := by rw [hx]; exact ne_true_of_eq_false hfwd
  have hrate : x.strokeRate = s.orderRate o (s.nextStroke o) := by
    have hxk : x.saw.stroke = some (s.nextStroke o) := by rw [hx]; rfl
    have hceiling : x.saw.headCeiling = o.ceiling := by
      have hxc : x.saw.cuts = o :: rest := by rw [hx]; exact hcuts
      simp only [Saw.headCeiling, hxc]
    simp only [State.strokeRate, hxk, hceiling]
    rw [hx]
    rfl
  have hidle : x.saw.feed = .idle := by rw [hx]; exact hfeed
  rw [henter, if_neg hfwd', hrate]
  have hset := setFeedRate_of_idle hidle (s.orderRate o (s.nextStroke o))
  simp only [State.onSaw, hset]
  rw [hx]
  rfl

end

end Sys2Proof.Machine
end

section
/-! SUPPORT. The accrual of energy (R107, R110, R111), the shed judgement (R33 to R36), and the stages of a publication. -/

namespace Sys2Proof.Machine

-- each theorem's proof is checked before the next begins, so that few threads are needed
set_option Elab.async false

section
variable {s : State} {i : Slot} {r r' : Allotment} {p : Publication}

/-! ## Accrual (R107, R110, R111) -/

/-- A record other than a LIVE relay record accrues nothing (R107). -/
theorem accrueSlot_of_other (h : ∀ r, s.record i = some r → r.state ≠ .live ∨ ∀ n, r.target ≠ .relay n) (period : Nat) :
    s.accrueSlot period i = s := by
  rcases hr : s.record i with _ | r
  · simp only [State.accrueSlot, hr]
  · have hno : ¬ (r.state = .live ∧ r.target.isRelay = true) := by
      rintro ⟨hlive, hrelay⟩
      rcases h r hr with hne | hne
      · exact hne hlive
      · cases ht : r.target
        case relay n => exact hne n ht
        all_goals simp [ht, Target.isRelay] at hrelay
    simp only [State.accrueSlot, hr, if_neg hno]

/-- A LIVE relay record takes its count (R107). -/
theorem accrueSlot_of_relay (hr : s.record i = some r) (hst : r.state = .live) {n : Fin Config.relays}
    (ht : r.target = .relay n) (period : Nat) : s.accrueSlot period i = s.takeCount i r (r.accrue period) := by
  have hrelay : r.state = .live ∧ r.target.isRelay = true := ⟨hst, by rw [ht]; rfl⟩
  simp only [State.accrueSlot, hr, if_pos hrelay]

/-- A count that leaves the quota unspent changes the record alone (R110). -/
theorem takeCount_unspent (hquota : r'.quota = r.quota) (h : r.quota = 0 ∨ r'.used < r.quota) :
    s.takeCount i r r' = s.setRecord i (some r') := by
  have hcross : crosses r r' = false := decide_eq_false fun ⟨hpos, _, hle⟩ => by omega
  have hspent : r'.spent = false := by
    simp only [Allotment.spent, hquota, Bool.and_eq_false_iff, decide_eq_false_iff_not]
    omega
  simp only [State.takeCount, hcross, State.quotaHold, record_noteChange, record_setRecord_self, hspent, Bool.false_eq_true,
    if_false]
  rfl

/-- A count that spends the quota of a LIVE relay record holds it (R110, R111, R22). -/
theorem takeCount_held (hk : r'.kind ≠ .saw) (hst : r'.state = .live) {n : Fin Config.relays} (ht : r'.target = .relay n)
    (hspent : 0 < r'.quota ∧ r'.quota ≤ r'.used) (hstrict : s.alt.strict = none) : s.takeCount i r r' = { s with
      alt := { s.alt with
        slots := s.alt.slots.set i (some { r' with state := .held .quota, reason := some .quota })
        changed := s.alt.changed.set i true, relays := s.alt.relays.set n false }
      gov := s.gov.ballastStep s.params .up r'.claim } := by
  obtain ⟨x, hx⟩ : ∃ x, x = (s.setRecord i (some r')).noteChange (crosses r r') i := ⟨_, rfl⟩
  have hrec : x.record i = some r' := by rw [hx, record_noteChange, record_setRecord_self]
  have hsp : r'.spent = true := by simp [Allotment.spent, hspent]
  have hhold : s.takeCount i r r' = x.beginRelease true i (.held .quota) (some .quota) := by
    rw [State.takeCount, ← hx]
    simp only [State.quotaHold, hrec, hsp, if_true, hst]
  have hnone : x.alt.strict = none := by
    rw [hx]
    cases crosses r r' <;> exact hstrict
  rw [hhold, beginRelease_relay hrec hk hst ht, checkStrict_of_none (by exact hnone), hx]
  cases crosses r r' <;> simp [State.noteChange, State.setRecord, State.onAlt, Alt.changedBy, Allotment.releasing,
    Allotment.released, Vector.set_set]

/-! ## The shed judgement (R33 to R36) -/

/-- ALT with its low count set. -/
def State.lowCounted (s : State) (n : Nat) : State := { s with alt := { s.alt with lowCount := n } }

/-- Out of REGULATING the low count is 0 (R33). -/
theorem shedJudgement_idle (h : p.state ≠ .regulating) : s.shedJudgement p = s.lowCounted 0 := if_neg h

/-- The low count alone (R33, R34). -/
theorem shedJudgement_counts {low : Nat} (hlow : low = if p.low then min 255 (s.alt.lowCount + 1) else 0)
    (hreg : p.state = .regulating) (h : low < s.param .shedDelay ∨ s.alt.settle ≠ 0 ∨ s.shedChoice = none) :
    s.shedJudgement p = s.lowCounted low := by
  subst hlow
  have hchoice : ∀ n, (s.lowCounted n).shedChoice = s.shedChoice := fun _ => rfl
  have hcount : s.onAlt (fun a => { a with lowCount := if p.low then min 255 (a.lowCount + 1) else 0 }) =
      s.lowCounted (if p.low then min 255 (s.alt.lowCount + 1) else 0) := rfl
  simp only [State.shedJudgement, if_pos hreg, hcount, hchoice]
  rcases h with h | h | h
  · exact if_neg fun hx => absurd hx.1 (Nat.not_le.mpr h)
  · exact if_neg fun hx => h hx.2
  · rw [h]
    exact ite_self _

/-- The record chosen is shed (R34, R35). -/
theorem shedJudgement_sheds {low : Nat} (hlow : low = if p.low then min 255 (s.alt.lowCount + 1) else 0)
    (hreg : p.state = .regulating) (hdelay : s.param .shedDelay ≤ low) (hsettle : s.alt.settle = 0)
    (hchoice : s.shedChoice = some i) : s.shedJudgement p = (s.lowCounted low).shedOne i := by
  subst hlow
  have hchoice' : ∀ n, (s.lowCounted n).shedChoice = some i := fun _ => hchoice
  have hcount : s.onAlt (fun a => { a with lowCount := if p.low then min 255 (a.lowCount + 1) else 0 }) =
      s.lowCounted (if p.low then min 255 (s.alt.lowCount + 1) else 0) := rfl
  simp only [State.shedJudgement, if_pos hreg, hcount, hchoice']
  exact if_pos ⟨hdelay, hsettle⟩

/-- The timers and the low count after a shed (R36). -/
def State.settled (s : State) : State :=
  { s with alt := { s.alt with settle := s.param .shedSettle, lowCount := 0, holdOff := s.param .restoreDelay } }

/-- A record other than an untrimmed saw record is released toward SHED (R36). -/
theorem shedOne_release (hr : s.record i = some r) (h : r.kind ≠ .saw ∨ r.trimmed = true) :
    s.shedOne i = (s.release true i .shed (some .shed)).settled := by
  have hno : ¬ (r.kind = .saw ∧ r.trimmed = false) := by
    rintro ⟨hk, ht⟩
    rcases h with h | h
    · exact h hk
    · rw [h] at ht
      cases ht
  simp only [State.shedOne, hr, if_neg hno]
  rfl

/-- The untrimmed saw record is trimmed (R36). -/
theorem shedOne_trim (hr : s.record i = some r) (hk : r.kind = .saw) (ht : r.trimmed = false) :
    s.shedOne i = s.trimBack.noticeTrim.settled := by
  simp only [State.shedOne, hr, hk, ht, and_self, if_true]
  rfl

/-! ## The saw record shed (R24, R36, R167, R168) -/

/-- A halt leaves ALT and GOV, and stops SAW (R168). -/
theorem enterHalted_outcome (hstrict : s.alt.strict = none) : ∃ w q, s.enterHalted = { s with saw := w, rqp := q } ∧
    w.st = .halted ∧ w.feed = .idle ∧ w.cutWanted = false := by
  rw [State.enterHalted, clearCutWanted_of_none hstrict, enterSaw_eq]
  refine ⟨_, _, rfl, rfl, ?_, ?_⟩
  all_goals
    simp only [onSaw_saw, Saw.halt]
    split <;> rfl

/-- The notice of a release toward SHED leaves ALT and GOV; SAW halts out of its working states (R167). -/
theorem noticeRelease_shed (hstrict : s.alt.strict = none) : ∃ w q, s.noticeRelease .shed = { s with saw := w, rqp := q } ∧
    ((s.saw.st = .spinup ∨ s.saw.st = .setting ∨ s.saw.st = .feedWait ∨ s.saw.st = .feeding) →
      w.st = .halted ∧ w.feed = .idle ∧ w.cutWanted = false) := by
  obtain ⟨w, q, hhalt, hw⟩ := enterHalted_outcome hstrict
  unfold State.noticeRelease
  cases hst : s.saw.st
  case spinup | setting | feedWait | feeding => exact ⟨w, q, hhalt, fun _ => hw⟩
  case returning =>
    dsimp only
    split
    · exact ⟨s.saw, s.rqp, rfl, by simp⟩
    · exact ⟨w, q, hhalt, by simp⟩
  all_goals exact ⟨s.saw, s.rqp, rfl, by simp⟩

/-- The LIVE saw record released toward SHED with CLUTCH_IN active (R24, R167). -/
theorem release_saw_shed {b : Bool} {reason : Option Reason} (hi : s.sawSlot = some i) (hr : s.record i = some r)
    (ht : r.target = .clutch) (hst : r.state = .live) (hin : s.active .clutchIn = true) (hstrict : s.alt.strict = none) :
    s.release b i .shed reason = (s.declutching b i r .shed reason).noticeRelease .shed := by
  have hk : r.kind = .saw := kind_of_sawSlot hi hr
  have hslots : (s.declutching b i r .shed reason).alt.slots = s.alt.slots.set i (some (r.releasing .shed reason)) := rfl
  have hrec : (s.declutching b i r .shed reason).record i = some (r.releasing .shed reason) := by
    rw [record_of_slots hslots, if_pos rfl]
  obtain ⟨w, q, hnotice, -⟩ := noticeRelease_shed (s := s.declutching b i r .shed reason) hstrict
  rw [State.release, openRelease_clutch hr hk ht (.inr hst), tellSaw_of_saw hrec hk, hnotice]
  generalize hy : ({ s.declutching b i r .shed reason with saw := w, rqp := q } : State) = y
  have hyslots : y.alt.slots = s.alt.slots.set i (some (r.releasing .shed reason)) := by rw [← hy, ← hslots]
  have hyrec : y.record i = some (r.releasing .shed reason) := by rw [record_of_slots hyslots, if_pos rfl]
  have hyin : y.active .clutchIn = true := by rw [← hy]; exact hin
  have htarget : (r.releasing .shed reason).target = .clutch := ht
  have hsettle : y.settleRelease b i = y := by simp only [State.settleRelease, hyrec, htarget, hyin, if_true]
  have hreleasing : y.sawReleasing = true := by
    rw [sawReleasing_of_slot (sawSlot_of_set hi (r := r.releasing .shed reason) hk hyslots) hyrec]
    rfl
  rw [hsettle, tellSaw_of_saw hyrec hk, if_pos hreleasing]
  exact checkStrict_of_none (by rw [← hy]; exact hstrict)

end

end Sys2Proof.Machine
end

section
/-! SUPPORT. ALT's work on a publication, clause by clause (Sections 1.6 to 1.9, 2.1 to 2.5, 6.2, 6.4, 9.5). -/

namespace Sys2Proof.Machine

-- each theorem's proof is checked before the next begins, so that few threads are needed
set_option Elab.async false

section
variable {s : State} {i : Slot} {r : Allotment} {p : Publication}

/-- A record that waits for its admission is not LIVE. -/
theorem ne_live_of_waiting (h : r.state = .pending ∨ r.state = .shed) : r.state ≠ .live := by
  rcases h with h | h <;> simp [h]

/-- First fit with the first that fits a record on a relay or at a unit (R43, R44). -/
theorem admissionPass_admits {pre post : List Slot} (hstrict : s.alt.strict = none) (hstarved : s.starved = none)
    (hcand : s.candidates = pre ++ i :: post) (hr : s.record i = some r) (hk : r.kind ≠ .saw) (ht : r.target ≠ .clutch)
    (hfit : r.claim ≤ s.alt.headroom) (hpre : ∀ j ∈ pre, ∀ r', s.record j = some r' → s.alt.headroom < r'.need) :
    i ∉ pre ∧ ∃ q, (∀ j, s.admissionPass.record j = if j = i then some q else (s.starving pre).record j) ∧
      s.admissionPass.alt.headroom = s.alt.headroom - r.claim ∧ s.admissionPass.alt.changed = s.alt.changed.set i true ∧
      ∀ u o, r.target = .field u o → q = r.granted ∧ s.admissionPass.alt.gOut = s.alt.gOut + r.claim ∧
        s.admissionPass.gov = s.gov ∧ s.admissionPass.flc = s.flc.giveMark s.now .closing u := by
  have hmem : i ∈ s.candidates := by rw [hcand]; exact List.mem_append_right _ List.mem_cons_self
  have hwait := pending_or_shed_of_candidate hr hk (mem_candidates_iff.mp hmem)
  have hlive := ne_live_of_waiting hwait
  have hneed : r.need = r.claim := (Allotment.need_of_ne_live hlive).trans (Allotment.share_of_ne_saw hk)
  obtain ⟨hi, hpass⟩ := admissionPass_serves hstrict hstarved hcand hr (hneed ▸ hfit) hpre
  obtain ⟨x, hx⟩ : ∃ x, x = s.starving pre := ⟨_, rfl⟩
  have hhead : x.alt.headroom = s.alt.headroom := by rw [hx, starving_headroom]
  have hsame : x.alt.changed = s.alt.changed ∧ x.alt.gOut = s.alt.gOut ∧ x.gov = s.gov ∧ x.flc = s.flc ∧ x.now = s.now := by
    simp only [hx, State.starving, and_self]
  obtain ⟨hchanged, hgOut, hgov, hflc, hnow⟩ := hsame
  refine ⟨hi, ?_⟩
  rw [hpass, ← hx, serve_of_ne_live x i hlive]
  cases htarget : r.target
  case clutch => exact absurd htarget ht
  case relay n =>
    rw [grant_relay x i htarget]
    refine ⟨_, fun j => record_of_slots rfl j, ?_, ?_, nofun⟩
    · rw [← hneed, ← hhead]
    · rw [← hchanged]
  case field u o =>
    rw [grant_field htarget]
    refine ⟨r.granted, fun j => record_of_slots rfl j, ?_, ?_, fun u' o' h => ⟨rfl, ?_, hgov, ?_⟩⟩
    · rw [← hneed, ← hhead]
      rfl
    · rw [← hchanged]
      rfl
    · rw [← Allotment.share_of_ne_saw hk, ← hgOut]
      rfl
    · obtain ⟨rfl, -⟩ := Target.field.inj h
      rw [← hflc, ← hnow]

/-- The record shed from a relay (R22, R36). -/
theorem shedOne_relay (hr : s.record i = some r) (hk : r.kind = .ordinary) (hst : r.state = .live) {n : Fin Config.relays}
    (ht : r.target = .relay n) (hstrict : s.alt.strict = none) : s.shedOne i = State.settled { s with
      alt := { s.alt with
        slots := s.alt.slots.set i (some { r with state := if r.wanted then .shed else .idle, reason := some .shed })
        changed := s.alt.changed.set i true, relays := s.alt.relays.set n false }
      gov := s.gov.ballastStep s.params .up r.claim } := by
  have hne : r.kind ≠ .saw := by rw [hk]; nofun
  rw [shedOne_release hr (.inl hne), release_of_ne_saw hr hne, beginRelease_relay hr hne hst ht,
    checkStrict_of_none (by exact hstrict)]
  cases hw : r.wanted <;> simp [Allotment.released, Allotment.releasing, hw, Alt.changedBy]

/-- The record shed from a unit (R25, R36). -/
theorem shedOne_field (hr : s.record i = some r) (hk : r.kind = .ordinary) (hst : r.state = .live) {u : UnitIx} {o : Outlet}
    (ht : r.target = .field u o) (hstrict : s.alt.strict = none) : s.shedOne i = State.settled { s with
      alt := { s.alt with
        slots := s.alt.slots.set i (some { r with state := .releasing .shed, reason := some .shed })
        changed := s.alt.changed.set i true }
      flc := s.flc.giveMark s.now .opening u } := by
  have hne : r.kind ≠ .saw := by rw [hk]; nofun
  have hg : ¬ r.state = .granted := by rw [hst]; nofun
  rw [shedOne_release hr (.inl hne), release_of_ne_saw hr hne, beginRelease_field hr hne (.inr hst) ht,
    checkStrict_of_none (by exact hstrict), if_neg hg, if_neg hg]
  rfl

/-- The state the trim of the saw record leaves at ALT and GOV (R26). -/
def State.trimmedBack (s : State) (i : Slot) (r : Allotment) : State :=
  { s with
    alt := { s.alt with
      slots := s.alt.slots.set i (some { r with trimmed := true, reason := some .trimmed })
      changed := s.alt.changed.set i true }
    gov := s.gov.ballastStep s.params .up (r.claim - r.idle) }

/-- The saw record trimmed out of FEEDING (R36). -/
theorem shedOne_trim_quiet (hi : s.sawSlot = some i) (hr : s.record i = some r) (hst : r.state = .live)
    (ht : r.trimmed = false) (hsaw : s.saw.st ≠ .feeding) : s.shedOne i = (s.trimmedBack i r).settled := by
  have hquiet : (s.trimmedBack i r).noticeTrim = s.trimmedBack i r := if_neg hsaw
  rw [shedOne_trim hr (kind_of_sawSlot hi hr) ht, trimBack_of hi hr hst ht]
  exact congrArg State.settled hquiet

/-- The saw record trimmed in FEEDING: the feed stops in place and cut power is wanted (R36, R160, R167). -/
theorem shedOne_trim_feeding (hi : s.sawSlot = some i) (hr : s.record i = some r) (hst : r.state = .live)
    (ht : r.trimmed = false) (hsaw : s.saw.st = .feeding) (hstrict : s.alt.strict = none) :
    s.shedOne i = State.settled { s.trimmedBack i r with
      saw := { s.saw with st := .feedWait, setting := none, cutWanted := true, feed := .idle, feedRate := 0 }
      rqp := { s.rqp with latched := s.rqp.latched ||| Cause.sawState.bit } } := by
  have hk := kind_of_sawSlot hi hr
  obtain ⟨x, hx⟩ : ∃ x, x = (s.trimmedBack i r).onSaw fun w => { w with feed := .idle, feedRate := 0 } := ⟨_, rfl⟩
  have hslots : x.alt.slots = s.alt.slots.set i (some { r with trimmed := true, reason := some .trimmed }) := by rw [hx]; rfl
  have hcut : x.sawCutting = false := sawCutting_of_not
    (sawSlot_of_set hi (r := { r with trimmed := true, reason := some .trimmed }) hk hslots)
    (by rw [record_of_slots hslots, if_pos rfl]) (.inr rfl)
  have hnotice : (s.trimmedBack i r).noticeTrim = x.enterFeedWait := by
    rw [hx]
    exact if_pos hsaw
  have hne : x.saw.st ≠ .feedWait := by
    rw [hx]
    exact fun h => absurd (hsaw.symm.trans h) nofun
  rw [shedOne_trim hr hk ht, trimBack_of hi hr hst ht]
  refine (congrArg State.settled (hnotice.trans (enterFeedWait_of_idle hcut (by rw [hx]; exact hstrict)))).trans ?_
  rw [enterSaw_of_ne hne, hx]
  rfl

/-- The trimmed saw record shed with CLUTCH_IN active (R24, R36, R167). -/
theorem shedOne_saw (hi : s.sawSlot = some i) (hr : s.record i = some r) (htr : r.trimmed = true) (ht : r.target = .clutch)
    (hst : r.state = .live) (hin : s.active .clutchIn = true) (hstrict : s.alt.strict = none) :
    ∃ w q, s.shedOne i = State.settled { s with
      alt := { s.alt with
        slots := s.alt.slots.set i (some { r with state := .releasing .shed, reason := some .shed })
        changed := s.alt.changed.set i true, clutch := false, wait := some (.release (s.param .clutchTimeout * 1000)) }
      saw := w, rqp := q } ∧
      ((s.saw.st = .spinup ∨ s.saw.st = .setting ∨ s.saw.st = .feedWait ∨ s.saw.st = .feeding) →
        w.st = .halted ∧ w.feed = .idle ∧ w.cutWanted = false) := by
  have hg : ¬ r.state = .granted := by rw [hst]; nofun
  obtain ⟨w, q, hnotice, hw⟩ := noticeRelease_shed (s := s.declutching true i r .shed (some .shed)) hstrict
  refine ⟨w, q, ?_, hw⟩
  rw [shedOne_release hr (.inr htr), release_saw_shed hi hr ht hst hin hstrict, hnotice]
  simp only [State.declutching, if_neg hg]
  rfl

/-- A shed judgement that sheds leaves the low count 0, whatever was counted (R36). -/
theorem settled_lowCounted (s : State) (n : Nat) : (s.lowCounted n).settled = s.settled := rfl

end

/-- Settles O24: the admission pass, the service, the stages, the accrual and the shed judgement. -/
theorem publicationShedsAndAdmitsInOrder : Obligations.PublicationShedsAndAdmitsInOrder := by
  refine ⟨fun s pre post i r hstrict hstarved hcand hr hk ht hfit hpre => ?_, fun s i r hr hexam hneed => ?_,
    fun s hstrict hstarved hnone => ?_, fun s i r hr hfit => ⟨fun hstrict => ?_, fun hstrict hcand => ?_⟩,
    fun s i r reason strict hr hst hreason hs => ⟨fun u o hk ht => ?_, fun hk ht hi => ⟨fun hout => ?_, fun t hin hx => ?_⟩⟩,
    fun s i r o rest k mm rate hr hi hk hst htr hstrict hwait hcut hfeed hfwd hcuts hstroke hmm hrate => ?_,
    fun s t u v p ht hu hv => ?_, fun s i period => ⟨fun h => accrueSlot_of_other h period, fun r r' n hr hst ht hr' => ?_⟩,
    fun s t p low hlow => ⟨fun hreg => shedJudgement_idle hreg, fun hreg h => shedJudgement_counts hlow hreg h,
      fun i r hreg hdelay hsettle hchoice hr hstrict ht => ?_⟩⟩
  · obtain ⟨hi, q, hrec, hhead, hchanged, hfield⟩ := admissionPass_admits hstrict hstarved hcand hr hk ht hfit hpre
    refine ⟨fun j hj r' hr' => ?_, fun j hj hne => ?_, hhead, ?_, fun u o htarget => ?_⟩
    · have hne : j ≠ i := fun h => hi (h ▸ hj)
      rw [hrec, if_neg hne, record_starving, if_pos hj, hr']
      rfl
    · rw [hrec, if_neg hne, record_starving, if_neg hj]
    · rw [hchanged]
      exact vector_get_set_self ..
    · obtain ⟨hq, hrest⟩ := hfield u o htarget
      refine ⟨?_, hrest⟩
      rw [hrec, if_pos rfl, hq]
      rfl
  · rw [admissionPass_strict hr hexam]
    have hr' : (s.onAlt fun a => { a with strict := some i }).record i = some r := hr
    simp only [State.strictPass, hr']
    exact if_neg (Nat.not_le.mpr hneed)
  · have hpass := admissionPass_starves hstrict hstarved hnone
    rw [hpass]
    refine ⟨rfl, fun j => ?_⟩
    rw [record_starving]
    simp only [mem_candidates_iff]
    rfl
  · have hself : (s.onAlt fun a => { a with strict := some i }) = s :=
      congrArg (fun o => { s with alt := { s.alt with strict := o } }) hstrict.symm
    rw [admissionPass_strict hr (.inl hstrict), hself]
    simp only [State.strictPass, hr, if_pos hfit]
  · rw [admissionPass_strict hr (.inr ⟨hstrict, hcand⟩)]
    have hr' : (s.onAlt fun a => { a with strict := some i }).record i = some r := hr
    simp only [State.strictPass, hr']
    exact if_pos hfit
  · subst hreason hs
    have hlive := ne_live_of_waiting hst
    rw [serve_of_ne_live s i hlive, grant_field ht]
    simp only [State.granting, Allotment.need_of_ne_live hlive, Allotment.share_of_ne_saw hk]
    rfl
  · subst hreason hs
    have hlive := ne_live_of_waiting hst
    rw [serve_of_ne_live s i hlive, grant_clutch_out ht hout]
    simp only [State.granting, State.onAlt, Allotment.need_of_ne_live hlive, share_of_saw hk]
    rfl
  · have hlive := ne_live_of_waiting hst
    have hclutched : s.clutched i r = t := by
      rw [hx, hs]
      simp only [State.clutched, Allotment.need_of_ne_live hlive, share_of_saw hk]
    have hsaw : t.saw = s.saw ∧ t.rqp = s.rqp ∧ t.params = s.params := by rw [hx]; exact ⟨rfl, rfl, rfl⟩
    obtain ⟨hsaw, hrqp, hparams⟩ := hsaw
    rw [serve_of_ne_live s i hlive, grant_clutch_in hi hk ht hin, hclutched]
    refine ⟨fun hc hh => ?_, fun h => ?_⟩
    · exact if_neg (by rw [hsaw]; exact fun h => h.elim hc hh)
    · rw [noticeLive_of (by rw [hsaw]; exact h), hsaw, hrqp]
      simp only [State.param, hparams]
  · have hneed : r.need = r.claim - r.idle := if_pos hst
    have hnone : (s.untrimmed i r).alt.strict = none := by
      rcases hstrict with h | h <;> simp [State.untrimmed, h]
    have hk' : (s.untrimmed i r).nextStroke o = k := by
      rcases hstroke with h | ⟨h, rfl⟩
      · exact congrArg (fun x : Option StrokeRec => x.getD _) h
      · exact congrArg (fun x : Option StrokeRec => x.getD _) h
    have hrate' : (s.untrimmed i r).orderRate o k = rate := by rw [hrate, hmm]; rfl
    have hnotice : (s.untrimmed i r).noticeUntrim = (s.untrimmed i r).enterFeeding := if_pos hwait
    rw [serve_of_live hst, hnotice, enterFeeding_of_wait (s := s.untrimmed i r) (rest := rest)
      (fun h => absurd (hwait.symm.trans h) nofun) hfeed hfwd hcuts hnone, hk', hrate']
    have hstrict' : (if s.alt.strict = some i then none else s.alt.strict) = none := hnone
    simp only [State.untrimmed, State.feedingOn, hneed, hstrict', Allotment.cutShare]
    rfl
  · subst hv hu ht
    rw [State.altPublication]
    refine if_congr ?_ rfl rfl
    exact decide_eq_true_iff
  · have haccrue : r.accrue period = r' := by
      rw [hr']
      by_cases hsum : 3600000000 ≤ r.residue + r.claim * period
      · rw [if_pos hsum]
        exact if_pos hsum
      · rw [if_neg hsum]
        exact if_neg hsum
    have hkeep : r'.quota = r.quota ∧ r'.kind = r.kind ∧ r'.state = r.state ∧ r'.target = r.target ∧ r'.claim = r.claim := by
      rw [hr']
      split <;> exact ⟨rfl, rfl, rfl, rfl, rfl⟩
    obtain ⟨hquota, hkind, hstate, htarget, hclaim⟩ := hkeep
    rw [accrueSlot_of_relay hr hst ht, haccrue]
    refine ⟨fun h => ?_, fun hpos hle hk hstrict => ?_⟩
    · rw [takeCount_unspent hquota h]
      rfl
    · rw [takeCount_held (hkind ▸ hk) (hstate.trans hst) (htarget.trans ht) ⟨hquota ▸ hpos, hquota ▸ hle⟩ hstrict, hclaim]
  · obtain ⟨q, ⟨hq, hshed, -⟩⟩ := shedChoice_eq_some_iff.mp hchoice
    obtain rfl := Option.some.inj (hr.symm.trans hq)
    have hst : r.state = .live := beq_iff_eq.mp (Bool.and_eq_true_iff.mp hshed).1
    subst ht
    rw [shedJudgement_sheds hlow hreg hdelay hsettle hchoice]
    refine ⟨fun n hk ht => ?_, fun u o hk ht => ?_, fun hk hi htr u hu => ⟨fun hsaw => ?_, fun hsaw => ?_⟩,
      fun hk hi htr ht hin => ?_⟩
    · exact shedOne_relay (s := s.lowCounted low) hr hk hst ht hstrict
    · exact shedOne_field (s := s.lowCounted low) hr hk hst ht hstrict
    · subst hu
      exact shedOne_trim_quiet (s := s.lowCounted low) hi hr hst htr hsaw
    · subst hu
      exact shedOne_trim_feeding (s := s.lowCounted low) hi hr hst htr hsaw hstrict
    · obtain ⟨w, q, hx, hw⟩ := shedOne_saw (s := s.lowCounted low) hi hr htr ht hst hin hstrict
      rw [hx]
      exact ⟨rfl, rfl, hw⟩

end Sys2Proof.Machine
end

section
/-! SUPPORT. What ALT makes of a unit's reports: outlet states, demand bits and meter counts (Sections 1.4, 6.3, 6.4, 8.6). -/

namespace Sys2Proof.Machine

-- each theorem's proof is checked before the next begins, so that few threads are needed
set_option Elab.async false

/-- A record stored in its slot, the change entered in the change set (R28). -/
def State.putAt (s : State) (i : Slot) (r : Allotment) : State :=
  { s with alt := { s.alt with slots := s.alt.slots.set i (some r), changed := s.alt.changed.set i true } }

theorem setRecord_noteChange (s : State) (i : Slot) (r : Allotment) :
    (s.setRecord i (some r)).noteChange true i = s.putAt i r := rfl

/-- Where a completed release leads a record that is not SAW, but for a retired one (R13, R19). -/
def Allotment.landed (r : Allotment) : Dest → Allotment
  | .held h => { r with state := .held h }
  | .shed => { r with state := if r.wanted then .shed else .idle }
  | .idle | .vacant => if ¬ r.wanted then { r with state := .idle }
    else if 0 < r.quota ∧ r.quota ≤ r.used then { r with state := .held .quota, reason := some .quota }
    else { r with state := .pending }

theorem released_eq_landed {r : Allotment} {d : Dest} (hd : d ≠ .vacant) : r.released d = some (r.landed d) := by
  cases d with
  | vacant => exact absurd rfl hd
  | held h => rfl
  | shed => exact released_shed r
  | idle => cases hw : r.wanted <;> simp [Allotment.released, Allotment.landed, hw, toPending_eq]

section
variable {s : State} {u : UnitIx} {o : Outlet} {i : Slot} {r : Allotment}

/-! ## Outlet states (Tables 8-4 and 8-5) -/

section
variable (hslot : s.slotOf (.field u o) = some i) (hr : s.record i = some r)
include hslot hr

theorem reconcileStatus_granted (hst : r.state = .granted) :
    s.reconcileStatus u o true = s.confirmField i r ∧ s.reconcileStatus u o false = s := by
  simp only [State.reconcileStatus, hslot, hr, hst, and_self]

theorem reconcileApplied_granted (hst : r.state = .granted) : (∀ sent, s.reconcileApplied u o sent true = s.confirmField i r) ∧
    s.reconcileApplied u o false false = s ∧ s.reconcileApplied u o true false = s.refuseField i r := by
  simp only [State.reconcileApplied, hslot, hr, hst, if_true, Bool.false_eq_true, if_false, implies_true, and_self]

theorem reconcileStatus_live (hst : r.state = .live) :
    s.reconcileStatus u o true = s ∧ s.reconcileStatus u o false = s.unitOpened i r := by
  simp only [State.reconcileStatus, hslot, hr, hst, and_self]

theorem reconcileApplied_live (hst : r.state = .live) (sent : Bool) :
    s.reconcileApplied u o sent true = s ∧ s.reconcileApplied u o sent false = s.unitOpened i r := by
  simp only [State.reconcileApplied, hslot, hr, hst, and_self]

theorem reconcileStatus_releasing {d : Dest} (hst : r.state = .releasing d) :
    s.reconcileStatus u o true = s ∧ s.reconcileStatus u o false = s.completeRelease true true i := by
  simp only [State.reconcileStatus, hslot, hr, hst, and_self]

theorem reconcileApplied_releasing {d : Dest} (hst : r.state = .releasing d) (sent : Bool) :
    s.reconcileApplied u o sent true = s.giveMark .opening u ∧
    s.reconcileApplied u o sent false = s.completeRelease true true i := by
  simp only [State.reconcileApplied, hslot, hr, hst, and_self]

/-- A record that waits or is held is left as it is by every report. -/
theorem reconcile_resting (hst : r.state = .idle ∨ r.state = .pending ∨ r.state = .shed ∨ ∃ h, r.state = .held h)
    (sent closed : Bool) : s.reconcileStatus u o closed = s ∧ s.reconcileApplied u o sent closed = s := by
  simp only [State.reconcileStatus, State.reconcileApplied, hslot, hr]
  rcases hst with h | h | h | ⟨d, h⟩ <;> rw [h] <;> exact ⟨rfl, rfl⟩

end

/-- A field record confirmed closed (R25, R27). -/
theorem confirmField_eq (hk : r.kind ≠ .saw) : s.confirmField i r = { s.putAt i { r with state := .live, reason := some .confirmed } with
    alt := { (s.putAt i { r with state := .live, reason := some .confirmed }).alt with gOut := s.alt.gOut - r.claim }
    gov := s.gov.ballastStep s.params .down r.claim } := by
  rw [State.confirmField, Allotment.share_of_ne_saw hk]
  rfl

/-- A close that the unit refused (Table 8-5). -/
theorem refuseField_eq (hk : r.kind ≠ .saw) : s.refuseField i r = { s.putAt i { r with state := .held .refused, reason := some .refused } with
    alt := { (s.putAt i { r with state := .held .refused, reason := some .refused }).alt with
      gOut := s.alt.gOut - r.claim } } := by
  rw [State.refuseField, Allotment.share_of_ne_saw hk]
  rfl

/-- A LIVE record found open (Table 8-4). -/
theorem unitOpened_eq : s.unitOpened i r = { s.putAt i
    (if ¬ r.wanted then { r with state := .idle, reason := some .unitOpened }
    else if 0 < r.quota ∧ r.quota ≤ r.used then { r with state := .held .quota, reason := some .quota }
    else { r with state := .pending, reason := some .unitOpened }) with
    gov := s.gov.ballastStep s.params .up r.claim } := by
  unfold State.unitOpened
  simp only [toPending_eq]
  cases r.wanted
  · rfl
  · by_cases hq : 0 < r.quota ∧ r.quota ≤ r.used <;>
      simp only [hq, if_true, if_false, not_true_eq_false, and_self] <;> rfl

/-- A field record's release complete (R19, R25). -/
theorem completeRelease_field {d : Dest} (hr : s.record i = some r) (hst : r.state = .releasing d) (hk : r.kind ≠ .saw)
    (ht : r.target = .field u o) : s.completeRelease true true i = { s with
      alt := { s.alt with slots := s.alt.slots.set i (r.released d), changed := s.alt.changed.set i true }
      gov := s.gov.ballastStep s.params .up r.claim } := by
  have hstep : r.releaseStep = r.claim := if_neg hk
  have hself : { r with trimmed := r.trimmed || decide (r.kind = Kind.saw) } = r := by
    rw [decide_eq_false hk, Bool.or_false]
  rw [completeRelease_of hr hst, hstep, hself, ht]
  rfl

/-! ## Demand bits (R15) -/

/-- A demand bit moves an unlocked record (R15). -/
theorem takeDemand_unlocked (hslot : s.slotOf (.field u o) = some i) (hr : s.record i = some r) (h : r.locked = false)
    (on : Bool) : s.takeDemand u o on = s.setWanted true i on := by
  simp only [State.takeDemand, hslot, hr, h, Bool.false_eq_true, if_false]

/-- A locked record ignores its demand bit (R15). -/
theorem takeDemand_locked (hslot : s.slotOf (.field u o) = some i) (hr : s.record i = some r) (h : r.locked = true)
    (on : Bool) : s.takeDemand u o on = s := by
  simp only [State.takeDemand, hslot, hr, h, if_true]

/-- A switched field record loses its demand: released toward IDLE, its unit marked OPEN (R13, R25). -/
theorem setWanted_off_field (hr : s.record i = some r) (hw : r.wanted = true) (hk : r.kind ≠ .saw)
    (hst : r.state = .granted ∨ r.state = .live) (ht : r.target = .field u o) (hstrict : s.alt.strict = none) :
    s.setWanted true i false = { s.putAt i { r with wanted := false, state := .releasing .idle, reason := some .demandOff } with
      alt := { (s.putAt i { r with wanted := false, state := .releasing .idle, reason := some .demandOff }).alt with
        gOut := if r.state = RecState.granted then s.alt.gOut - r.claim else s.alt.gOut }
      gov := if r.state = RecState.granted then s.gov.ballastStep s.params .down r.claim else s.gov
      flc := s.flc.giveMark s.now .opening u } := by
  have hrec := record_setRecord_self s i (some { r with wanted := false })
  rw [setWanted_off_switched hr hw hst]
  refine ((beginRelease_field hrec hk hst ht).trans (checkStrict_of_none (by exact hstrict))).trans ?_
  simp only [slots_set_twice]
  rfl

/-! ## Meter counts (R108, R110, R111) -/

section
variable {e : UnitEntry} {last count : Half} (he : s.flc.units.get u = some e)
include he

/-- A meter count stored in the entry (R108). -/
theorem setMeter_of : s.flc.setMeter u o count =
    { s.flc with units := s.flc.units.set u (some { e with meters := e.meters.set o (some count) }) } := by
  simp only [Flc.setMeter, he, Option.map_some]
  rfl

/-- A meter count charges its record (R108). -/
theorem takeMeter_of (hslot : s.slotOf (.field u o) = some i) (hr : s.record i = some r) (hlast : e.meters.get o = some last)
    (rebooted : Bool) : s.takeMeter u rebooted o count =
      (s.takeCount i r { r with used := min 65535 (r.used + if rebooted then count.toNat else (count - last).toNat) }).onFlc
        fun f => f.setMeter u o count := by
  have hmeter : s.flc.meter u o = some last := by simp only [Flc.meter, he, Option.bind_some, hlast]
  simp only [State.takeMeter, hmeter, meterDelta, hslot, hr] <;> rfl

end

/-- A count that spends the quota of a PENDING record holds it (R111). -/
theorem takeCount_pending {r' : Allotment} (hst : r'.state = .pending) (hspent : 0 < r'.quota ∧ r'.quota ≤ r'.used)
    (hstrict : s.alt.strict = none) :
    s.takeCount i r r' = s.putAt i { r' with state := .held .quota, reason := some .quota } := by
  obtain ⟨x, hx⟩ : ∃ x, x = (s.setRecord i (some r')).noteChange (crosses r r') i := ⟨_, rfl⟩
  have hrec : x.record i = some r' := by rw [hx, record_noteChange, record_setRecord_self]
  have hsp : r'.spent = true := by simp [Allotment.spent, hspent]
  have hhold : s.takeCount i r r' = (x.putAt i { r' with state := .held .quota, reason := some .quota }).checkStrict := by
    rw [State.takeCount, ← hx]
    simp only [State.quotaHold, hrec, hsp, if_true, hst]
    rfl
  have hnone : x.alt.strict = none := by
    rw [hx]
    cases crosses r r' <;> exact hstrict
  rw [hhold, checkStrict_of_none (by exact hnone), hx]
  cases crosses r r' <;> simp [State.noteChange, State.setRecord, State.onAlt, State.putAt, Vector.set_set]

/-- A count that spends the quota of a switched field record releases it toward HELD (R111). -/
theorem takeCount_field {r' : Allotment} (hk : r'.kind ≠ .saw) (hst : r'.state = .granted ∨ r'.state = .live)
    (ht : r'.target = .field u o) (hspent : 0 < r'.quota ∧ r'.quota ≤ r'.used) (hstrict : s.alt.strict = none) :
    s.takeCount i r r' = { s.putAt i { r' with state := .releasing (.held .quota), reason := some .quota } with
      alt := { (s.putAt i { r' with state := .releasing (.held .quota), reason := some .quota }).alt with
        gOut := if r'.state = RecState.granted then s.alt.gOut - r'.claim else s.alt.gOut }
      gov := if r'.state = RecState.granted then s.gov.ballastStep s.params .down r'.claim else s.gov
      flc := s.flc.giveMark s.now .opening u } := by
  obtain ⟨x, hx⟩ : ∃ x, x = (s.setRecord i (some r')).noteChange (crosses r r') i := ⟨_, rfl⟩
  have hrec : x.record i = some r' := by rw [hx, record_noteChange, record_setRecord_self]
  have hsp : r'.spent = true := by simp [Allotment.spent, hspent]
  have hhold : s.takeCount i r r' = x.beginRelease true i (.held .quota) (some .quota) := by
    rw [State.takeCount, ← hx]
    simp only [State.quotaHold, hrec, hsp, if_true]
    rcases hst with h | h <;> simp only [h]
  have hnone : x.alt.strict = none := by
    rw [hx]
    cases crosses r r' <;> exact hstrict
  rw [hhold, beginRelease_field hrec hk hst ht, checkStrict_of_none (by exact hnone), hx]
  cases crosses r r' <;> simp [State.noteChange, State.setRecord, State.onAlt, State.putAt, Alt.changedBy,
    Allotment.releasing, Vector.set_set]

/-- A count that spends the quota of a record that waits for nothing, or is on its way, moves only its count (R110, R111). -/
theorem takeCount_resting {r' : Allotment} (hquota : r'.quota = r.quota) (hpos : 0 < r.quota) (hle : r.quota ≤ r'.used)
    (hst : r'.state = .idle ∨ r'.state = .shed ∨ (∃ d, r'.state = .releasing d) ∨ ∃ h, r'.state = .held h)
    (hstrict : s.alt.strict = none) :
    s.takeCount i r r' = (s.setRecord i (some r')).noteChange (decide (r.used < r.quota)) i := by
  have hcross : crosses r r' = decide (r.used < r.quota) := by
    simp only [crosses, hquota]
    exact decide_eq_decide.mpr ⟨fun h => h.2.1, fun h => ⟨hpos, h, hle⟩⟩
  obtain ⟨x, hx⟩ : ∃ x, x = (s.setRecord i (some r')).noteChange (crosses r r') i := ⟨_, rfl⟩
  have hrec : x.record i = some r' := by rw [hx, record_noteChange, record_setRecord_self]
  have hnone : x.alt.strict = none := by
    rw [hx]
    cases crosses r r' <;> exact hstrict
  have hhold : x.quotaHold i = x := by
    simp only [State.quotaHold, hrec]
    split
    · rcases hst with h | h | ⟨d, h⟩ | ⟨d, h⟩ <;> simp only [h]
      exact checkStrict_of_none hnone
    · rfl
  rw [State.takeCount, ← hx, hhold, hx, hcross]

end

end Sys2Proof.Machine
end

section
/-! SUPPORT. The reports of a unit, by the state of the record (Tables 8-4 and 8-5, R109). -/

namespace Sys2Proof.Machine

-- each theorem's proof is checked before the next begins, so that few threads are needed
set_option Elab.async false

section
variable {s : State} {u : UnitIx} {o : Outlet} {i : Slot} {r : Allotment}

/-- A retired field record's release complete: its slot is VACANT (R19). -/
theorem reconcileStatus_retired (hslot : s.slotOf (.field u o) = some i) (hr : s.record i = some r) (hk : r.kind ≠ .saw)
    (ht : r.target = .field u o) (hst : r.state = .releasing .vacant) : s.reconcileStatus u o false = { s with
      alt := { s.alt with slots := s.alt.slots.set i none, changed := s.alt.changed.set i true }
      gov := s.gov.ballastStep s.params .up r.claim } := by
  rw [(reconcileStatus_releasing hslot hr hst).2, completeRelease_field hr hst hk ht]
  rfl

/-- A field record's release complete (R19). -/
theorem reconcileStatus_released {d : Dest} (hslot : s.slotOf (.field u o) = some i) (hr : s.record i = some r)
    (hk : r.kind ≠ .saw) (ht : r.target = .field u o) (hst : r.state = .releasing d) (hd : d ≠ .vacant) :
    s.reconcileStatus u o false = { s.putAt i (r.landed d) with gov := s.gov.ballastStep s.params .up r.claim } := by
  rw [(reconcileStatus_releasing hslot hr hst).2, completeRelease_field hr hst hk ht, released_eq_landed hd]
  rfl

/-- A demand bit that puts on an IDLE record's demand (R13). -/
theorem setWanted_on_field (hr : s.record i = some r) (hw : r.wanted = false) (hst : r.state = .idle) :
    s.setWanted true i true = s.putAt i
      (if 0 < r.quota ∧ r.quota ≤ r.used then { r with wanted := true, state := .held .quota, reason := some .quota }
      else { r with wanted := true, state := .pending, reason := some .demandOn }) := by
  rw [setWanted_on_idle hr hw hst, toPending_eq]
  rfl

/-- A demand bit that moves a demand without effect on the switch (R13). -/
theorem setWanted_noted (hr : s.record i = some r) {on : Bool} (hne : on ≠ r.wanted)
    (h : (on = true ∧ r.state ≠ .idle) ∨
      (on = false ∧ (r.state = .idle ∨ (∃ d, r.state = .releasing d) ∨ ∃ h, r.state = .held h))) :
    s.setWanted true i on = s.setRecord i (some { r with wanted := on }) := by
  rcases h with ⟨rfl, hst⟩ | ⟨rfl, hst⟩
  · exact setWanted_on_other hr (Bool.eq_false_iff.mpr (Ne.symm hne)) hst
  · exact setWanted_off_resting hr hst

/-- A unit's entry takes a meter count and a mark in one act (R108, R111). -/
theorem setMeter_giveMark {e : UnitEntry} {count : Half} (he : s.flc.units.get u = some e) (hmark : e.mark = none)
    (hreach : e.reach ≠ .missing) (hv : s.flc.visitTo u = none) :
    (s.flc.giveMark s.now .opening u).setMeter u o count = { s.flc with units := s.flc.units.set u (some
      { e with meters := e.meters.set o (some count), mark := some ⟨.opening, s.now⟩ }) } := by
  have hself : (s.flc.setUnit u (some { e with mark := some ⟨.opening, s.now⟩ })).units.get u =
      some { e with mark := some ⟨.opening, s.now⟩ } := vector_get_set_self ..
  have hgive : s.flc.giveMark s.now .opening u = s.flc.setUnit u (some { e with mark := some ⟨.opening, s.now⟩ }) := by
    rw [giveMark_of_seen he hv hreach, hmark]
    rfl
  rw [hgive, Flc.setMeter, hself, Option.map_some]
  simp only [Flc.setUnit, Vector.set_set]

end

/-- What ALT makes of a READ_STATUS reply, stage by stage (R109). -/
theorem altStatus_eq (s : State) (u : UnitIx) (outlets : Nat) (k : StatusReport) : s.altStatus u outlets k =
    (outletsBelow outlets).foldl (fun s o => s.takeMeter u k.rebooted o (k.counts.get o))
      ((outletsBelow outlets).foldl (fun s o => s.reconcileStatus u o (k.closed.getLsbD o.val))
        (if k.asking = true ∨ k.rebooted = true then
          (outletsBelow outlets).foldl (fun s o => s.takeDemand u o (k.demand.getLsbD o.val)) s else s)) := by
  simp only [State.altStatus, Bool.or_eq_true]

/-- Settles O45: by the state of the record, its meter counts, its demand bit; then the order in a reply. -/
theorem reportsReconcileTheRecords : Obligations.ReportsReconcileTheRecords := by
  refine ⟨fun s u o i r put hslot hr ht hk hstrict hput => ?_, fun s t t' u outlets k os hos htt htt' => ?_⟩
  · have hne : r.kind ≠ .saw := by rw [hk]; nofun
    obtain rfl : put = s.putAt i := funext hput
    refine ⟨fun hst sent => ⟨?_, ?_, (reconcileStatus_granted hslot hr hst).2, (reconcileApplied_granted hslot hr hst).2.1, ?_⟩,
      fun hst sent => ⟨(reconcileStatus_live hslot hr hst).1, (reconcileApplied_live hslot hr hst sent).1, ?_, ?_⟩,
      fun d hst sent => ⟨(reconcileStatus_releasing hslot hr hst).1, (reconcileApplied_releasing hslot hr hst sent).1, ?_,
        fun hd => ?_⟩,
      fun hst sent closed => reconcile_resting hslot hr hst sent closed,
      fun e last count he hlast hquota => ⟨?_, ?_⟩,
      fun e last count delta used he hlast hpos hdelta hused keep hkeep => ⟨fun hlt => ?_, fun hle hst => ?_,
        fun hle hst hmark hreach hv => ?_, fun hle hst => ?_⟩,
      fun hst => reconcileStatus_retired hslot hr hne ht hst, fun hlocked on => ?_,
      fun hlocked on => takeDemand_locked hslot hr hlocked on⟩
    · rw [(reconcileStatus_granted hslot hr hst).1, confirmField_eq hne]
    · rw [(reconcileStatus_granted hslot hr hst).1, (reconcileApplied_granted hslot hr hst).1]
    · rw [(reconcileApplied_granted hslot hr hst).2.2, refuseField_eq hne]
    · rw [(reconcileApplied_live hslot hr hst sent).2, (reconcileStatus_live hslot hr hst).2]
    · rw [(reconcileStatus_live hslot hr hst).2, unitOpened_eq]
    · rw [(reconcileApplied_releasing hslot hr hst sent).2, (reconcileStatus_releasing hslot hr hst).2]
    · rw [reconcileStatus_released hslot hr hne ht hst hd]
      cases d <;> rfl
    · rw [takeMeter_of he hslot hr hlast, takeCount_unspent (by rfl) (.inl hquota)]
      exact congrArg (fun f : Flc => { s.setRecord i (some { r with used := min 65535 (r.used + (count - last).toNat) }) with
        flc := f }) (setMeter_of he)
    · rw [takeMeter_of he hslot hr hlast, takeCount_unspent (by rfl) (.inl hquota)]
      exact congrArg (fun f : Flc => { s.setRecord i (some { r with used := min 65535 (r.used + count.toNat) }) with
        flc := f }) (setMeter_of he)
    · subst hdelta
      rw [takeMeter_of he hslot hr hlast, hkeep]
      simp only [Bool.false_eq_true, if_false, ← hused]
      rw [takeCount_unspent (by rfl) (.inr hlt)]
      exact congrArg (fun f : Flc => { s.setRecord i (some { r with used }) with flc := f }) (setMeter_of he)
    · subst hdelta
      rw [takeMeter_of he hslot hr hlast, hkeep]
      simp only [Bool.false_eq_true, if_false, if_true, ← hused]
      rw [takeCount_pending (by exact hst) (by exact ⟨hpos, hle⟩) hstrict]
      exact congrArg (fun f : Flc => { s.putAt i { r with used, state := .held .quota, reason := some .quota } with
        flc := f }) (setMeter_of he)
    · subst hdelta
      rw [takeMeter_of he hslot hr hlast, hkeep]
      simp only [Bool.false_eq_true, if_false, if_true, ← hused]
      rw [takeCount_field (by exact hne) (by exact hst) (by exact ht) (by exact ⟨hpos, hle⟩) hstrict]
      simp only [State.onFlc, setMeter_giveMark he hmark hreach hv]
      rfl
    · subst hdelta
      rw [takeMeter_of he hslot hr hlast, hkeep]
      simp only [Bool.false_eq_true, if_false, ← hused]
      rw [takeCount_resting (by rfl) hpos hle (by exact hst) hstrict, noteChange_eq]
      have hmeter := setMeter_of (s := s) (o := o) (count := count) he
      simp only [State.onFlc, State.onAlt, State.setRecord, hmeter]
      rfl
    · rw [takeDemand_unlocked hslot hr hlocked]
      refine ⟨fun h => setWanted_same hr h.symm, fun h hw hst => ?_, fun h hw hst => ?_, fun h hw hst => ?_,
        fun hne' h => setWanted_noted hr hne' h⟩
      · subst h
        exact setWanted_on_field hr hw hst
      · subst h
        rw [setWanted_off_waiting hr hw hst]
        exact checkStrict_of_none (by exact hstrict)
      · subst h
        exact setWanted_off_field hr hw hne hst ht hstrict
  · subst hos htt htt'
    exact altStatus_eq s u outlets k

end Sys2Proof.Machine
end

section
/-! SUPPORT. AMEND: its checks, the balance of a switched record, and the quota rules that follow (Sections 1.2.2, 6.4). -/

namespace Sys2Proof.Machine

-- each theorem's proof is checked before the next begins, so that few threads are needed
set_option Elab.async false

section
variable {s : State} {slot flags priority locked : Byte} {claim idle quota tag : Half} {i : Slot} {r r' : Allotment}

/-! ## The request (R7) -/

/-- Flags without an unassigned one are below 64. -/
theorem amendBytesGood_of (hflags : flags.toNat < 64) (hlocked : flags.getLsbD 4 = true → locked.toNat ≤ 1) :
    amendBytesGood flags locked = true := by
  have hhigh : flags.extractLsb' 6 2 = 0 := by
    refine BitVec.eq_of_toNat_eq ?_
    rw [BitVec.extractLsb'_toNat, Nat.shiftRight_eq_div_pow, Nat.div_eq_of_lt hflags]
    rfl
  have hbool : (!flags.getLsbD 4 || (boolOf locked).isSome) = true := by
    cases h4 : flags.getLsbD 4
    · rfl
    · rw [boolOf_of_le (hlocked h4)]
      rfl
  rw [amendBytesGood, hhigh, hbool]
  rfl

/-- The record an AMEND without a quota leaves (R7). -/
theorem amend_no_quota (hquota : flags.getLsbD 3 = false) : r.amend flags claim idle priority quota locked tag = { r with
    claim := if flags.getLsbD 0 then claim.toNat else r.claim
    idle := if flags.getLsbD 1 then idle.toNat else r.idle
    priority := if flags.getLsbD 2 then priority.toNat else r.priority
    locked := if flags.getLsbD 4 then locked == 1 else r.locked
    tag := if flags.getLsbD 5 then tag.toNat else r.tag } := by
  simp only [Allotment.amend, hquota, Bool.false_eq_true, if_false]

/-- The record an AMEND of the quota alone leaves (R7). -/
theorem amend_quota (quota : Half) : r.amend 8 0 0 0 quota 0 0 = { r with quota := quota.toNat } := by
  have hbits : (8 : Byte).getLsbD 0 = false ∧ (8 : Byte).getLsbD 1 = false ∧ (8 : Byte).getLsbD 2 = false ∧
    (8 : Byte).getLsbD 3 = true ∧ (8 : Byte).getLsbD 4 = false ∧ (8 : Byte).getLsbD 5 = false := by decide
  obtain ⟨h0, h1, h2, h3, h4, h5⟩ := hbits
  simp only [Allotment.amend, h0, h1, h2, h3, h4, h5, Bool.false_eq_true, if_false, if_true]

section
variable (hready : s.Ready) (hslot : slotNumber slot = some i) (hr : s.record i = some r) (hrel : r.isReleasing = false)
include hready hslot hr hrel

/-- An AMEND that passes its checks stores the record as amended, balances it and answers with it (R7, R8; log 31). -/
theorem exec_amend_done (hgood : amendBytesGood flags locked = true)
    (hr' : r.amend flags claim idle priority quota locked tag = r') (htakes : r.takesFields flags = true)
    (hrange : r'.inRange = true) (hcon : s.constraints r' = true)
    (htag : flags.getLsbD 5 = true → s.tagTaken r'.tag (some i) = false) {t : State} (ht : s.cleared.amended i r r' = t.cleared) :
    exec (.amend slot flags claim idle priority quota locked tag) s =
      .next (t.arbitrate.answered .done (recordBytes i (some r'))) := by
  refine request_arbitrates hready ?_ rfl
  have hcon' : s.cleared.constraints r' = true := hcon
  have htag' : (flags.getLsbD 5 && s.cleared.tagTaken r'.tag (some i)) = false := by
    cases h5 : flags.getLsbD 5
    · rfl
    · exact htag h5
  simp only [hgood, if_true]
  rw [onRecord_of_slot hslot (by exact hr)]
  simp only [hr', hrel, htakes, hrange, hcon', htag', Bool.and_self, Bool.not_true, Bool.false_eq_true, if_false, ht]
  rfl

/-- An idle claim given for a record that is not SAW is refused (R7; log 32). -/
theorem exec_amend_no_idle (hk : r.kind ≠ .saw) (hidle : flags.getLsbD 1 = true) :
    exec (.amend slot flags claim idle priority quota locked tag) s = .next (s.answered .badField []) := by
  refine request_arbitrates_not hready (t := s) ?_ rfl
  by_cases hgood : amendBytesGood flags locked = true
  · have htakes : r.takesFields flags = false := by
      rw [Allotment.takesFields, hidle, beq_false_of_ne hk]
      rfl
    simp only [hgood, if_true]
    rw [onRecord_of_slot hslot (by exact hr)]
    simp only [hrel, htakes, Bool.false_and, Bool.not_false, Bool.false_eq_true, if_false, if_true]
    rfl
  · simp only [hgood, Bool.false_eq_true, if_false]
    rfl

end

/-! ## The balance (R8) -/

/-- A ballast step of a difference moves GOV alone (R8). -/
theorem stepDifference_eq (s : State) (before after : Nat) : s.stepDifference before after = { s with
    gov := if before ≤ after then s.gov.ballastStep s.params .down (after - before)
      else s.gov.ballastStep s.params .up (before - after) } := by
  unfold State.stepDifference
  split <;> rfl

/-- What the balance of an amended record moves: G_out for a GRANTED one, the ballast for a LIVE one (R8). -/
theorem balanceAmend_eq (s : State) (r r' : Allotment) : ∃ n g,
    s.balanceAmend r r' = { s with alt := { s.alt with gOut := n }, gov := g } ∧
    (r.state ≠ .granted → n = s.alt.gOut) ∧ (r.state ≠ .live → g = s.gov) ∧
    (r.state = .granted → n = s.alt.gOut + r'.share - r.share) ∧
    (r.state = .live → r.kind ≠ .saw → g = if r.claim ≤ r'.claim then s.gov.ballastStep s.params .down (r'.claim - r.claim)
      else s.gov.ballastStep s.params .up (r.claim - r'.claim)) ∧
    (r.state = .live → r.kind = .saw → r.trimmed = true →
      g = if r.idle ≤ r'.idle then s.gov.ballastStep s.params .down (r'.idle - r.idle)
        else s.gov.ballastStep s.params .up (r.idle - r'.idle)) := by
  cases hst : r.state
  case granted =>
    refine ⟨s.alt.gOut + r'.share - r.share, s.gov, ?_, fun h => absurd rfl h, fun _ => rfl, fun _ => rfl, nofun, nofun⟩
    simp only [State.balanceAmend, hst]
    rfl
  case live =>
    by_cases hsaw : r.kind = .saw
    · cases htr : r.trimmed
      · refine ⟨s.alt.gOut, ((s.stepDifference r.idle r'.idle).stepDifference r.claim r'.claim).gov, ?_, fun _ => rfl,
          fun h => absurd rfl h, nofun, fun _ h => absurd hsaw h, fun _ _ h => absurd h Bool.false_ne_true⟩
        simp only [State.balanceAmend, hst, hsaw, htr, if_true, Bool.false_eq_true, if_false, stepDifference_eq]
      · refine ⟨s.alt.gOut, _, ?_, fun _ => rfl, fun h => absurd rfl h, nofun, fun _ h => absurd hsaw h, fun _ _ _ => rfl⟩
        simp only [State.balanceAmend, hst, hsaw, htr, if_true, stepDifference_eq]
    · refine ⟨s.alt.gOut, _, ?_, fun _ => rfl, fun h => absurd rfl h, nofun, fun _ _ => rfl, fun _ h => absurd h hsaw⟩
      simp only [State.balanceAmend, hst, hsaw, if_false, stepDifference_eq]
  all_goals
    refine ⟨s.alt.gOut, s.gov, ?_, fun _ => rfl, fun _ => rfl, nofun, nofun, nofun⟩
    simp only [State.balanceAmend, hst]

/-- An AMEND that keeps the quota stores and balances alone (R7, R8). -/
theorem amended_same_quota (h : r'.quota = r.quota) : s.amended i r r' = (s.setRecord i (some r')).balanceAmend r r' := by
  simp only [State.amended, h, if_true]

/-! ## The quota rules (R111 to R113) -/

section
variable (hquota : r'.quota ≠ r.quota)
include hquota

/-- An AMEND that spends the quota of a PENDING record holds it (R111, R112). -/
theorem amended_pending (hst : r.state = .pending) (hst' : r'.state = .pending)
    (hspent : 0 < r'.quota ∧ r'.quota ≤ r'.used) (hstrict : s.alt.strict = none) :
    s.amended i r r' = s.putAt i { r' with state := .held .quota, reason := some .quota } := by
  have hrec := record_setRecord_self s i (some r')
  have hsp : r'.spent = true := by simp [Allotment.spent, hspent]
  have hbalance : (s.setRecord i (some r')).balanceAmend r r' = s.setRecord i (some r') := by
    simp only [State.balanceAmend, hst]
  have hhold : (s.setRecord i (some r')).quotaHold i = s.putAt i { r' with state := .held .quota, reason := some .quota } := by
    simp only [State.quotaHold, hrec, hsp, if_true, hst']
    rw [checkStrict_of_none (by exact hstrict)]
    simp [State.noteChange, State.setRecord, State.onAlt, State.putAt, Vector.set_set]
  have hput : (s.putAt i { r' with state := .held .quota, reason := some .quota }).record i =
      some { r' with state := .held .quota, reason := some .quota } := vector_get_set_self ..
  have hsp' : ({ r' with state := .held .quota, reason := some .quota } : Allotment).spent = true := hsp
  simp only [State.amended, hquota, if_false, hbalance, hhold, State.quotaRelease, hput, hsp', Bool.true_eq_false,
    and_false]

/-- An AMEND that leaves the quota of a record held for it unspent lifts the hold (R113). -/
theorem amended_held (hst : r.state = .held .quota) (hst' : r'.state = .held .quota)
    (hspent : r'.quota = 0 ∨ r'.used < r'.quota) :
    s.amended i r r' = s.putAt i { r' with state := if r'.wanted then .pending else .idle } := by
  have hrec := record_setRecord_self s i (some r')
  have hsp : r'.spent = false := by
    simp only [Allotment.spent, Bool.and_eq_false_iff, decide_eq_false_iff_not]
    omega
  have hbalance : (s.setRecord i (some r')).balanceAmend r r' = s.setRecord i (some r') := by
    simp only [State.balanceAmend, hst]
  have hhold : (s.setRecord i (some r')).quotaHold i = s.setRecord i (some r') := by
    simp only [State.quotaHold, hrec, hsp, Bool.false_eq_true, if_false]
  simp only [State.amended, hquota, if_false, hbalance, hhold, State.quotaRelease, hrec, hst', hsp, and_self, if_true]
  simp [State.noteChange, State.setRecord, State.onAlt, State.putAt, Vector.set_set]

end

end

/-- Settles O10: an AMEND without a quota, by its balance; a refused idle claim; an AMEND of the quota alone. -/
theorem amendBalancesAndFollowsTheQuota : Obligations.AmendBalancesAndFollowsTheQuota := by
  refine ⟨fun s slot flags priority locked claim idle quota tag i r r' hready hslot hr hflags hquota hlocked hr' hrel hidle hrange
      hcon htag => ?_,
    fun s slot flags priority locked claim idle quota tag i r hready hslot hr hrel hidle hk =>
      exec_amend_no_idle hready hslot hr hrel hk hidle,
    fun s slot quota i r hready hslot hr hk hrange hcon hstrict hquota => ?_⟩
  · have hkind : r'.kind = r.kind := by rw [hr']
    have hq : r'.quota = r.quota := by rw [hr']
    have htakes : r.takesFields flags = true := by
      cases h1 : flags.getLsbD 1
      · rw [Allotment.takesFields, h1]
        rfl
      · rw [Allotment.takesFields, h1, hidle h1]
        rfl
    obtain ⟨n, g, hbalance, hn, hg, hgranted, hlive, hsaw⟩ := balanceAmend_eq (s.cleared.setRecord i (some r')) r r'
    refine ⟨{ s.alt with slots := s.alt.slots.set i (some r'), gOut := n }, g, ?_, rfl, hn, hg, fun hst hk => ?_,
      fun hst hk => ?_, hlive, hsaw⟩
    · refine exec_amend_done hready hslot hr hrel (amendBytesGood_of hflags hlocked) ((amend_no_quota hquota).trans hr'.symm)
        htakes hrange hcon htag ?_
      rw [amended_same_quota hq]
      exact hbalance
    · rw [hgranted hst, Allotment.share_of_ne_saw hk, Allotment.share_of_ne_saw (hkind ▸ hk)]
      rfl
    · rw [hgranted hst, share_of_saw hk, share_of_saw (hkind.trans hk)]
      rfl
  · have hcon' : s.constraints { r with quota := quota.toNat } = true := by
      rw [← hcon]
      cases htarget : r.target <;> simp only [State.constraints, hk, htarget]
    have htakes : r.takesFields 8 = true := rfl
    refine ⟨fun hst hpos hle => ?_, fun hst hfree => ?_⟩
    · refine exec_amend_done hready hslot hr (by simp [Allotment.isReleasing, hst]) (by rfl) (amend_quota quota) htakes hrange hcon'
        (fun h => absurd h (by decide)) ?_
      exact (amended_pending (s := s.cleared) (r' := { r with quota := quota.toNat }) hquota hst hst ⟨hpos, hle⟩ hstrict).trans rfl
    · refine exec_amend_done hready hslot hr (by simp [Allotment.isReleasing, hst]) (by rfl) (amend_quota quota) htakes hrange hcon'
        (fun h => absurd h (by decide)) ?_
      exact (amended_held (s := s.cleared) (r' := { r with quota := quota.toNat }) hquota hst hst hfree).trans rfl

end Sys2Proof.Machine
end

section
/-! SUPPORT. The series of seeks over unchanged identities (Section 7.7): where two identities part, what one seek follows,
and the order in which a series finds them. -/

namespace Sys2Proof.Machine

-- each theorem's proof is checked before the next begins, so that few threads are needed
set_option Elab.async false

/-! ## Identities bit by bit (R127) -/

/-- Two identities agree in the bits before a position. -/
def AgreeBefore (x y : Identity) (q : Nat) : Prop := ∀ j, j < q → identityBit x j = identityBit y j

theorem AgreeBefore.symm {x y : Identity} {q : Nat} (h : AgreeBefore x y q) : AgreeBefore y x q := fun j hj => (h j hj).symm

theorem AgreeBefore.trans {x y z : Identity} {q : Nat} (h : AgreeBefore x y q) (h' : AgreeBefore y z q) : AgreeBefore x z q :=
  fun j hj => (h j hj).trans (h' j hj)

theorem AgreeBefore.mono {x y : Identity} {p q : Nat} (h : AgreeBefore x y q) (hp : p ≤ q) : AgreeBefore x y p :=
  fun j hj => h j (Nat.lt_of_lt_of_le hj hp)

/-- Where two identities part, the one with the bit 0 is the lower. -/
theorem lt_of_part {x y : Identity} {q : Nat} (hq : q < 40) (h : AgreeBefore x y q) (hx : identityBit x q = false)
    (hy : identityBit y q = true) : x.toNat < y.toNat := by
  refine Nat.lt_of_testBit (39 - q) ?_ ?_ fun j hj => ?_
  · rw [BitVec.testBit_toNat]
    exact hx
  · rw [BitVec.testBit_toNat]
    exact hy
  · rw [BitVec.testBit_toNat, BitVec.testBit_toNat]
    by_cases hlt : j < 40
    · have hbit := h (39 - j) (by omega)
      rwa [identityBit, identityBit, show 39 - (39 - j) = j by omega] at hbit
    · rw [BitVec.getLsbD_of_ge _ _ (Nat.not_lt.mp hlt), BitVec.getLsbD_of_ge _ _ (Nat.not_lt.mp hlt)]

/-- Two identities in order part at some position. -/
theorem part_of_lt {x y : Identity} (h : x.toNat < y.toNat) :
    ∃ q, q < 40 ∧ AgreeBefore x y q ∧ identityBit x q = false ∧ identityBit y q = true := by
  have hdiff : ∃ q, q < 40 ∧ identityBit x q ≠ identityBit y q := by
    by_contra hsame
    refine absurd (congrArg BitVec.toNat (BitVec.eq_of_getLsbD_eq fun i hi => ?_)) (Nat.ne_of_lt h)
    by_contra hne
    refine hsame ⟨39 - i, by omega, ?_⟩
    rwa [identityBit, identityBit, show 39 - (39 - i) = i by omega]
  obtain ⟨hq, hne⟩ := Nat.find_spec hdiff
  have hagree : AgreeBefore x y (Nat.find hdiff) := fun j hj => by
    by_contra hj'
    exact Nat.find_min hdiff hj ⟨by omega, hj'⟩
  cases hx : identityBit x (Nat.find hdiff)
  · refine ⟨_, hq, hagree, hx, ?_⟩
    cases hy : identityBit y (Nat.find hdiff)
    · exact absurd (hx.trans hy.symm) hne
    · rfl
  · cases hy : identityBit y (Nat.find hdiff)
    · exact absurd (lt_of_part hq hagree.symm hy hx) (Nat.lt_asymm h)
    · exact absurd (hx.trans hy.symm) hne

/-! ## One seek (R130 to R132) -/

section
variable {present : List Identity} {y : Identity} {k : Series}

/-- The identities that agree with one before a position, those still in a seek that follows it. -/
def agreeing (present : List Identity) (y : Identity) (pos : Nat) : List Identity :=
  present.filter fun x => (List.range pos).all fun j => identityBit x j == identityBit y j

theorem mem_agreeing {x : Identity} {pos : Nat} :
    x ∈ agreeing present y pos ↔ x ∈ present ∧ AgreeBefore x y pos := by
  simp [agreeing, AgreeBefore]

/-- The next bit taken on. -/
theorem agreeing_succ (pos : Nat) :
    (agreeing present y pos).filter (fun x => identityBit x pos == identityBit y pos) = agreeing present y (pos + 1) := by
  rw [agreeing, List.filter_filter, agreeing]
  refine List.filter_congr fun x _ => ?_
  rw [List.range_succ, List.all_append, Bool.and_comm]
  simp

/-- A position where the identities in the seek leave the 0 of an identity for a 1: a zero-chosen fork (R131). -/
def ZeroFork (present : List Identity) (y : Identity) (q : Nat) : Prop :=
  identityBit y q = false ∧ ∃ z ∈ present, AgreeBefore z y q ∧ identityBit z q = true

/-- The series guides a seek to an identity: at each fork on the way its bit is the one chosen (R131). -/
def Guides (k : Series) (present : List Identity) (y : Identity) : Prop :=
  ∀ q, q < 40 → (∃ z ∈ present, AgreeBefore z y q ∧ identityBit z q ≠ identityBit y q) → forkBit k q = identityBit y q

/-- The latest zero-chosen fork of a seek from a position on, or what was recorded before it. -/
def LatestFork (present : List Identity) (y : Identity) (pos : Nat) (before latest : Option Nat) : Prop :=
  (∃ q, pos ≤ q ∧ q < 40 ∧ latest = some q ∧ ZeroFork present y q ∧ ∀ q', q < q' → q' < 40 → ¬ ZeroFork present y q') ∨
  (latest = before ∧ ∀ q, pos ≤ q → q < 40 → ¬ ZeroFork present y q)

/-- A position that is no zero-chosen fork leaves the latest one. -/
theorem LatestFork.before_none {pos : Nat} {before latest : Option Nat} (h : LatestFork present y (pos + 1) before latest)
    (hno : ¬ ZeroFork present y pos) : LatestFork present y pos before latest := by
  rcases h with ⟨q, hq, hlt, hl, hf, hlast⟩ | ⟨hl, hnone⟩
  · exact .inl ⟨q, by omega, hlt, hl, hf, hlast⟩
  · refine .inr ⟨hl, fun q hq hlt => ?_⟩
    rcases Nat.eq_or_lt_of_le hq with rfl | hgt
    · exact hno
    · exact hnone q hgt hlt

/-- A position that is a zero-chosen fork is the latest one unless another follows. -/
theorem LatestFork.before_fork {pos : Nat} {latest : Option Nat} (h : LatestFork present y (pos + 1) (some pos) latest)
    (hlt : pos < 40) (hf : ZeroFork present y pos) (before : Option Nat) : LatestFork present y pos before latest := by
  rcases h with ⟨q, hq, hlt, hl, hf, hlast⟩ | ⟨hl, hnone⟩
  · exact .inl ⟨q, by omega, hlt, hl, hf, hlast⟩
  · exact .inl ⟨pos, Nat.le_refl _, hlt, hl, hf, fun q' hq' hlt => hnone q' hq' hlt⟩

/-- A read slot reads 1 while no unit drives (R116). -/
theorem readSlot_eq_true {bits : List Bool} : readSlot bits = true ↔ ∀ b ∈ bits, b = true := by
  have hin : decide (LineSlot.read.pull < sampleTime) = true := by decide
  simp [readSlot, LineSlot.high, hin]

/-- The bits that an identity has left, with its next bit pushed. -/
theorem push_bit {left : Nat} (hleft : left < 40) :
    ((y >>> (left + 1)) <<< 1 ||| (if identityBit y (39 - left) then 1 else 0) : Identity) = y >>> left := by
  have hbit : identityBit y (39 - left) = y.getLsbD left := by rw [identityBit, show 39 - (39 - left) = left by omega]
  rw [hbit]
  refine BitVec.eq_of_getLsbD_eq fun i hi => ?_
  rw [BitVec.getLsbD_or, BitVec.getLsbD_shiftLeft, BitVec.getLsbD_ushiftRight, BitVec.getLsbD_ushiftRight]
  cases i with
  | zero => cases y.getLsbD left <;> simp
  | succ i =>
    have hzero : (if y.getLsbD left then (1 : Identity) else 0).getLsbD (i + 1) = false := by
      cases y.getLsbD left <;> simp
    rw [hzero, show left + 1 + (i + 1 - 1) = left + (i + 1) by omega]
    simp [hi]

/-- A seek that is guided to an identity finds it, with the latest zero-chosen fork of its way (R130 to R132). -/
theorem seekFrom_guided (hy : y ∈ present) (hvalid : validIdentity y = true) (hguide : Guides k present y) :
    ∀ (left pos : Nat) (fork : Option Nat), left + pos = 40 → ∃ latest,
      seekFrom k left pos (lineReadings k left pos (agreeing present y pos)) (y >>> left) fork = .ok y latest ∧
      LatestFork present y pos fork latest := by
  intro left
  induction left with
  | zero =>
    intro pos fork hpos
    refine ⟨fork, ?_, .inr ⟨rfl, fun q hq hlt => by omega⟩⟩
    have hself : y >>> 0 = y := BitVec.ushiftRight_zero y
    rw [lineReadings, seekFrom, hself, if_pos hvalid]
  | succ left ih =>
    intro pos fork hpos
    have hmem : y ∈ agreeing present y pos := mem_agreeing.mpr ⟨hy, fun _ _ => rfl⟩
    obtain ⟨r, hr⟩ : ∃ r, r = readingOf (agreeing present y pos) pos := ⟨_, rfl⟩
    have hones : r.bit = true ↔ ∀ z ∈ present, AgreeBefore z y pos → identityBit z pos = true := by
      rw [hr, readingOf, readSlot_eq_true]
      simp only [List.forall_mem_map, mem_agreeing, and_imp]
    have hzeros : r.complement = true ↔ ∀ z ∈ present, AgreeBefore z y pos → identityBit z pos = false := by
      rw [hr, readingOf, readSlot_eq_true]
      simp only [List.forall_mem_map, mem_agreeing, and_imp, Bool.not_eq_true']
    have hself : AgreeBefore y y pos := fun _ _ => rfl
    have hboth : (r.bit && r.complement) = false := by
      rw [Bool.and_eq_false_iff]
      by_contra h
      obtain ⟨hb, hc⟩ := not_or.mp h
      have h1 := hones.mp (by simpa using hb) y hy hself
      have h0 := hzeros.mp (by simpa using hc) y hy hself
      exact absurd (h1.symm.trans h0) (by decide)
    have hpush : ∀ b, identityBit y pos = b → ((y >>> (left + 1)) <<< 1 ||| (if b then 1 else 0) : Identity) = y >>> left := by
      rintro _ rfl
      have h := push_bit (y := y) (left := left) (by omega)
      rwa [show 39 - left = pos by omega] at h
    have hsent : sentBit k pos r = identityBit y pos := by
      unfold sentBit
      by_cases hfork : r.bit = false ∧ r.complement = false
      · rw [if_pos hfork]
        refine hguide pos (by omega) ?_
        by_contra hno
        have hall : ∀ z ∈ present, AgreeBefore z y pos → identityBit z pos = identityBit y pos := fun z hz ha => by
          by_contra hne
          exact hno ⟨z, hz, ha, hne⟩
        cases hbit : identityBit y pos
        · exact absurd (hzeros.mpr fun z hz ha => (hall z hz ha).trans hbit) (by rw [hfork.2]; decide)
        · exact absurd (hones.mpr fun z hz ha => (hall z hz ha).trans hbit) (by rw [hfork.1]; decide)
      · rw [if_neg hfork]
        cases hb : r.bit
        · have hc : r.complement = true := by
            cases hc : r.complement
            · exact absurd ⟨hb, hc⟩ hfork
            · rfl
          exact (hzeros.mp hc y hy hself).symm
        · exact (hones.mp hb y hy hself).symm
    have hlines : lineReadings k (left + 1) pos (agreeing present y pos) =
        r :: lineReadings k left (pos + 1) (agreeing present y (pos + 1)) := by
      rw [lineReadings, ← hr]
      simp only [hboth, Bool.false_eq_true, if_false, hsent, agreeing_succ]
    rw [hlines, seekFrom, List.headD_cons, List.tail_cons]
    cases hb : r.bit <;> cases hc : r.complement
    · have hforkBit : forkBit k pos = identityBit y pos := by
        rw [← hsent, sentBit, if_pos ⟨hb, hc⟩]
      simp only [hforkBit, hpush _ rfl]
      obtain ⟨latest, hseek, hlatest⟩ := ih (pos + 1) (if identityBit y pos = true then fork else some pos) (by omega)
      refine ⟨latest, hseek, ?_⟩
      cases hbit : identityBit y pos
      · rw [hbit] at hlatest
        refine hlatest.before_fork (by omega) ⟨hbit, ?_⟩ fork
        by_contra hno
        refine absurd (hzeros.mpr fun z hz ha => ?_) (by rw [hc]; decide)
        cases hz' : identityBit z pos
        · rfl
        · exact absurd ⟨z, hz, ha, hz'⟩ hno
      · rw [hbit] at hlatest
        exact hlatest.before_none fun h => absurd (hbit.symm.trans h.1) (by decide)
    · have hbit := hzeros.mp hc
      obtain ⟨latest, hseek, hlatest⟩ := ih (pos + 1) fork (by omega)
      rw [← hpush false (hbit y hy hself)] at hseek
      exact ⟨latest, hseek, hlatest.before_none fun ⟨_, z, hz, ha, hz'⟩ => absurd ((hbit z hz ha).symm.trans hz') (by decide)⟩
    · have hbit := hones.mp hb
      obtain ⟨latest, hseek, hlatest⟩ := ih (pos + 1) fork (by omega)
      rw [← hpush true (hbit y hy hself)] at hseek
      exact ⟨latest, hseek, hlatest.before_none fun h => absurd ((hbit y hy hself).symm.trans h.1) (by decide)⟩
    · exact absurd hboth (by rw [hb, hc]; decide)

/-- A whole seek guided to an identity (R130 to R132). -/
theorem seekOver_guided (hy : y ∈ present) (hvalid : validIdentity y = true) (hguide : Guides k present y) :
    ∃ latest, seekOver k present = .ok y latest ∧ LatestFork present y 0 none latest := by
  obtain ⟨latest, hseek, hlatest⟩ := seekFrom_guided hy hvalid hguide 40 0 none rfl
  have hall : agreeing present y 0 = present := List.filter_eq_self.mpr fun x _ => rfl
  have hzero : y >>> 40 = (0 : Identity) := BitVec.ushiftRight_eq_zero (Nat.le_refl _)
  rw [hall, hzero] at hseek
  exact ⟨latest, hseek, hlatest⟩

/-! ## A series (R131, R133) -/

/-- Without a record the series guides its seek to the lowest identity (R131). -/
theorem guides_lowest (hlow : ∀ z ∈ present, ¬ z.toNat < y.toNat) : Guides ⟨none, none⟩ present y := by
  rintro q hq ⟨z, hz, ha, hne⟩
  cases hbit : identityBit y q
  · rfl
  · have hz' : identityBit z q = false := by
      cases h : identityBit z q
      · rfl
      · exact absurd (h.trans hbit.symm) hne
    exact absurd (lt_of_part hq ha hz' hbit) (hlow z hz)

/-- After an identity the series guides its seek to the next (R131). -/
theorem guides_next {x : Identity} {f : Nat} (hf : f < 40) (hfork : ZeroFork present x f)
    (hlast : ∀ q, f < q → q < 40 → ¬ ZeroFork present x q) (hy : y ∈ present) (hlt : x.toNat < y.toNat)
    (hnext : ∀ z ∈ present, x.toNat < z.toNat → ¬ z.toNat < y.toNat) : Guides ⟨some x, some f⟩ present y := by
  obtain ⟨g, hg, hagree, hxg, hyg⟩ := part_of_lt hlt
  have hfg : g = f := by
    rcases Nat.lt_trichotomy g f with h | h | h
    · obtain ⟨hxf, z, hz, ha, hzf⟩ := hfork
      have hxz : x.toNat < z.toNat := lt_of_part hf ha.symm hxf hzf
      have hzg : identityBit z g = false := (ha g h).trans hxg
      exact absurd (lt_of_part hg ((ha.mono (Nat.le_of_lt h)).trans hagree) hzg hyg) (hnext z hz hxz)
    · exact h
    · exact absurd ⟨hxg, y, hy, hagree.symm, hyg⟩ (hlast g h hg)
  subst hfg
  rintro q hq ⟨z, hz, ha, hne⟩
  unfold forkBit
  rcases Nat.lt_trichotomy q g with h | h | h
  · simp only [h, if_true]
    exact hagree q h
  · subst h
    simp [hyg]
  · have hnlt : ¬ q < g := Nat.lt_asymm h
    simp only [hnlt, if_false, (Nat.ne_of_gt h), decide_false]
    cases hbit : identityBit y q
    · rfl
    · have hz' : identityBit z q = false := by
        cases h : identityBit z q
        · rfl
        · exact absurd (h.trans hbit.symm) hne
      have hxz : x.toNat < z.toNat :=
        lt_of_part hg (hagree.trans (ha.symm.mono (Nat.le_of_lt h))) hxg ((ha g h).trans hyg)
      exact absurd (lt_of_part hq ha hz' hbit) (hnext z hz hxz)

/-- From an identity on a series finds that one and all above it, in order (R133). -/
theorem seriesOver_from (more : Nat) : ∀ {rest : List Identity} {y : Identity} {k : Series},
    (∀ z ∈ present, z ∈ y :: rest ∨ z.toNat < y.toNat) → (∀ z ∈ y :: rest, z ∈ present ∧ validIdentity z = true) →
    (y :: rest).Pairwise (fun a b => a.toNat < b.toNat) → Guides k present y →
    seriesOver present ((y :: rest).length + more) k = y :: rest := by
  intro rest
  induction rest with
  | nil =>
    intro y k hall hmem _ hguide
    obtain ⟨hy, hvalid⟩ := hmem y List.mem_cons_self
    obtain ⟨latest, hseek, hlatest⟩ := seekOver_guided hy hvalid hguide
    have hnone : latest = none := by
      rcases hlatest with ⟨q, -, hq, -, ⟨hyq, z, hz, ha, hzq⟩, -⟩ | ⟨hl, -⟩
      · have hlt : y.toNat < z.toNat := lt_of_part hq ha.symm hyq hzq
        rcases hall z hz with h | h
        · exact absurd hlt (by rw [List.mem_singleton.mp h]; exact Nat.lt_irrefl _)
        · exact absurd h (Nat.lt_asymm hlt)
      · exact hl
    rw [show ([y] : List Identity).length + more = more + 1 from Nat.add_comm .., seriesOver, hseek, hnone]
  | cons y' rest ih =>
    intro y k hall hmem hsorted hguide
    obtain ⟨hy, hvalid⟩ := hmem y List.mem_cons_self
    obtain ⟨hy', -⟩ := hmem y' (List.mem_cons_of_mem _ List.mem_cons_self)
    obtain ⟨habove, hsorted'⟩ := List.pairwise_cons.mp hsorted
    have hlt : y.toNat < y'.toNat := habove y' List.mem_cons_self
    have hleast : ∀ z ∈ y' :: rest, ¬ z.toNat < y'.toNat := fun z hz => by
      rcases List.mem_cons.mp hz with rfl | hz
      · exact Nat.lt_irrefl _
      · exact Nat.lt_asymm ((List.pairwise_cons.mp hsorted').1 z hz)
    have hcases : ∀ z ∈ present, z ∈ y' :: rest ∨ z.toNat ≤ y.toNat := fun z hz => by
      rcases hall z hz with h | h
      · rcases List.mem_cons.mp h with rfl | h
        · exact .inr (Nat.le_refl _)
        · exact .inl h
      · exact .inr (Nat.le_of_lt h)
    obtain ⟨latest, hseek, hlatest⟩ := seekOver_guided hy hvalid hguide
    rcases hlatest with ⟨f, -, hf, rfl, hfork, hlast⟩ | ⟨-, hnone⟩
    · have hguide' : Guides ⟨some y, some f⟩ present y' := guides_next hf hfork hlast hy' hlt fun z hz hyz => by
        rcases hcases z hz with h | h
        · exact hleast z h
        · exact absurd hyz (Nat.not_lt.mpr h)
      have hrest := ih (fun z hz => (hcases z hz).imp_right fun h => Nat.lt_of_le_of_lt h hlt)
        (fun z hz => hmem z (List.mem_cons_of_mem _ hz)) hsorted' hguide'
      rw [show (y :: y' :: rest).length + more = (y' :: rest).length + more + 1 by
        rw [List.length_cons]; omega, seriesOver, hseek]
      exact congrArg (y :: ·) hrest
    · obtain ⟨q, hq, ha, hyq, hyq'⟩ := part_of_lt hlt
      exact absurd ⟨hyq, y', hy', ha.symm, hyq'⟩ (hnone q (Nat.zero_le _) hq)

end

/-- Settles O47: a series from its fresh record, guided first to the lowest identity. -/
theorem seekSeriesFindsEveryIdentityInOrder : Obligations.SeekSeriesFindsEveryIdentityInOrder := by
  intro present sorted more hperm hne hvalid hsorted
  obtain ⟨y, rest, rfl⟩ := List.exists_cons_of_ne_nil hne
  have hlow : ∀ z ∈ present, ¬ z.toNat < y.toNat := fun z hz => by
    rcases List.mem_cons.mp (hperm.mem_iff.mp hz) with rfl | h
    · exact Nat.lt_irrefl _
    · exact Nat.lt_asymm ((List.pairwise_cons.mp hsorted).1 z h)
  exact seriesOver_from more (fun z hz => .inl (hperm.mem_iff.mp hz)) (fun z hz => ⟨hperm.mem_iff.mpr hz, hvalid z hz⟩) hsorted
    (guides_lowest hlow)

end Sys2Proof.Machine
end

section
/-! SUPPORT. What the saw record's want dropped leaves of ALT beside it: the other slots, the timers, the strict slot. -/

namespace Sys2Proof.Machine

-- each theorem's proof is checked before the next begins, so that few threads are needed
set_option Elab.async false

section
variable {s u : State} {i j k : Slot} {b : Bool}

/-- The slot holds no saw record. -/
def State.Beside (s : State) (i : Slot) : Prop := ∀ r, s.record i = some r → r.kind ≠ .saw

/-- A candidate beside the saw record stays one while its record stands: SAW's flags do not matter (R41). -/
theorem isCandidate_of_beside (hi : s.Beside i) (hr : u.record i = s.record i) : u.isCandidate i = s.isCandidate i := by
  simp only [State.isCandidate, hr]
  rcases hrec : s.record i with _ | r
  · rfl
  · have hk := hi r hrec
    cases hkind : r.kind
    · simp only [hkind]
    · simp only [hkind]
    · exact absurd hkind hk

/-- ALT's timers and counts with the headroom: what a release leaves. -/
def Alt.clocks (a : Alt) : Slot × Nat × Nat × Nat × Nat := (a.walk, a.lowCount, a.settle, a.holdOff, a.headroom)

/-- The second state's ALT differs from the first's at the saw record and the switches only; the strict slot may be given
up, but not by a candidate beside the saw record. -/
structure State.SparesBeside (s u : State) : Prop where
  clocks : u.alt.clocks = s.alt.clocks
  strict : u.alt.strict = none ∨ u.alt.strict = s.alt.strict
  changed : ∀ i, s.Beside i → u.alt.changed.get i = s.alt.changed.get i
  record : ∀ i, s.Beside i → (s.alt.strict = some i → s.isCandidate i = true) →
    u.record i = s.record i ∧ (s.alt.strict = some i → u.alt.strict = some i)

namespace State.SparesBeside

theorem refl : s.SparesBeside s := ⟨rfl, .inr rfl, fun _ _ => rfl, fun _ _ _ => ⟨rfl, id⟩⟩

/-- What touches neither slots nor strict slot nor clocks, and the change set at the saw record only. -/
theorem onAlt {f : Alt → Alt} (h : s.SparesBeside u) (hclocks : (f u.alt).clocks = u.alt.clocks := by exact Eq.refl _)
    (hslots : (f u.alt).slots = u.alt.slots := by exact Eq.refl _)
    (hstrict : (f u.alt).strict = u.alt.strict := by exact Eq.refl _)
    (hchanged : ∀ i, s.Beside i → (f u.alt).changed.get i = u.alt.changed.get i := by exact fun _ _ => Eq.refl _) :
    s.SparesBeside (u.onAlt f) where
  clocks := hclocks.trans h.clocks
  strict := by
    show (f u.alt).strict = none ∨ (f u.alt).strict = s.alt.strict
    rw [hstrict]
    exact h.strict
  changed i hi := (hchanged i hi).trans (h.changed i hi)
  record i hi hc := by
    obtain ⟨hrec, hkeep⟩ := h.record i hi hc
    refine ⟨?_, fun hs => hstrict.trans (hkeep hs)⟩
    show (f u.alt).slots.get i = _
    rw [hslots]
    exact hrec

/-- What leaves ALT. -/
theorem of_alt {v : State} (h : s.SparesBeside u) (hv : v.alt = u.alt := by exact Eq.refl _) : s.SparesBeside v where
  clocks := by rw [hv]; exact h.clocks
  strict := by rw [hv]; exact h.strict
  changed := by rw [hv]; exact h.changed
  record i hi hc := by
    show v.alt.slots.get i = _ ∧ _
    rw [hv]
    exact h.record i hi hc

theorem setRecord {x : Option Allotment} (h : s.SparesBeside u) (hk : ¬ s.Beside k) : s.SparesBeside (u.setRecord k x) where
  clocks := h.clocks
  strict := h.strict
  changed := h.changed
  record i hi hc := by
    obtain ⟨hrec, hkeep⟩ := h.record i hi hc
    have hne : i ≠ k := fun e => hk (e ▸ hi)
    exact ⟨(record_setRecord_ne u x hne).trans hrec, hkeep⟩

theorem noteChange (h : s.SparesBeside u) (hk : ¬ s.Beside k) : s.SparesBeside (u.noteChange b k) := by
  cases b
  · exact h
  · refine h.onAlt (f := fun a => { a with changed := a.changed.set k true }) (hchanged := fun i hi => ?_)
    exact vector_get_set_ne _ _ (fun e => hk (e ▸ hi))

theorem checkStrict (h : s.SparesBeside u) : s.SparesBeside u.checkStrict := by
  rcases checkStrict_cases u with heq | ⟨j, hj, hnot, heq⟩
  · rw [heq]
    exact h
  · rw [heq]
    refine ⟨h.clocks, .inl rfl, h.changed, fun i hi hc => ?_⟩
    obtain ⟨hrec, hkeep⟩ := h.record i hi hc
    have hstrict : u.alt.strict = s.alt.strict := h.strict.resolve_left (by rw [hj]; nofun)
    have hne : i ≠ j := by
      rintro rfl
      have hs : s.alt.strict = some i := hstrict.symm.trans hj
      rw [isCandidate_of_beside hi hrec, hc hs] at hnot
      cases hnot
    refine ⟨(record_setRecord_ne u _ hne).trans hrec, fun hs => absurd ?_ hne⟩
    exact Option.some.inj (hs.symm.trans (hstrict.symm.trans hj))

theorem orderOpen {g : Target} (h : s.SparesBeside u) : s.SparesBeside (u.orderOpen g) := by
  cases g with
  | field v o => exact h.of_alt
  | relay n => exact h.onAlt (f := fun a => { a with relays := a.relays.set n false })
  | clutch => exact h.onAlt (f := fun a => { a with clutch := false, wait := some (.release (u.param .clutchTimeout * 1000)) })

theorem endWait {g : Target} (h : s.SparesBeside u) : s.SparesBeside (u.endWait g) := by
  cases g with
  | clutch => exact h.onAlt (f := fun a => { a with wait := none })
  | field v o => exact h
  | relay n => exact h

theorem subGranted {w : Nat} (h : s.SparesBeside u) : s.SparesBeside (u.subGranted w) :=
  h.onAlt (f := fun a => { a with gOut := a.gOut - w })

theorem openRelease {d : Dest} {reason : Option Reason} (h : s.SparesBeside u) (hk : ¬ s.Beside k) :
    s.SparesBeside (u.openRelease b k d reason) := by
  simp only [State.openRelease]
  split
  · exact h
  · split
    · exact (((h.subGranted.of_alt).setRecord hk).noteChange hk).orderOpen
    · exact ((h.setRecord hk).noteChange hk).orderOpen

theorem completeRelease {withStep : Bool} (h : s.SparesBeside u) (hk : ¬ s.Beside k) :
    s.SparesBeside (u.completeRelease b withStep k) := by
  simp only [State.completeRelease]
  split
  · exact h
  · split
    · refine endWait (noteChange (setRecord ?_ hk) hk)
      split
      · exact h.of_alt
      · exact h
    all_goals exact h

theorem settleRelease (h : s.SparesBeside u) (hk : ¬ s.Beside k) : s.SparesBeside (u.settleRelease b k) := by
  simp only [State.settleRelease]
  split
  · exact h
  · split
    · exact h.completeRelease hk
    · split
      · exact h
      · exact h.completeRelease hk
    · exact h

theorem beginRelease {d : Dest} {reason : Option Reason} (h : s.SparesBeside u) (hk : ¬ s.Beside k) :
    s.SparesBeside (u.beginRelease b k d reason) := ((h.openRelease hk).settleRelease hk).checkStrict

theorem setWanted {want : Bool} (h : s.SparesBeside u) (hk : ¬ s.Beside k) : s.SparesBeside (u.setWanted b k want) := by
  simp only [State.setWanted]
  split
  · exact h
  · split
    · exact h
    · split
      · exact (h.setRecord hk).noteChange hk
      · exact ((h.setRecord hk).noteChange hk).checkStrict
      · exact ((h.setRecord hk).noteChange hk).checkStrict
      · exact (h.setRecord hk).beginRelease hk
      · exact (h.setRecord hk).beginRelease hk
      all_goals exact h.setRecord hk

theorem clearCutWanted (h : s.SparesBeside u) : s.SparesBeside u.clearCutWanted := by
  simp only [State.clearCutWanted]
  split
  · exact checkStrict h.of_alt
  · exact h

/-- The saw's demand set or dropped, where the saw slot is the old one. -/
theorem sawWant {want : Bool} (h : s.SparesBeside u) (hslot : u.sawSlot = s.sawSlot) : s.SparesBeside (u.sawWant want) := by
  simp only [State.sawWant, hslot]
  split
  · exact h
  · next i hi =>
    obtain ⟨r, hr, hk⟩ := sawSlot_some hi
    exact h.setWanted fun hbeside => hbeside r hr hk

end State.SparesBeside

/-! ## Not switched: only slots, the change set and the strict slot (R13) -/

/-- The second state differs from the first in the slots, the change set and the strict slot alone. -/
def State.SlotsOnly (s u : State) : Prop :=
  ∃ slots changed strict, u = { s with alt := { s.alt with slots, changed, strict } }

theorem State.SlotsOnly.trans {v : State} (h : s.SlotsOnly u) (h' : u.SlotsOnly v) : s.SlotsOnly v := by
  obtain ⟨a, c, t, rfl⟩ := h
  obtain ⟨a', c', t', rfl⟩ := h'
  exact ⟨a', c', t', rfl⟩

theorem slotsOnly_refl (s : State) : s.SlotsOnly s := ⟨s.alt.slots, s.alt.changed, s.alt.strict, rfl⟩

theorem slotsOnly_setRecord (s : State) (i : Slot) (x : Option Allotment) : s.SlotsOnly (s.setRecord i x) :=
  ⟨s.alt.slots.set i x, s.alt.changed, s.alt.strict, rfl⟩

theorem slotsOnly_noteChange (s : State) (b : Bool) (i : Slot) : s.SlotsOnly (s.noteChange b i) := by
  rw [noteChange_eq]
  exact ⟨s.alt.slots, s.alt.changedBy b i, s.alt.strict, rfl⟩

theorem slotsOnly_checkStrict (s : State) : s.SlotsOnly s.checkStrict := by
  rcases checkStrict_cases s with h | ⟨j, -, -, h⟩
  · rw [h]
    exact slotsOnly_refl s
  · rw [h]
    exact ⟨_, s.alt.changed, none, rfl⟩

/-- The want of a record that is not switched is dropped at the record alone. -/
theorem slotsOnly_setWanted_off (hns : ∀ r, s.record i = some r → r.state ≠ .granted ∧ r.state ≠ .live) :
    s.SlotsOnly (s.setWanted b i false) := by
  rcases hr : s.record i with _ | r
  · simp only [State.setWanted, hr]
    exact slotsOnly_refl s
  · obtain ⟨hg, hl⟩ := hns r hr
    cases hw : r.wanted
    · rw [setWanted_same hr hw]
      exact slotsOnly_refl s
    · have hrest : (r.state = .idle ∨ (∃ d, r.state = .releasing d) ∨ ∃ h, r.state = .held h) →
          s.SlotsOnly (s.setWanted b i false) := fun hst => by
        rw [setWanted_off_resting hr hst]
        exact slotsOnly_setRecord ..
      have hwait : (r.state = .pending ∨ r.state = .shed) → s.SlotsOnly (s.setWanted b i false) := fun hst => by
        rw [setWanted_off_waiting hr hw hst]
        exact ((slotsOnly_setRecord ..).trans (slotsOnly_noteChange ..)).trans (slotsOnly_checkStrict _)
      cases hst : r.state with
      | idle => exact hrest (.inl hst)
      | releasing d => exact hrest (.inr (.inl ⟨d, hst⟩))
      | held h => exact hrest (.inr (.inr ⟨h, hst⟩))
      | pending => exact hwait (.inl hst)
      | shed => exact hwait (.inr hst)
      | granted => exact absurd hst hg
      | live => exact absurd hst hl

/-- The want of a saw record that is not switched is dropped at the record alone. -/
theorem slotsOnly_sawWant_off (hns : s.sawSwitched = false) : s.SlotsOnly (s.sawWant false) := by
  simp only [State.sawWant]
  split
  · exact slotsOnly_refl s
  · next i hi =>
    refine slotsOnly_setWanted_off fun r hr => ?_
    have hno : ¬ (r.state = .granted ∨ r.state = .live ∨ ∃ d, r.state = .releasing d) := fun hsw =>
      absurd ((sawSwitched_iff hi hr).mpr hsw) (by rw [hns]; nofun)
    exact ⟨fun h => hno (.inl h), fun h => hno (.inr (.inl h))⟩

/-! ## A saw record of the clutch (R24) -/

/-- The second state differs from the first at a slot, the clutch with its wait, and GOV; the record there has the given kind
and target, and is not wanted. -/
structure State.UnwantsAt (s : State) (i : Slot) (u : State) : Prop where
  relays : u.alt.relays = s.alt.relays
  flc : u.flc = s.flc
  slots : ∃ q, q.kind = .saw ∧ q.wanted = false ∧ u.alt.slots = s.alt.slots.set i (some q)

/-- The want of a slot's record is dropped by such a change, and at most the strict slot's check after it. -/
def State.WantDropsAt (s : State) (b : Bool) (i : Slot) : Prop :=
  ∃ u, s.UnwantsAt i u ∧ (s.setWanted b i false = u ∨ s.setWanted b i false = u.checkStrict)

/-- The want dropped from a saw record of the clutch, before the strict slot's check. -/
theorem setWanted_off_clutch {r : Allotment} (hr : s.record i = some r) (hk : r.kind = .saw) (ht : r.target = .clutch) :
    s.WantDropsAt b i := by
  cases hw : r.wanted
  · refine ⟨s, ⟨rfl, rfl, r, hk, hw, ?_⟩, .inl (setWanted_same hr hw)⟩
    have hself := congrArg (fun x : State => x.alt.slots) (setRecord_self hr)
    exact hself.symm
  · have hrest : (r.state = .idle ∨ (∃ d, r.state = .releasing d) ∨ ∃ h, r.state = .held h) → s.WantDropsAt b i := fun hst =>
      ⟨s.setRecord i (some { r with wanted := false }), ⟨rfl, rfl, { r with wanted := false }, hk, rfl, rfl⟩,
        .inl (setWanted_off_resting hr hst)⟩
    have hwait : (r.state = .pending ∨ r.state = .shed) → s.WantDropsAt b i := fun hst => by
      refine ⟨_, ⟨?_, ?_, { r with wanted := false, state := .idle, reason := some .demandOff }, hk, rfl, ?_⟩,
        .inr (setWanted_off_waiting hr hw hst)⟩ <;> rw [noteChange_eq] <;> rfl
    have hswitched : (r.state = .granted ∨ r.state = .live) → s.WantDropsAt b i := fun hst => by
      rw [State.WantDropsAt, setWanted_off_switched hr hw hst]
      have hrec := record_setRecord_self s i (some { r with wanted := false })
      cases hin : (s.setRecord i (some { r with wanted := false })).active .clutchIn
      · rw [beginRelease_clutch_out hrec hk ht hst hin]
        refine ⟨_, ?_, .inr rfl⟩
        refine ⟨rfl, rfl, { r with wanted := false, state := .idle, reason := some .demandOff, trimmed := true }, hk, rfl, ?_⟩
        exact slots_set_twice s i _ _
      · rw [beginRelease_clutch_in hrec hk ht hst hin]
        refine ⟨_, ?_, .inr rfl⟩
        refine ⟨rfl, rfl, { r with wanted := false, state := .releasing .idle, reason := some .demandOff }, hk, rfl, ?_⟩
        exact slots_set_twice s i _ _
    cases hst : r.state with
    | idle => exact hrest (.inl hst)
    | releasing d => exact hrest (.inr (.inl ⟨d, hst⟩))
    | held h => exact hrest (.inr (.inr ⟨h, hst⟩))
    | pending => exact hwait (.inl hst)
    | shed => exact hwait (.inr hst)
    | granted => exact hswitched (.inl hst)
    | live => exact hswitched (.inr hst)

/-- The want dropped from a saw record of the clutch: relays and field line stay, and the record stays the saw's, unwanted. -/
theorem sawWant_off_clutch {r : Allotment} (hi : s.sawSlot = some i) (hr : s.record i = some r) (ht : r.target = .clutch) :
    (s.sawWant false).alt.relays = s.alt.relays ∧ (s.sawWant false).flc = s.flc ∧ (s.sawWant false).sawSlot = some i ∧
      ∃ q, (s.sawWant false).record i = some q ∧ q.wanted = false := by
  simp only [State.sawWant, hi]
  obtain ⟨u, ⟨hrelays, hflc, q, hk, hw, hslots⟩, h⟩ := setWanted_off_clutch (b := true) hr (kind_of_sawSlot hi hr) ht
  have hslot : u.sawSlot = some i := sawSlot_of_set hi hk hslots
  have hrec : u.record i = some q := by
    show u.alt.slots.get i = _
    rw [hslots, vector_get_set_self]
  rcases h with h | h <;> rw [h]
  · exact ⟨hrelays, hflc, hslot, q, hrec, hw⟩
  · obtain ⟨slots, changed, strict, hcheck⟩ := slotsOnly_checkStrict u
    refine ⟨?_, ?_, (sawSlot_checkStrict u).trans hslot, ?_⟩
    · rw [hcheck]
      exact hrelays
    · rw [hcheck]
      exact hflc
    · rcases checkStrict_record u i with hsame | hzero
      · exact ⟨q, hsame.trans hrec, hw⟩
      · exact ⟨{ q with starve := 0 }, by rw [hzero, hrec, Option.map_some], hw⟩

end

end Sys2Proof.Machine
end

section
/-! SUPPORT. The soft restart: the field line's part, SAW's part, and the settling of the statement (R191). -/

namespace Sys2Proof.Machine

-- each theorem's proof is checked before the next begins, so that few threads are needed
set_option Elab.async false

/-! ## Marks given and taken (R141, R145) -/

/-- An entry without its mark. -/
def UnitEntry.unmarked (e : UnitEntry) : UnitEntry := { e with mark := none }

/-- The second field line differs from the first in marks, the transaction in flight and the owed broadcast at most. -/
structure Flc.Remarks (f g : Flc) : Prop where
  found : g.found = f.found
  sweep : g.sweep = f.sweep
  enrol : g.enrol = f.enrol
  entries : ∀ u, (g.units.get u).map UnitEntry.unmarked = (f.units.get u).map UnitEntry.unmarked

namespace Flc.Remarks

variable {f g h : Flc} {u : UnitIx} {e : UnitEntry}

theorem refl : f.Remarks f := ⟨rfl, rfl, rfl, fun _ => rfl⟩

theorem trans (hg : f.Remarks g) (hh : g.Remarks h) : f.Remarks h :=
  ⟨hh.found.trans hg.found, hh.sweep.trans hg.sweep, hh.enrol.trans hg.enrol, fun u => (hh.entries u).trans (hg.entries u)⟩

/-- A mark put on a unit or taken off it. -/
theorem remark (he : f.units.get u = some e) (m : Option Mark) : f.Remarks (f.setUnit u (some { e with mark := m })) := by
  refine ⟨rfl, rfl, rfl, fun v => ?_⟩
  show ((f.units.set u (some { e with mark := m })).get v).map _ = _
  by_cases hv : v = u
  · rw [hv, vector_get_set_self, he]
    rfl
  · rw [vector_get_set_ne _ _ hv]

/-- A mark given while the line is free and no unit MISSING. -/
theorem giveMark (htx : f.tx = none) (hseen : ∀ e, f.units.get u = some e → e.reach ≠ .missing) (now : Nat) (cls : MarkClass) :
    f.Remarks (f.giveMark now cls u) ∧ (f.giveMark now cls u).tx = none := by
  rcases he : f.units.get u with _ | e
  · rw [giveMark_none he]
    exact ⟨refl, htx⟩
  · have hv : f.visitTo u = none := by simp only [Flc.visitTo, htx]
    rw [giveMark_of_seen he hv (hseen e he)]
    exact ⟨remark he _, htx⟩

theorem beginVisit (cls : MarkClass) : f.Remarks (f.beginVisit u cls) := by
  simp only [Flc.beginVisit]
  split
  · exact refl
  · next e he =>
    have hmark := remark he none
    exact ⟨hmark.found, hmark.sweep, hmark.enrol, hmark.entries⟩

theorem visitOf {cls : MarkClass} (hg : f.visitOf cls = some g) : f.Remarks g := by
  simp only [Flc.visitOf, Option.map_eq_some_iff] at hg
  obtain ⟨u, -, rfl⟩ := hg
  exact beginVisit cls

theorem nextWork (hg : f.nextWork = some g) : f.Remarks g := by
  simp only [Flc.nextWork] at hg
  split at hg
  · obtain rfl := Option.some.inj hg
    exact ⟨rfl, rfl, rfl, fun _ => rfl⟩
  · have hseek : ∀ {b : Bool} {o : SeekOwner}, (if b then some { f with tx := some (.seek o) } else none) = some g →
        f.Remarks g := by
      intro b o h
      split at h
      · obtain rfl := Option.some.inj h
        exact ⟨rfl, rfl, rfl, fun _ => rfl⟩
      · cases h
    simp only [Option.or_eq_some_iff] at hg
    rcases hg with hg | ⟨-, hg | ⟨-, hg | ⟨-, hg | ⟨-, hg | ⟨-, hg⟩⟩⟩⟩⟩
    · exact visitOf hg
    · exact visitOf hg
    · exact hseek hg
    · exact visitOf hg
    · exact hseek hg
    · exact visitOf hg

theorem arbitrate (f : Flc) : f.Remarks f.arbitrate := by
  simp only [Flc.arbitrate]
  split
  · exact refl
  · rcases hg : f.nextWork with _ | g
    · exact refl
    · exact nextWork hg

/-- The entry of a remarked field line. -/
theorem entry (hg : f.Remarks g) (he : f.units.get u = some e) : ∃ e', g.units.get u = some e' ∧ e'.unmarked = e.unmarked := by
  have h := hg.entries u
  rw [he] at h
  exact Option.map_eq_some_iff.mp h

end Flc.Remarks

/-! ## The field line's part (R152) -/

section
variable {s t : State} {u : UnitIx} {e : UnitEntry} {i : Slot} {r : Allotment}

/-- A unit's entry after the field line's soft restart. -/
theorem flcRestart_entry (s : State) (u : UnitIx) : s.flcRestart.flc.units.get u =
    (s.flc.units.get u).map fun e => e.restarted ⟨s.restartClass u, s.now⟩ := by
  show (Vector.ofFn _).get u = _
  simp only [Vector.get_ofFn]

/-- The restarted field line while work goes on: remarked, the line free. -/
theorem remarks_of_works (hw : Works s t) (htx : s.flc.tx = none)
    (hseen : ∀ u e, s.flc.units.get u = some e → e.reach ≠ .missing) : s.flc.Remarks t.flc := by
  have hkept : s.flc.Remarks t.flc ∧ t.flc.tx = none := by
    refine hw.keep (P := fun v => s.flc.Remarks v.flc ∧ v.flc.tx = none) (fun {v w} p h => ?_) ⟨.refl, htx⟩
    cases p with
    | mark cls u =>
      obtain ⟨hmarks, hfree⟩ := h
      have hreach : ∀ e, v.flc.units.get u = some e → e.reach ≠ .missing := fun e he => by
        have hentry := hmarks.entries u
        rw [he] at hentry
        obtain ⟨e₀, he₀, heq⟩ := Option.map_eq_some_iff.mp hentry.symm
        have hsame := congrArg UnitEntry.reach heq
        exact fun hmissing => hseen u e₀ he₀ (hsame.trans hmissing)
      obtain ⟨hnext, hfree'⟩ := Flc.Remarks.giveMark hfree hreach v.now cls
      exact ⟨hmarks.trans hnext, hfree'⟩
    | _ => exact h
  exact hkept.1

/-- Whether some record on a unit passes, where targets are distinct. -/
theorem anyOn_iff (hone : s.TargetsOk) {p : Allotment → Bool} :
    s.anyOn u p = true ↔ ∃ i r o, s.record i = some r ∧ r.target = .field u o ∧ p r = true := by
  simp only [State.anyOn, List.any_eq_true]
  constructor
  · rintro ⟨o, -, h⟩
    rcases hslot : s.slotOf (.field u o) with _ | i
    · rw [hslot] at h
      cases h
    · obtain ⟨r, hr, ht⟩ := slotOf_some hslot
      rw [hslot, Option.bind_some, hr] at h
      exact ⟨i, r, o, hr, ht, h⟩
  · rintro ⟨i, r, o, hr, ht, hp⟩
    refine ⟨o, List.mem_finRange o, ?_⟩
    have hslot : s.slotOf r.target = some i := slotOf_of_unique hr fun j r' hr' hsame => hone j i r' r hr' hr hsame
    rw [ht] at hslot
    rw [hslot, Option.bind_some, hr]
    exact hp

/-- A unit with a RELEASING record is marked OPEN (R152). -/
theorem restartClass_opening (hone : s.TargetsOk)
    (h : ∃ i r o d, s.record i = some r ∧ r.target = .field u o ∧ r.state = .releasing d) : s.restartClass u = .opening := by
  obtain ⟨i, r, o, d, hr, ht, hst⟩ := h
  exact if_pos ((anyOn_iff hone).mpr ⟨i, r, o, hr, ht, isReleasing_iff.mpr ⟨d, hst⟩⟩)

/-- Without a RELEASING record a unit is marked by its GRANTED ones (R152). -/
theorem restartClass_resting (hone : s.TargetsOk)
    (h : ∀ i r o d, s.record i = some r → r.target = .field u o → r.state ≠ .releasing d) :
    s.restartClass u = if s.anyOn u (fun r => r.state == .granted) then .closing else .routine := by
  refine if_neg fun hany => ?_
  obtain ⟨i, r, o, hr, ht, hrel⟩ := (anyOn_iff hone).mp hany
  obtain ⟨d, hst⟩ := isReleasing_iff.mp hrel
  exact h i r o d hr ht hst

/-- CLOSE with a GRANTED record on the unit, ROUTINE without (R152). -/
theorem restartClass_granted (hone : s.TargetsOk)
    (h : ∀ i r o d, s.record i = some r → r.target = .field u o → r.state ≠ .releasing d) :
    ((∃ i r o, s.record i = some r ∧ r.target = .field u o ∧ r.state = .granted) → s.restartClass u = .closing) ∧
    ((∀ i r o, s.record i = some r → r.target = .field u o → r.state ≠ .granted) → s.restartClass u = .routine) := by
  rw [restartClass_resting hone h]
  refine ⟨fun ⟨i, r, o, hr, ht, hst⟩ => if_pos ?_, fun hno => if_neg fun hany => ?_⟩
  · exact (anyOn_iff hone).mpr ⟨i, r, o, hr, ht, beq_iff_eq.mpr hst⟩
  · obtain ⟨i, r, o, hr, ht, hst⟩ := (anyOn_iff hone).mp hany
    exact hno i r o hr ht (beq_iff_eq.mp hst)

/-! ## SAW's part (R176) -/

/-- SAW after the soft restart, but for the state it enters. -/
def Saw.restarted (w : Saw) : Saw :=
  { w with cutWanted := false, remembered := none, setting := none, stroke := none, ret := none, feedRate := 0
           spinTimer := none, waitTimer := none, settleTimer := none, feed := .idle, setworks := .idle
           stopFlag := false, cuts := [], nextNumber := 0 }

/-- SAW's part before the want is dropped. -/
def State.restartBase (s : State) : State :=
  ((s.onSaw Saw.stopMotion).clearCutWanted).onSaw fun w => { w.dropPhase with stopFlag := false, cuts := [], nextNumber := 0 }

/-- SAW's part before its state is entered. -/
def State.restartWork (s : State) : State := s.restartBase.sawWant false

theorem sawRestart_eq (s : State) : s.sawRestart = s.restartWork.onSaw fun w =>
    { w with st := if s.restartWork.sawReleasing then .releasing else .idle } := rfl

theorem restartWork_works (s : State) : Works s s.restartWork :=
  ((Works.refl.onSaw.clearCutWanted).onSaw (hf := List.nil_suffix)).sawWant

theorem restartWork_saw (s : State) : s.restartWork.saw = s.saw.restarted := by
  simp only [State.restartWork, State.restartBase, sawWant_saw, onSaw_saw, clearCutWanted_saw]
  rfl

theorem sawWant_rqp (s : State) (want : Bool) : (s.sawWant want).rqp = s.rqp := by
  simp only [State.sawWant]
  split
  · rfl
  · exact setWanted_rqp ..

theorem restartWork_rqp (s : State) : s.restartWork.rqp = s.rqp := by
  rw [State.restartWork, sawWant_rqp]
  exact clearCutWanted_rqp _

/-- Before the want is dropped nothing but SAW, the slots and the strict slot has changed. -/
theorem restartBase_slotsOnly (s : State) : ∃ f, (s.onSaw f).SlotsOnly s.restartBase := by
  have hclear : ∃ f, (s.onSaw f).SlotsOnly (s.onSaw Saw.stopMotion).clearCutWanted := by
    simp only [State.clearCutWanted]
    split
    · exact ⟨fun w => { w.stopMotion with cutWanted := false }, slotsOnly_checkStrict _⟩
    · exact ⟨Saw.stopMotion, slotsOnly_refl _⟩
  obtain ⟨f, slots, changed, strict, hf⟩ := hclear
  refine ⟨fun w => { (f w).dropPhase with stopFlag := false, cuts := [], nextNumber := 0 }, slots, changed, strict, ?_⟩
  rw [State.restartBase, hf]
  rfl

theorem restartBase_sawSlot (s : State) : s.restartBase.sawSlot = s.sawSlot := by
  show (s.onSaw Saw.stopMotion).clearCutWanted.sawSlot = s.sawSlot
  simp only [State.clearCutWanted, State.setCutWanted]
  split
  · exact sawSlot_checkStrict _
  · rfl

theorem restartBase_record (s : State) (i : Slot) :
    s.restartBase.record i = s.record i ∨ s.restartBase.record i = (s.record i).map fun r => { r with starve := 0 } := by
  show (s.onSaw Saw.stopMotion).clearCutWanted.record i = _ ∨ (s.onSaw Saw.stopMotion).clearCutWanted.record i = _
  simp only [State.clearCutWanted, State.setCutWanted]
  split
  · exact checkStrict_record ((s.onSaw Saw.stopMotion).onSaw fun w => { w with cutWanted := false }) i
  · exact .inl rfl

/-- The saw record before the want is dropped: its starve count alone may have changed. -/
theorem restartBase_sawRecord (hr : s.record i = some r) : ∃ n, s.restartBase.record i = some { r with starve := n } := by
  rcases restartBase_record s i with h | h
  · exact ⟨r.starve, h.trans hr⟩
  · exact ⟨0, by rw [h, hr, Option.map_some]⟩

theorem restartBase_sawSwitched (hns : s.sawSwitched = false) : s.restartBase.sawSwitched = false := by
  rcases hi : s.sawSlot with _ | i
  · simp only [State.sawSwitched, State.sawRecord, restartBase_sawSlot, hi, Option.bind_none]
  · obtain ⟨r, hr, -⟩ := sawSlot_some hi
    obtain ⟨n, hr'⟩ := restartBase_sawRecord hr
    refine eq_false_of_ne_true fun hsw => ?_
    have hsw' := (sawSwitched_iff ((restartBase_sawSlot s).trans hi) hr').mp hsw
    exact absurd ((sawSwitched_iff hi hr).mpr hsw') (by rw [hns]; nofun)

/-- With no switched saw record SAW's part leaves all but SAW, the slots, the change set and the strict slot. -/
theorem restartWork_slotsOnly (hns : s.sawSwitched = false) : ∃ f, (s.onSaw f).SlotsOnly s.restartWork := by
  obtain ⟨f, hf⟩ := restartBase_slotsOnly s
  exact ⟨f, hf.trans (slotsOnly_sawWant_off (restartBase_sawSwitched hns))⟩

theorem restartWork_spares (s : State) : s.SparesBeside s.restartWork := by
  refine State.SparesBeside.sawWant ?_ (restartBase_sawSlot s)
  exact State.SparesBeside.of_alt (State.SparesBeside.clearCutWanted (u := s.onSaw Saw.stopMotion) (State.SparesBeside.refl.of_alt))

/-- With a saw record of the clutch. -/
theorem restartWork_clutch (hi : s.sawSlot = some i) (hr : s.record i = some r) (ht : r.target = .clutch) :
    s.restartWork.alt.relays = s.alt.relays ∧ s.restartWork.flc = s.flc ∧ s.restartWork.sawSlot = some i ∧
      ∃ q, s.restartWork.record i = some q ∧ q.wanted = false := by
  obtain ⟨n, hr'⟩ := restartBase_sawRecord hr
  obtain ⟨hrelays, hflc, hslot, hq⟩ := sawWant_off_clutch ((restartBase_sawSlot s).trans hi) hr' ht
  obtain ⟨f, slots, changed, strict, hbase⟩ := restartBase_slotsOnly s
  refine ⟨hrelays.trans ?_, hflc.trans ?_, hslot, hq⟩ <;> rw [hbase] <;> rfl

/-- Without a saw record. -/
theorem restartWork_recordless (hi : s.sawSlot = none) :
    s.restartWork.alt.relays = s.alt.relays ∧ s.restartWork.flc = s.flc ∧ s.restartWork.sawSlot = none := by
  have hslot := (restartBase_sawSlot s).trans hi
  have heq : s.restartWork = s.restartBase := by simp only [State.restartWork, State.sawWant, hslot]
  obtain ⟨f, slots, changed, strict, hbase⟩ := restartBase_slotsOnly s
  rw [heq]
  refine ⟨?_, ?_, hslot⟩ <;> rw [hbase] <;> rfl

/-- Where the kind SAW goes with the clutch, SAW's part leaves the field line. -/
theorem restartWork_flc (hk : s.KindsOk) : s.restartWork.flc = s.flc := by
  rcases hi : s.sawSlot with _ | i
  · exact (restartWork_recordless hi).2.1
  · obtain ⟨r, hr, hkind⟩ := sawSlot_some hi
    exact (restartWork_clutch hi hr ((hk i r hr).mp hkind)).2.1

/-! ## The whole restart (R191) -/

/-- The state SAW's part of a restart begins from. -/
def State.restarting (s : State) : State := (s.cleared.onInu Inu.restarted).flcRestart

/-- RESTART at a ready port (R191). -/
theorem exec_restart (h : s.Ready) : exec .restart s = .next (s.cleared.softRestart.arbitrate.onRqp fun r =>
    { r with exec := some ⟨.done, []⟩ }) := request_arbitrates_here h rfl rfl

/-- The field line after the restart: its own part, remarked. -/
theorem restart_remarks (s : State) : s.restarting.flc.Remarks s.cleared.softRestart.arbitrate.flc := by
  have hseen : ∀ u e, s.restarting.flc.units.get u = some e → e.reach ≠ .missing := fun u e he => by
    rw [State.restarting, flcRestart_entry] at he
    obtain ⟨e₀, -, rfl⟩ := Option.map_eq_some_iff.mp he
    nofun
  exact (remarks_of_works (restartWork_works s.restarting) rfl hseen).trans (Flc.Remarks.arbitrate _)

/-- An entry through the restart: all but the mark (R152). -/
theorem softRestart_entry (he : s.flc.units.get u = some e) : ∃ e', s.cleared.softRestart.arbitrate.flc.units.get u = some e' ∧
    e'.unmarked = (e.restarted ⟨s.restartClass u, s.now⟩).unmarked := by
  have hentry : s.restarting.flc.units.get u = some (e.restarted ⟨s.restartClass u, s.now⟩) := by
    rw [State.restarting, flcRestart_entry]
    exact (congrArg _ he).trans rfl
  exact (restart_remarks s).entry hentry

/-- The saw record after SAW's part: unwanted, and SAW told of its release (R176). -/
theorem restart_sawRecord (hi : s.sawSlot = some i) (hr : s.record i = some r) (ht : r.target = .clutch) :
    ∃ q, s.sawRestart.record i = some q ∧ q.wanted = false ∧
      (s.sawRestart.saw.st = .releasing ↔ ∃ d, q.state = .releasing d) := by
  obtain ⟨-, -, hslot, q, hq, hw⟩ := restartWork_clutch hi hr ht
  refine ⟨q, hq, hw, ?_⟩
  rw [← isReleasing_iff, ← sawReleasing_of_slot hslot hq, sawRestart_eq]
  show (if s.restartWork.sawReleasing then SawState.releasing else .idle) = .releasing ↔ _
  split <;> simp_all

/-- SAW after its part of the restart (R176). -/
theorem sawRestart_saw (s : State) : s.sawRestart.saw =
    { s.saw.restarted with st := if s.restartWork.sawReleasing then .releasing else .idle } := by
  rw [← restartWork_saw]
  rfl

/-- The field line of a restart that finds the saw's record at the clutch, exactly (R152). -/
theorem softRestart_flc (hk : s.KindsOk) : s.cleared.softRestart.flc = s.restarting.flc := restartWork_flc (s := s.restarting) hk

/-- What a restart leaves where no switched saw record is released (R49, R176). -/
theorem softRestart_quiet (hns : s.sawSwitched = false) : s.cleared.softRestart.gov = s.gov ∧
    s.cleared.softRestart.alt.gOut = s.alt.gOut ∧ s.cleared.softRestart.alt.clutch = s.alt.clutch ∧
    s.cleared.softRestart.alt.wait = s.alt.wait := by
  obtain ⟨f, slots, changed, strict, h⟩ := restartWork_slotsOnly (s := s.restarting) hns
  have hgov : s.cleared.softRestart.gov = s.restarting.restartWork.gov := rfl
  have halt : s.cleared.softRestart.alt = s.restarting.restartWork.alt := rfl
  rw [hgov, halt, h]
  exact ⟨rfl, rfl, rfl, rfl⟩

/-- The port after the restart (R183, R191). -/
theorem softRestart_port (s : State) : s.cleared.softRestart.rqp.latched = 0 ∧ s.cleared.softRestart.rqp.mask = s.rqp.mask ∧
    s.cleared.softRestart.rqp.overrun = false ∧ s.cleared.softRestart.rqp.form = s.rqp.form ∧
    s.cleared.softRestart.rqp.addrBit = s.rqp.addrBit := by
  have hrqp : s.cleared.softRestart.rqp = { s.restarting.restartWork.rqp with latched := 0 } := rfl
  rw [hrqp, restartWork_rqp]
  exact ⟨rfl, rfl, rfl, rfl, rfl⟩

/-- The inputs after the restart (R62, R65). -/
theorem softRestart_inu (s : State) : s.cleared.softRestart.inu = s.inu.restarted := (restartWork_works s.restarting).inu

/-- The parameters stand. -/
theorem softRestart_params (s : State) : s.cleared.softRestart.params = s.params := by
  have houter := congrArg (fun o => o.2.2.1) (restartWork_works s.restarting).outer
  exact houter

/-- SAW after the restart (R176). -/
theorem softRestart_saw (s : State) : s.cleared.softRestart.saw =
    { s.saw.restarted with st := if s.restarting.restartWork.sawReleasing then .releasing else .idle } :=
  sawRestart_saw s.restarting

/-- SAW's lists, records, flags and steppers cleared, and SAW in SAW_IDLE or RELEASING_SAW; the last cause and the scale are
kept (R176). -/
structure Saw.ClearedFrom (w w' : Saw) : Prop where
  orders : w'.cuts = [] ∧ w'.nextNumber = 0 ∧ w'.stopFlag = false ∧ w'.cutWanted = false
  phase : w'.setting = none ∧ w'.stroke = none ∧ w'.ret = none ∧ w'.remembered = none
  motion : w'.feed = .idle ∧ w'.setworks = .idle
  st : w'.st = .idle ∨ w'.st = .releasing
  kept : w'.cause = w.cause ∧ w'.scale = w.scale

theorem softRestart_saw_cleared (s : State) : s.saw.ClearedFrom s.cleared.softRestart.saw := by
  rw [softRestart_saw]
  refine ⟨⟨rfl, rfl, rfl, rfl⟩, ⟨rfl, rfl, rfl, rfl⟩, ⟨rfl, rfl⟩, ?_, ⟨rfl, rfl⟩⟩
  show (if s.restarting.restartWork.sawReleasing then SawState.releasing else .idle) = .idle ∨
    (if s.restarting.restartWork.sawReleasing then SawState.releasing else .idle) = .releasing
  split
  · exact .inr rfl
  · exact .inl rfl

/-- ALT beside the saw record (R1, R30, R49). -/
theorem softRestart_spares (s : State) : s.SparesBeside s.cleared.softRestart := by
  obtain ⟨hclocks, hstrict, hchanged, hrecord⟩ := restartWork_spares s.restarting
  exact ⟨hclocks, hstrict, hchanged, hrecord⟩

/-- The restart with a saw record of the clutch (R24, R176). -/
theorem softRestart_clutch (hi : s.sawSlot = some i) (hr : s.record i = some r) (ht : r.target = .clutch) :
    s.cleared.softRestart.alt.relays = s.alt.relays ∧ ∃ q, s.cleared.softRestart.record i = some q ∧ q.wanted = false ∧
      (s.cleared.softRestart.saw.st = .releasing ↔ ∃ d, q.state = .releasing d) := by
  obtain ⟨hrelays, -, -, -⟩ := restartWork_clutch (s := s.restarting) hi hr ht
  exact ⟨hrelays, restart_sawRecord (s := s.restarting) hi hr ht⟩

/-- The restart without a saw record (R176). -/
theorem softRestart_recordless (hi : s.sawSlot = none) :
    s.cleared.softRestart.alt.relays = s.alt.relays ∧ s.cleared.softRestart.saw.st = .idle := by
  obtain ⟨hrelays, -, hslot⟩ := restartWork_recordless (s := s.restarting) hi
  refine ⟨hrelays, ?_⟩
  rw [softRestart_saw, sawReleasing_of_none hslot]
  rfl

/-- Sweep and enrolment after the field line's part are over, the found list stands (R152). -/
theorem restarting_series (s : State) : s.restarting.flc.sweep.isOpen = false ∧ s.restarting.flc.enrol.running = false ∧
    s.restarting.flc.found = s.flc.found := by
  have hsweep : s.restarting.flc.sweep = if s.flc.sweep.isOpen then Sweep.closed else s.flc.sweep := rfl
  have henrol : s.restarting.flc.enrol = if s.flc.enrol.running then
    { s.flc.enrol with running := false, ended := .restart, series := Series.fresh } else s.flc.enrol := rfl
  rw [hsweep, henrol]
  refine ⟨?_, ?_, ?_⟩
  · split
    · rfl
    · next h => exact eq_false_of_ne_true h
  · split
    · rfl
    · next h => exact eq_false_of_ne_true h
  · simp only [State.restarting, State.flcRestart, State.onFlc, State.onInu, State.cleared, State.onRqp]

/-- What an entry keeps and loses, its mark aside (R152). -/
theorem entry_of_restarted {e' : UnitEntry} {m : Mark} (h : e'.unmarked = (e.restarted m).unmarked) : e'.identity = e.identity ∧
    e'.plate = e.plate ∧ e'.reported = e.reported ∧ e'.reach = .unseen ∧ e'.failures = 0 ∧ e'.owed = none ∧
    ∀ o, e'.meters.get o = none := by
  simp only [UnitEntry.unmarked, UnitEntry.restarted, UnitEntry.mk.injEq] at h
  simp_all

end

/-- Settles O8: each block's part, then the line handed on. -/
theorem softRestartKeepsAndClears : Obligations.SoftRestartKeepsAndClears := by
  intro s h
  obtain ⟨hlatched, hmask, hoverrun, hform, haddr⟩ := softRestart_port s
  obtain ⟨⟨hcuts, hnumber, hstop, hcut⟩, ⟨hsetting, hstroke, hret, hremembered⟩, ⟨hfeed, hsetworks⟩, hst, hcause, hscale⟩ :=
    softRestart_saw_cleared s
  obtain ⟨hclocks, hstrict, hchanged, hrecord⟩ := softRestart_spares s
  simp only [Alt.clocks, Prod.mk.injEq] at hclocks
  obtain ⟨hwalk, hlow, hsettle, hoff, hhead⟩ := hclocks
  obtain ⟨hfound, hsweep, henrol, -⟩ := restart_remarks s
  obtain ⟨hclosed, hended, hlist⟩ := restarting_series s
  obtain ⟨hcount, hhomed, hchans, hestop, hguard, hstamp⟩ : s.cleared.softRestart.inu.count = 0 ∧
      s.cleared.softRestart.inu.homed = false ∧ s.cleared.softRestart.inu.chans = s.inu.chans ∧
      s.cleared.softRestart.inu.estopLatch = s.inu.estopLatch ∧ s.cleared.softRestart.inu.guardLatch = s.inu.guardLatch ∧
      s.cleared.softRestart.inu.lastStamp = s.inu.lastStamp := by
    rw [softRestart_inu]
    exact ⟨rfl, rfl, rfl, rfl, rfl, rfl⟩
  have hparams := softRestart_params s
  have hquiet := softRestart_quiet (s := s)
  have hentry := fun u e => softRestart_entry (s := s) (u := u) (e := e)
  have hclutch := fun i r => softRestart_clutch (s := s) (i := i) (r := r)
  have hrecordless := softRestart_recordless (s := s)
  have hflc := softRestart_flc (s := s)
  have hexec := exec_restart h
  rw [hlist] at hfound
  rw [← hsweep] at hclosed
  rw [← henrol] at hended
  generalize s.cleared.softRestart = u at *
  refine ⟨_, hexec, rfl, hlatched, hmask, hparams, hcount, hhomed, hchans, hestop, hguard, hstamp, hcuts, hnumber, hstop, hcut,
    hsetting, hstroke, hret, hremembered, hfeed, hsetworks, hst, hcause, hfound, hclosed, hended, fun v e he => ?_,
    fun hns => (hquiet hns).1, hscale, hoverrun, hform, haddr, hwalk, hlow, hsettle, hoff, hhead, fun hns => (hquiet hns).2,
    fun i hi => ⟨hchanged i hi, hrecord i hi⟩, fun hnone => hstrict.elim id fun hsame => hsame.trans hnone, hclutch, hrecordless,
    fun hone hk => ?_⟩
  · obtain ⟨e', he', heq⟩ := hentry v e he
    exact ⟨e', he', entry_of_restarted heq⟩
  · refine ⟨s.restarting.flc, congrArg Flc.arbitrate (hflc hk), rfl, fun v hv => ?_, fun v e he => ?_⟩
    · rw [State.restarting, flcRestart_entry]
      exact congrArg (Option.map _) hv
    · refine ⟨s.restartClass v, ?_, restartClass_opening hone, restartClass_granted hone⟩
      rw [State.restarting, flcRestart_entry]
      exact congrArg (Option.map _) he

end Sys2Proof.Machine
end
